-- ==== Sys2Proof/Word.lean ====
section
/-! DEFINITION. The plain number and bit types of the BN-64 model. -/

namespace Sys2Proof

/-- One payload byte of a wing bus frame (R172). -/
abbrev Byte := BitVec 8

/-- A bin id, 1 to 65,534 (R10); 0 and 65,535 can stand in a frame and name no bin. -/
abbrev BinId := Nat

/-- An item id, 1 to 4,294,967,295 (R12); 0 stands for none. -/
abbrev ItemId := Nat

/-- A station number, 1 to 31; 0 is the address of all stations (R172). -/
abbrev Station := Nat

/-- A frame tag, 0 to 255 (R172). -/
abbrev Tag := Nat

/-- A set of fire zones, bit z for zone z (R149, R177). -/
abbrev ZoneSet := BitVec 16

/-- A fire zone, 0 to 15 (R162). -/
abbrev Zone := BitVec 4

end Sys2Proof
end

