-- ==== Sys2Proof/Syntax.lean ====
section
/-! DEFINITION. The commands of the BN-64: one constructor of `Instr` per row of
spec/opcode_table.json, with the operands each row's event or frame carries. -/

namespace Sys2Proof

/-- The two sides a bay shares with a neighbour (R99, R178: WEST, EAST). -/
inductive Side where
  | west
  | east
  deriving DecidableEq, Repr

/-- The three fire shutters (R139). -/
inductive ShutterId where
  | west
  | east
  | chute
  deriving DecidableEq, Repr

/-- Where a shutter can come to rest, and what it can be asked (R125). -/
inductive ShutterPos where
  | opened
  | closed
  deriving DecidableEq, Repr

/-- A position the gantry can be sent to (R125): a column, the chute, a slot or park. -/
inductive Pos where
  | column (c : Nat)
  | chute
  | slot (side : Side)
  | park
  deriving DecidableEq, Repr

/-- The header fields of a carried frame that its taker reads (R172): source station,
destination (0 for all stations) and tag. -/
structure Header where
  src : Station
  dst : Station
  tag : Tag
  deriving DecidableEq, Repr

/-- The strap pins as read at a reset (R162). -/
structure StrapPins where
  stn : BitVec 5
  zn : BitVec 4
  wd : BitVec 3
  dp : BitVec 3
  ht : BitVec 2
  fpol : Bool
  deriving DecidableEq, Repr

/-- What HOMED says of the hand (R125): EMPTY, or LOADED with a tag or NO_TAG. -/
inductive HandReport where
  | empty
  | loaded (tag : Option BinId)
  deriving DecidableEq, Repr

/-- An item slot as a record frame carries it: a state byte and an item id (R177). -/
structure RawSlot where
  state : Nat
  item : ItemId
  deriving DecidableEq, Repr

/-- The 44-byte bin record of RECORD and SLOT LOADED, as sent, before it is brought into range
(R10, R177). -/
structure RawRecord where
  bin : BinId
  demand : Nat
  marks : Byte
  slots : List RawSlot
  deriving DecidableEq, Repr

/-- One detector type's thresholds and hysteresis as a SETUP carries them (R143, R167). -/
structure RawThresholds where
  t1 : Nat
  t2 : Nat
  t3 : Nat
  h : Nat
  deriving DecidableEq, Repr

/-- The fields of a SETUP frame, as sent, before they are brought into range (R167, R177). -/
structure SetupFrame where
  loanFetch : Nat
  staffFetch : Nat
  returnFetch : Nat
  verify : Nat
  stow : Nat
  spill : Nat
  reserve : Nat
  statePeriod : Nat
  claimWindow : Nat
  bidWindow : Nat
  handoverWindow : Nat
  motionTimeout : Nat
  arrivalWindow : Nat
  decayPeriod : Nat
  window : Nat
  heat : RawThresholds
  smoke : RawThresholds
  types : List Nat
  deriving DecidableEq, Repr

/-- The fields of a neighbour's STATE that are read (R101, R168): node state code, free
positions, reserve and zone. -/
structure StateFrame where
  nodeState : Nat
  free : Nat
  reserve : Nat
  zone : Nat
  deriving DecidableEq, Repr

/-- The fields of a neighbour's ANNOUNCE (R166, R177). -/
structure AnnounceFrame where
  role : Nat
  station : Station
  zone : Nat
  w : Nat
  d : Nat
  c : Nat
  free : Nat
  deriving DecidableEq, Repr

/-- The fields of an OFFER (R83, R177). -/
structure OfferFrame where
  holder : Station
  bin : BinId
  demand : Nat
  loans : Nat
  desk : Station
  deriving DecidableEq, Repr

/-- The arbitration word another station puts up against the node's (R172, R173). -/
structure ArbWord where
  level : Nat
  rank : Nat
  source : Station
  deriving DecidableEq, Repr

/-- What the node reads back while it sends (R171): the best arbitration word another station puts up, if
any, and the bits read back past the arbitration word up to the check, where they are not those driven. -/
structure ReadBack where
  rival : Option ArbWord
  past : Option (List Bool)
  deriving DecidableEq, Repr

/-- What a carried frame holds beside its header, before any owner reads it (R172): level, rank, the kind's
number in the catalogue, and the payload bytes. -/
structure RawBody where
  level : Nat
  rank : Nat
  kind : Nat
  payload : List Byte
  deriving DecidableEq, Repr

/-- The commands of the BN-64, in the order of spec/opcode_table.json. -/
inductive Instr where
  | reset (pins : StrapPins) (firePin : Bool)
  | fireLineChange (level : Bool)
  | sensorSample (input reading : Nat)
  | storeUpdateComplete
  | picked (tag : Option BinId)
  | placed (pos : Pos)
  | abandoned
  | parked
  | homed (hand : HandReport)
  | shutterDone (sh : ShutterId) (pos : ShutterPos)
  | faultEmptyPick
  | faultOccupiedPlace
  | faultBlocked
  | faultDrive
  | arrival (tag : Option BinId)
  | chuteTaken
  | senseReport (occupied : Bool)
  | motionTimerExpiry
  | shutterTimerExpiry (sh : ShutterId)
  | decayTimerExpiry
  | statePeriodExpiry
  | neighbourAbsent (side : Side)
  | claimTimerExpiry (side : Side)
  | bidTimerExpiry (ctx : Nat)
  | closeTimerExpiry (tag : Tag)
  | handoverTimerExpiry (bin : BinId)
  | arrivalTimerExpiry (ctx : Nat)
  | transmitContend (back : ReadBack)
  | ownFrameSent
  | frameVoided
  | receivedFrameIgnored (h : Header) (f : RawBody)
  | setup (h : Header) (f : SetupFrame)
  | columnLoad (h : Header) (column count : Nat) (bins : List BinId)
  | loadEnd (h : Header)
  | fetch (h : Header) (cls : Nat) (flags : Byte) (count : Nat) (bins : List BinId)
  | verify (h : Header) (flags : Byte) (count : Nat) (bins : List BinId)
  | cancel (h : Header)
  | stowReady (h : Header) (bin : BinId) (desk : Station)
  | lend (h : Header) (bin : BinId) (slot : Nat) (item : ItemId)
  | refill (h : Header) (bin : BinId) (slot : Nat) (item : ItemId)
  | withdraw (h : Header) (bin : BinId) (slot : Nat) (item : ItemId)
  | accession (h : Header) (bin : BinId) (slot : Nat) (item : ItemId)
  | returnQuery (h : Header) (item : ItemId)
  | chuteClear (h : Header)
  | slotReclaim (h : Header) (side : Nat)
  | restart (h : Header)
  | queryBinRecord (h : Header) (bin : BinId)
  | queryColumn (h : Header) (arg : Nat)
  | queryJobSummary (h : Header)
  | queryDetectors (h : Header)
  | queryNeighbours (h : Header)
  | queryCounters (h : Header)
  | fire (h : Header) (zones : ZoneSet)
  | fireClear (h : Header) (zones : ZoneSet)
  | alarm (h : Header) (zone : Nat)
  | announce (h : Header) (f : AnnounceFrame)
  | state (h : Header) (f : StateFrame)
  | offer (h : Header) (f : OfferFrame)
  | bid (h : Header) (holder : Station) (bin : BinId)
  | refuseOfferClosed (h : Header)
  | recordHandover (h : Header) (r : RawRecord)
  | recordSurvey (h : Header) (r : RawRecord)
  | adopted (h : Header) (bin : BinId)
  | slotClaim (h : Header) (bin : BinId)
  | slotGrant (h : Header) (bin : BinId)
  | slotRefuse (h : Header) (reason : Nat)
  | slotLoaded (h : Header) (r : RawRecord)
  | slotTaken (h : Header) (bin : BinId)
  | receiveFilterDiscard (h : Header)
  deriving DecidableEq, Repr

end Sys2Proof
end

