-- ==== Sys2Proof/Config.lean ====
section
/-! DEFINITION. What the manual leaves to the board (the straps of the modelled bay) and the free
values: constants with no body, so that no proof can see what they are. -/

namespace Sys2Proof.Config

/-- The straps of the bay that `State.reset` models. DESIGN CHOICE (assumption 1): the manual gives
no board; these are the straps of its worked examples, station 9 in zone 3 with W = 4, D = 3 and
C = 8, and a fire line active at the high level. `Instr.reset` reads any other straps. -/
def pins : StrapPins :=
  { stn := 9, zn := 3, wd := 3, dp := 2, ht := 0, fpol := true }

/-- FREE VALUE (assumption 2): the "time since heard in state periods" of a neighbours REPLY (R101, R177)
where the expiries counted do not settle it: the timer was restarted with another length meanwhile, or
the number does not fit its field. Its arguments are the free-value counter, the side's number and the
number of state period expiries since the station was last heard. -/
opaque periodsSinceHeard : Nat → Nat → Nat → Nat

/-- FREE VALUE (assumption 2): whether as many whole state periods as expiries counted have passed since a
neighbour was last heard, or one fewer: the model keeps no clock between expiries. Its arguments are
the free-value counter and the side's number. -/
opaque periodComplete : Nat → Nat → Bool

/-- FREE VALUE (assumption 3): the bus level of a REFUSE MALFORMED that answers a FETCH whose class
code names no class, for which R62's "class's level" gives no number. Its arguments are the
free-value counter and the class code. -/
opaque unclassedLevel : Nat → Nat → Fin 16

end Sys2Proof.Config
end

