-- ==== Sys2Proof/Machine/State.lean ====
section
/-! DEFINITION. The state of one BN-64 as plain data, block by block as the manual's block diagram
lists them, with `State.reset`. -/

namespace Sys2Proof.Machine

open Sys2Proof

/-! ### Names of the manual (R178) -/

/-- The node state (R152). -/
inductive NodeState where
  | homing
  | survey
  | joining
  | run
  | guarded
  | shutdown
  | safe
  | resuming
  deriving DecidableEq, Repr

/-- The state of a context (R39). -/
inductive CtxState where
  | free
  | bidding
  | awaiting
  | ready
  | active
  | stalled
  | paused
  | ending
  deriving DecidableEq, Repr

/-- Why a context is STALLED (R45); COLUMN_LOCK records its column. SLOT_WAIT is kept in two: `slotWait` for
the answer to a claim (R47), `slotClosed` for the CLOSED overlay of a side to lift (R100). -/
inductive WaitReason where
  | noRoom
  | chuteBusy
  | awayFull
  | slotWait
  | slotClosed (side : Side)
  | columnLock (column : Nat)
  | drive
  deriving DecidableEq, Repr

/-- The kind of job a context runs (R36). -/
inductive JobKind where
  | fetch
  | verify
  | stow
  | spill
  | reclaim
  deriving DecidableEq, Repr

/-- The class of a job request (R178). -/
inductive JobClass where
  | loanFetch
  | staffFetch
  | returnFetch
  | verify
  | stow
  | spill
  | reclaim
  deriving DecidableEq, Repr

/-- How a context ends (R53). -/
inductive JobOutcome where
  | complete
  | short
  | halted
  | positionFault
  | noRecord
  | arrivalTimeout
  | removed
  deriving DecidableEq, Repr

/-- The reasons of a REFUSE (R178). -/
inductive RefuseReason where
  | notReady
  | fire
  | fireActive
  | classOff
  | tableFull
  | binAway
  | binMoving
  | binBusy
  | binState
  | columnSuspect
  | malformed
  | notAway
  | wrongItem
  | slotState
  | duplicate
  | setupLocked
  | setupInvalid
  | offerClosed
  | notSafe
  deriving DecidableEq, Repr

/-- The reasons of a SLOT REFUSE (R178). -/
inductive SlotRefuseReason where
  | busy
  | hazard
  | classOff
  | tableFull
  | noRoom
  deriving DecidableEq, Repr

/-- The state of an item slot (R12). -/
inductive ItemState where
  | empty
  | inBin
  | lentOut
  | clash
  deriving DecidableEq, Repr

/-- A hazard grade (R143). -/
inductive Grade where
  | normal
  | watch
  | warn
  | alarm
  deriving DecidableEq, Repr

/-- The type of a detector input (R141). -/
inductive InputType where
  | unfitted
  | heat
  | smoke
  deriving DecidableEq, Repr

/-- Which way a bin at the chute is going (R13). -/
inductive Direction where
  | outward
  | inward
  deriving DecidableEq, Repr

/-- The role a neighbour has announced (R101). -/
inductive Role where
  | bay
  | other
  | unknown
  deriving DecidableEq, Repr

/-- The chute's content states (R136). -/
inductive ChuteState where
  | empty
  | outbound
  | inbound
  | blocked
  deriving DecidableEq, Repr

/-- Why the chute is BLOCKED (R136, R178). -/
inductive BlockReason where
  | none
  | unmatched
  | noRecord
  | chuteConflict
  | emptyPick
  | occupiedPlace
  deriving DecidableEq, Repr

/-- The gantry states (R126). -/
inductive GantryState where
  | off
  | homing
  | idle
  | movingEmpty
  | loaded
  | parking
  | faulted
  deriving DecidableEq, Repr

/-- The shutter states (R139). -/
inductive ShutterState where
  | opened
  | closed
  | opening
  | closing
  | unknown
  deriving DecidableEq, Repr

/-- The content states of a slot view (R99). -/
inductive ViewState where
  | free
  | claiming
  | mine
  | theirs
  | loadedOut
  | loadedIn
  deriving DecidableEq, Repr

/-- Where a bin is, with the part each residence carries (R13). -/
inductive Residence where
  | resident (column height : Nat)
  | inHand
  | inSlot (side : Side)
  | atChute (dir : Direction)
  | away
  | arriving
  | handing (winner : Station)
  deriving DecidableEq, Repr

/-- The status of a target (R64). -/
inductive TargetStatus where
  | waiting
  | picked
  | taken
  | givenUp
  deriving DecidableEq, Repr

/-! ### Inventory unit and retained store -/

/-- One item slot: its state and item id, 0 when EMPTY (R12). -/
structure ItemSlot where
  state : ItemState
  item : ItemId
  deriving DecidableEq, Repr

/-- The part of a bin record that travels in RECORD and SLOT LOADED (R10). -/
structure RecordBody where
  bin : BinId
  demand : Nat
  suspectTag : Bool
  slots : List ItemSlot
  deriving DecidableEq, Repr

/-- A bin record of the node: the travelling part and the residence (R10). -/
structure BinRecord where
  body : RecordBody
  residence : Residence
  deriving DecidableEq, Repr

/-- A column: its bin list, bottom to top, and its SUSPECT mark (R3, R6). -/
structure Column where
  bins : List BinId
  suspect : Bool
  deriving DecidableEq, Repr

/-- A column with no bins and no mark. -/
def Column.empty : Column := { bins := [], suspect := false }

/-- An entry of the away list: the record's bin and the winner of its latest offer (R17). -/
structure AwayEntry where
  bin : BinId
  winner : Option Station
  deriving DecidableEq, Repr

/-- The inventory picture: everything the retained image holds (R20). The hand place and the two
slot places are the records whose residence says so. `columns` has the 64 entries of the largest bay
(R1); those past W·D are no part of the bay. `records` is kept with its bin ids strictly rising. -/
structure Image where
  hdrW : Nat
  hdrD : Nat
  hdrC : Nat
  valid : Bool
  fireStop : Bool
  columns : List Column
  records : List BinRecord
  away : List AwayEntry
  overflow : Option BinId
  deriving DecidableEq, Repr

/-- An image that has never been written: no valid mark, no fire-stop mark, nothing in any of the
64 columns. -/
def Image.blank : Image :=
  { hdrW := 0, hdrD := 0, hdrC := 0, valid := false, fireStop := false,
    columns := List.replicate 64 Column.empty, records := [], away := [], overflow := none }

/-- A store update being written (R20): the first frame number its event could post under and the
first one after it, the image it will leave, the context whose step the event ended, whether the
event changed what a detectors, neighbours or counters REPLY or a STATE shows, and the contexts it
changed. -/
structure StoreUpdate where
  start : Nat
  stop : Nat
  image : Image
  stepCtx : Option Nat
  det : Bool
  nbrs : Bool
  counters : Bool
  report : Bool
  ctxs : List Nat
  deriving DecidableEq, Repr

/-- The retained store: the image as the last completed update left it, and the updates not yet
completed, oldest first (R20). -/
structure Store where
  image : Image
  queue : List StoreUpdate
  deriving DecidableEq, Repr

/-! ### Frames -/

/-- What a completion record reports beside its addressing (R53, R177 DONE). -/
structure DoneBody where
  origin : Station
  tag : Tag
  level : Nat
  ctx : Nat
  cls : JobClass
  outcome : JobOutcome
  claimed : Nat
  delivered : Nat
  tagFault : Bool
  restorePartial : Bool
  cancelLate : Bool
  spilled : Nat
  binRead : Option BinId
  deriving DecidableEq, Repr

/-- The content of a STATE (R168). -/
structure StateReport where
  node : NodeState
  chuteBlocked : Bool
  driveFault : Bool
  suspectColumns : Bool
  slotStuck : Bool
  safeWithFault : Bool
  loadNeeded : Bool
  free : Nat
  reserve : Nat
  awayCount : Nat
  inUse : Nat
  grade : Grade
  zone : Zone
  pendingClasses : List Bool
  deriving DecidableEq, Repr

/-- One input's part of a detectors REPLY (R145). -/
structure InputReport where
  type : InputType
  grade : Grade
  worst : Grade
  fault : Bool
  mean : Option Nat
  samples : Nat
  deriving DecidableEq, Repr

/-- One side's part of a neighbours REPLY (R101, R177). -/
structure NeighbourReport where
  station : Option Station
  role : Role
  zone : Option Zone
  present : Bool
  lost : Bool
  free : Option Nat
  reserve : Option Nat
  nodeState : Option NodeState
  periods : Nat
  deriving DecidableEq, Repr

/-- The five counters (R170). -/
structure Counters where
  sent : Nat
  received : Nat
  voids : Nat
  losses : Nat
  dropped : Nat
  deriving DecidableEq, Repr

/-- One detector type's thresholds T1 < T2 < T3 and hysteresis h (R143). -/
structure Thresholds where
  t1 : Nat
  t2 : Nat
  t3 : Nat
  h : Nat
  deriving DecidableEq, Repr

/-- The SETUP values (R167). -/
structure Setup where
  loanFetch : Nat
  staffFetch : Nat
  returnFetch : Nat
  verify : Nat
  stow : Nat
  spill : Nat
  reserve : Nat
  statePeriod : Nat
  claimWindow : Nat
  bidWindow : Nat
  handoverWindow : Nat
  motionTimeout : Nat
  arrivalWindow : Nat
  decayPeriod : Nat
  window : Nat
  heat : Thresholds
  smoke : Thresholds
  types : List InputType
  deriving DecidableEq, Repr

/-- The SETUP defaults (R167). -/
def Setup.default : Setup :=
  { loanFetch := 0, staffFetch := 0, returnFetch := 0, verify := 0, stow := 0, spill := 0,
    reserve := 8, statePeriod := 2, claimWindow := 50, bidWindow := 60, handoverWindow := 200,
    motionTimeout := 30, arrivalWindow := 300, decayPeriod := 60, window := 16,
    heat := { t1 := 300, t2 := 450, t3 := 600, h := 30 },
    smoke := { t1 := 200, t2 := 350, t3 := 500, h := 40 },
    types := [.heat, .heat, .smoke, .smoke] }

/-- The content of a REPLY, by what it answers (R177). -/
inductive Reply where
  | binRecord (r : Option BinRecord)
  | column (index : Nat) (suspect : Bool) (bins : List BinId)
  | awayList (total start : Nat) (entries : List (BinId × Residence))
  | jobSummary (jobs : List (CtxState × Option JobClass))
  | detectors (inputs : List InputReport) (window : Nat) (grade : Grade)
  | neighbours (west east : NeighbourReport)
  | counters (c : Counters)
  | setup (v : Setup)
  | loadEnd (w d c free awayCount : Nat)
  | chuteClear (state : ChuteState) (was : BlockReason)
  | record (r : BinRecord)
  | columnLoad (index : Nat) (suspect : Bool) (bins : List BinId)
  deriving DecidableEq, Repr

/-- The payloads of the frames the node sends (R177). -/
inductive Payload where
  | announce (station : Station) (zone : Zone) (w d c free : Nat)
  | state (r : StateReport)
  | claim (bitmap : List Bool) (depths : List Nat)
  | refuse (r : RefuseReason)
  | progress (ctx target : Nat) (bin : BinId) (dig : Nat)
  | done (d : DoneBody)
  | offer (holder : Station) (bin : BinId) (demand loans : Nat) (desk : Station)
  | bid (holder : Station) (bin : BinId)
  | record (r : RecordBody)
  | adopted (bin : BinId)
  | slotClaim (bin : BinId)
  | slotGrant (bin : BinId)
  | slotRefuse (r : SlotRefuseReason)
  | slotLoaded (r : RecordBody)
  | slotTaken (bin : BinId)
  | returnClaim (item : ItemId) (bin : BinId) (slot : Nat) (res : Residence)
  | alarm (zone : Zone)
  | reply (r : Reply)
  deriving DecidableEq, Repr

/-- A frame of the node (R172): the parts of its arbitration word, its destination, tag and
payload. -/
structure Frame where
  level : Nat
  rank : Nat
  src : Station
  dst : Station
  tag : Tag
  payload : Payload
  deriving DecidableEq, Repr

/-- A pending frame: when it was posted (a number that only rises) and its consecutive-void count
(R174, R175). -/
structure PFrame where
  frame : Frame
  seq : Nat
  voids : Nat
  deriving DecidableEq, Repr

/-- Whose place in the transmitter pending set a frame stands in (R174). -/
inductive TxKey where
  | alarm
  | state
  | announce
  | slot (side : Side)
  | record (bin : BinId)
  | adopted
  | bid (ctx : Nat)
  | reply
  | notice
  | done
  deriving DecidableEq, Repr

/-- The frame in transmission (R174, R175): the place it was taken from, the frame, its bits from
the start mark to the end field (R172), whether its owner has withdrawn it meanwhile, and whether a bit
read back past the arbitration word was not the one driven (R171). -/
structure Tx where
  key : TxKey
  pf : PFrame
  bits : List Bool
  withdrawn : Bool
  spoiled : Bool
  deriving DecidableEq, Repr

/-! ### Context table and gantry scheduler -/

/-- A target of a FETCH or VERIFY context (R36, R64). -/
structure Target where
  bin : BinId
  status : TargetStatus
  deriving DecidableEq, Repr

/-- Where a dug bin went (R36): a column, or a neighbour through a slot. -/
inductive RelocPlace where
  | column (c : Nat)
  | spilled (side : Side)
  deriving DecidableEq, Repr

/-- An entry of a relocation list (R36). -/
structure Reloc where
  bin : BinId
  place : RelocPlace
  deriving DecidableEq, Repr

/-- The record a STOW, SPILL or RECLAIM context carries (R36): a record of the node, by its bin, or
a record that is not yet one of the node's (R108). -/
inductive Carried where
  | own (bin : BinId)
  | foreign (r : RecordBody)
  deriving DecidableEq, Repr

/-- The offer a STOW context bid for: the offer id and the offered bin (R85). -/
structure OfferRef where
  holder : Station
  tag : Tag
  bin : BinId
  deriving DecidableEq, Repr

/-- What the transfer of a context's step is for (R66, R68, R72, R74, R95, R109, R112). A restore
step whose entry OCCUPIED_PLACE has removed is `skipped` (R76). -/
inductive StepKind where
  | dig
  | delivery
  | setBack
  | restore
  | skipped
  | putAway
  deriving DecidableEq, Repr

/-- The step a context has in flight; after PICKED it names the bin in hand. -/
structure Step where
  kind : StepKind
  bin : Option BinId
  deriving DecidableEq, Repr

/-- The content of a progress notice (R56, R79). -/
structure NoticeBody where
  target : Nat
  bin : BinId
  dig : Nat
  deriving DecidableEq, Repr

/-- A context (R36). The fields after `reserved` that R36's table does not list are step progress
its owning units keep: the restore phase (R72), the side a SPILL or RECLAIM context works on, the
step in flight, the timers and the pending
BID of a STOW context (R85), the tag read (R53), the last notice (R56), the mark that a SLOT TAKEN
came while the pick was in flight (R110), and the completion record of an ENDING context (R53). -/
structure Ctx where
  state : CtxState
  wait : Option WaitReason
  kind : JobKind
  cls : JobClass
  level : Nat
  origin : Station
  tag : Tag
  chain : Bool
  restore : Bool
  notify : Bool
  shortOk : Bool
  halt : Bool
  tagFault : Bool
  cancelLate : Bool
  restorePartial : Bool
  noticeOwed : Bool
  targets : List Target
  cur : Nat
  claimed : Nat
  delivered : Nat
  spilled : Nat
  digRemaining : Nat
  reloc : List Reloc
  lock : Option Nat
  reserved : Bool
  carried : Option Carried
  offer : Option OfferRef
  stamp : Nat
  restoring : Bool
  side : Option Side
  step : Option Step
  arrivalTimer : Option Nat
  bidTimer : Option Nat
  bid : Option PFrame
  binRead : Option BinId
  lastNotice : Option NoticeBody
  takenAway : Bool
  report : Option DoneBody
  deriving DecidableEq, Repr

/-- A FREE context: it holds nothing beyond its state (R36). -/
def Ctx.blank : Ctx :=
  { state := .free, wait := none, kind := .fetch, cls := .loanFetch, level := 0, origin := 0,
    tag := 0, chain := false, restore := false, notify := false, shortOk := false, halt := false,
    tagFault := false, cancelLate := false, restorePartial := false, noticeOwed := false,
    targets := [], cur := 0, claimed := 0, delivered := 0, spilled := 0, digRemaining := 0,
    reloc := [], lock := none, reserved := false, carried := none, offer := none, stamp := 0,
    restoring := false, side := none, step := none, arrivalTimer := none,
    bidTimer := none, bid := none, binRead := none, lastNotice := none, takenAway := false,
    report := none }

/-- An entry of the completion queue (R54) with its posting number and void count. -/
structure DoneEntry where
  body : DoneBody
  seq : Nat
  voids : Nat
  deriving DecidableEq, Repr

/-- The notice in the notice slot (R56): the context, its PROGRESS frame, posting number and void
count. -/
structure Notice where
  ctx : Nat
  pf : PFrame
  deriving DecidableEq, Repr

/-- The context table and gantry scheduler: sixteen contexts, the ready lists of levels 1 to 10
(entry k − 1 is level k's), the age counter, the completion queue, the ENDING contexts in the order
they ended, the notice slot (behind a notice in transmission, the one that replaced it), and, for the event
being taken, the context whose step it has ended and the STALLED contexts it has woken (none between
events). -/
structure Sched where
  ctxs : List Ctx
  ready : List (List Nat)
  nextStamp : Nat
  doneQ : List DoneEntry
  ending : List Nat
  notice : List Notice
  stepEnded : Option Nat
  woken : List Nat
  deriving DecidableEq, Repr

/-- The scheduler after reset (R59). -/
def Sched.blank : Sched :=
  { ctxs := List.replicate 16 Ctx.blank, ready := List.replicate 10 [], nextStamp := 0,
    doneQ := [], ending := [], notice := [], stepEnded := none, woken := [] }

/-! ### Stow agent -/

/-- An open-offer entry (R83). The offer is open while its close timer runs. -/
structure OfferEntry where
  tag : Tag
  bin : BinId
  desk : Station
  closeTimer : Option Nat
  winner : Option Station
  deriving DecidableEq, Repr

/-- A handover in progress at the holder (R90): its RECORD while pending, and its timer. -/
structure Handover where
  bin : BinId
  timer : Nat
  record : Option PFrame
  deriving DecidableEq, Repr

/-- The stow agent: open-offer entries, the offer counter, handovers, and ADOPTED frames pending. -/
structure Stow where
  offers : List OfferEntry
  nextTag : Tag
  handovers : List Handover
  adopted : List PFrame
  deriving DecidableEq, Repr

/-- The stow agent after reset (R83). -/
def Stow.blank : Stow := { offers := [], nextTag := 0, handovers := [], adopted := [] }

/-! ### Slot agent -/

/-- A slot frame that waits behind the side's pending one (R102). -/
inductive SlotWait where
  | loaded
  | taken (bin : BinId) (tag : Tag)
  deriving DecidableEq, Repr

/-- A slot view (R99): content state, FIRE cause of the CLOSED overlay (the other two causes are
read from the neighbour table, R100), claim tag, context, bin, flags, claim timer, the side's
pending slot frame with those that wait behind it (R102), the context whose claim was withdrawn
for a race (R105), and whether an OCCUPIED_PLACE has found the granted shelf occupied (R107). `takenOwed` keeps the bin and tag the owed SLOT TAKEN carries. -/
structure SlotView where
  state : ViewState
  fireClosed : Bool
  tag : Tag
  ctx : Option Nat
  bin : Option BinId
  resendOwed : Bool
  takenOwed : Option (BinId × Tag)
  loadRefused : Bool
  claimTimer : Option Nat
  pend : Option PFrame
  waiting : List SlotWait
  raced : Option Nat
  shelfFull : Bool
  deriving DecidableEq, Repr

/-- A FREE view with every other field cleared (R99). -/
def SlotView.blank : SlotView :=
  { state := .free, fireClosed := false, tag := 0, ctx := none, bin := none, resendOwed := false,
    takenOwed := none, loadRefused := false, claimTimer := none, pend := none, waiting := [],
    raced := none, shelfFull := false }

/-- The slot agent: both views and the claim counter (R99, R102). -/
structure Slots where
  west : SlotView
  east : SlotView
  nextTag : Tag
  deriving DecidableEq, Repr

/-! ### Motion interface -/

/-- A command on the motion port (R125). -/
inductive MotionCmd where
  | transfer (src dst : Pos)
  | retarget (dst : Pos)
  | abandon
  | park (reconcile : Bool)
  | shutter (sh : ShutterId) (pos : ShutterPos)
  | power (on : Bool)
  deriving DecidableEq, Repr

/-- A transfer: source, commanded destination, the latest RETARGET's destination, the context whose
step it is (none for a homing put-away), whether an ABANDON is outstanding for it, and whether the
set-down has taken it over (R129, R130, R155). -/
structure Xfer where
  src : Pos
  dst : Pos
  retarget : Option Pos
  owner : Option Nat
  abandonSent : Bool
  setDown : Bool
  deriving DecidableEq, Repr

/-- One shutter (R139): its state, its motion timer, what it was last asked, and whether an OPEN is
held for POWER ON. -/
structure Shutter where
  state : ShutterState
  timer : Option Nat
  asked : Option ShutterPos
  heldOpen : Bool
  deriving DecidableEq, Repr

/-- A shutter after reset (R139). -/
def Shutter.blank : Shutter := { state := .unknown, timer := none, asked := none, heldOpen := false }

/-- The motion interface: gantry, drive power, the transfer in flight, a transfer held back for a
store update (R20), the motion timer, the pending homing put-away's bin (R135) and whether it waits for
RUN (R164), whether a drive recovery is in progress (R134), the chute with its blocked reason, the three shutters, and the
commands the latest event sent, in order. -/
structure Motion where
  gantry : GantryState
  power : Bool
  xfer : Option Xfer
  held : Option Xfer
  timer : Option Nat
  putAway : Option BinId
  putAwayWaits : Bool
  recovery : Bool
  chute : ChuteState
  reason : BlockReason
  shWest : Shutter
  shEast : Shutter
  shChute : Shutter
  out : List MotionCmd
  deriving DecidableEq, Repr

/-! ### Detector grader -/

/-- An input record (R142, R143, R145). -/
structure DetInput where
  grade : Grade
  worst : Grade
  fault : Bool
  mean : Option Nat
  acc : Nat
  count : Nat
  faultSeen : Bool
  deriving DecidableEq, Repr

/-- An input record after reset (R148). -/
def DetInput.blank : DetInput :=
  { grade := .normal, worst := .normal, fault := false, mean := none, acc := 0, count := 0,
    faultSeen := false }

/-! ### Fire controller -/

/-- How the gantry's start-up PARK ended (R163). -/
inductive HomeResult where
  | report (hand : HandReport)
  | failed
  deriving DecidableEq, Repr

/-- The fire controller: node state, zones-afire set, fire line latch, its hold on the chute's
CLOSED overlay, whether SHUTDOWN has reached its shutters, SAFE_WITH_FAULT, the state to return to
after RESUMING, whether RESUMING has asked its shutters OPEN, and the pending ALARM. -/
structure FireCtl where
  node : NodeState
  zones : ZoneSet
  latch : Bool
  chuteHold : Bool
  closing : Bool
  safeWithFault : Bool
  resumeTo : NodeState
  opening : Bool
  alarm : Option PFrame
  deriving DecidableEq, Repr

/-! ### Bus interface and start-up logic -/

/-- How the time since a neighbour was last heard lies against the state period timer: it began at an expiry
or a restart of the timer, within a period, or before the timer was restarted with another length. -/
inductive ClockPhase where
  | aligned
  | within
  | restarted
  deriving DecidableEq, Repr

/-- An entry of the neighbour table (R101). `sinceHeard` counts state period expiries, and `phase` says
where among them the time since heard began. -/
structure Neighbour where
  station : Option Station
  role : Role
  zone : Option Zone
  present : Bool
  lost : Bool
  free : Option Nat
  reserve : Option Nat
  nodeState : Option NodeState
  sinceHeard : Nat
  phase : ClockPhase
  deriving DecidableEq, Repr

/-- A neighbour entry after reset (R101). -/
def Neighbour.blank (station : Option Station) : Neighbour :=
  { station, role := .unknown, zone := none, present := false, lost := false, free := none,
    reserve := none, nodeState := none, sinceHeard := 0, phase := .aligned }

/-- The bus interface: the number of the next posting, the later numbers of the frames whose posting waited
for a store update (R20; by the number of their event), the pending STATE and ANNOUNCE (behind one in
transmission, the one that replaced it), the reply list, the frame in transmission, the counters and the
neighbour table. -/
structure Bus where
  seq : Nat
  turns : List (Nat × Nat)
  state : List PFrame
  announce : List PFrame
  replies : List PFrame
  tx : Option Tx
  counters : Counters
  nbWest : Neighbour
  nbEast : Neighbour
  deriving DecidableEq, Repr

/-- What the straps read at the last reset give (R1, R162). -/
structure Board where
  station : Station
  zone : Zone
  w : Nat
  d : Nat
  c : Nat
  activeHigh : Bool
  deriving DecidableEq, Repr

/-- The start-up logic's homing (R163, R164): whether the reconcile has been made since the last
reset, the chute's sense report and the PARK's final event while they wait for one another; and the
state period and decay timers (none: stopped). -/
structure Startup where
  reconciled : Bool
  sense : Option Bool
  homed : Option HomeResult
  stateTimer : Nat
  decayTimer : Option Nat
  deriving DecidableEq, Repr

/-- The whole node. `free` is the model's own counter of free values drawn; `pending` is the queue
of commands waiting, first in, first out. -/
structure State where
  board : Board
  inv : Image
  store : Store
  sched : Sched
  stow : Stow
  slots : Slots
  motion : Motion
  det : List DetInput
  fire : FireCtl
  bus : Bus
  setup : Setup
  startup : Startup
  free : Nat
  pending : List Instr
  deriving DecidableEq, Repr

/-- Why a command stops the machine. No command of the BN-64 does: the manual gives every event an
effect, if only that it is ignored, so the type has no constructor that a meaning answers with. -/
inductive Fault where
  /-- Raised by nobody: the manual names no event that stops the node. Safe: it is never answered. -/
  | unreachable
  deriving DecidableEq, Repr

/-- Why a command is refused. -/
inductive Refusal where
  /-- Raised by an arm of `exec` whose row has no meaning yet. Safe: nothing is claimed of it. -/
  | notModelled (mnemonic : String)
  deriving DecidableEq, Repr

/-- The node right after a reset of the modelled board (`Config.pins`, fire line inactive) over a
retained store that has never been written (assumption 1): HOMING, with STATE posted, POWER ON and
the reconcile PARK sent (R163), and every block as its chapter's reset rule leaves it. -/
def State.reset : State :=
  { board := { station := 9, zone := 3, w := 4, d := 3, c := 8, activeHigh := true }
    inv := Image.blank
    store := { image := Image.blank, queue := [] }
    sched := Sched.blank
    stow := Stow.blank
    slots := { west := SlotView.blank, east := SlotView.blank, nextTag := 0 }
    motion :=
      { gantry := .homing, power := true, xfer := none, held := none, timer := some 30,
        putAway := none, putAwayWaits := false, recovery := false, chute := .empty, reason := .none,
        shWest := Shutter.blank, shEast := Shutter.blank, shChute := Shutter.blank,
        out := [.power true, .park true] }
    det := List.replicate 4 DetInput.blank
    fire :=
      { node := .homing, zones := 0, latch := false, chuteHold := false, closing := false,
        safeWithFault := false, resumeTo := .homing, opening := false, alarm := none }
    bus :=
      { seq := 1
        turns := []
        state :=
          [{ frame :=
               { level := 11, rank := 0, src := 9, dst := 0, tag := 0,
                 payload := .state
                   { node := .homing, chuteBlocked := false, driveFault := false,
                     suspectColumns := false, slotStuck := false, safeWithFault := false,
                     loadNeeded := false, free := 96, reserve := 8, awayCount := 0, inUse := 0,
                     grade := .normal, zone := 3,
                     pendingClasses := [false, false, false, false, false, false, false] } }
             seq := 0
             voids := 0 }]
        announce := []
        replies := []
        tx := none
        counters := { sent := 0, received := 0, voids := 0, losses := 0, dropped := 0 }
        nbWest := Neighbour.blank (some 8)
        nbEast := Neighbour.blank (some 10) }
    setup := Setup.default
    startup :=
      { reconciled := false, sense := none, homed := none, stateTimer := 2,
        decayTimer := some 60 }
    free := 0
    pending := [] }

end Sys2Proof.Machine
end

