-- ==== Sys2Proof/Machine/Ops.lean ====
section
/-! DEFINITION. The named operations over the node's state: block updates, bin records, columns, the
away list, posting of frames, the reply list, and the store update that ends an event. -/

namespace Sys2Proof.Machine

open Sys2Proof

/-! ### Block updates -/

namespace State

def withInv (s : State) (v : Image) : State := { s with inv := v }
def withStore (s : State) (v : Store) : State := { s with store := v }
def withSched (s : State) (v : Sched) : State := { s with sched := v }
def withStow (s : State) (v : Stow) : State := { s with stow := v }
def withSlots (s : State) (v : Slots) : State := { s with slots := v }
def withMotion (s : State) (v : Motion) : State := { s with motion := v }
def withDet (s : State) (v : List DetInput) : State := { s with det := v }
def withFire (s : State) (v : FireCtl) : State := { s with fire := v }
def withBus (s : State) (v : Bus) : State := { s with bus := v }
def withSetup (s : State) (v : Setup) : State := { s with setup := v }
def withStartup (s : State) (v : Startup) : State := { s with startup := v }
def withFree (s : State) (v : Nat) : State := { s with free := v }

end State

/-! ### Bin records (R10, R13)

`Image.records` is a list with strictly rising bin ids, so that equal sets of records are equal
data. -/

/-- The record of a bin in a list of records. -/
def lookup (b : BinId) : List BinRecord → Option BinRecord
  | [] => none
  | r :: rs => if r.body.bin = b then some r else lookup b rs

/-- Puts a record into a list of records, in place of the one of the same bin if there is one. -/
def insert (r : BinRecord) : List BinRecord → List BinRecord
  | [] => [r]
  | q :: qs =>
    if r.body.bin < q.body.bin then r :: q :: qs
    else if r.body.bin = q.body.bin then r :: qs
    else q :: insert r qs

/-- Takes a bin's record out of a list of records. -/
def erase (b : BinId) (rs : List BinRecord) : List BinRecord :=
  rs.filter (fun r => r.body.bin ≠ b)

/-- The canonical form of a list of records: bin ids strictly rising. -/
abbrev sortedRecords (rs : List BinRecord) : Prop :=
  rs.Pairwise (fun a b => a.body.bin < b.body.bin)

/-- The record the node holds for a bin, whatever its residence (R10). -/
def recordOf (s : State) (b : BinId) : Option BinRecord := lookup b s.inv.records

/-- The residence of a bin's record, if the node holds one. -/
def residenceOf (s : State) (b : BinId) : Option Residence := (recordOf s b).map (·.residence)

/-- Stores a record. -/
def putRecord (s : State) (r : BinRecord) : State :=
  s.withInv { s.inv with records := insert r s.inv.records }

/-- Removes a bin's record. -/
def dropRecord (s : State) (b : BinId) : State :=
  s.withInv { s.inv with records := erase b s.inv.records }

/-- Changes a bin's record, if the node holds one. -/
def modRecord (s : State) (b : BinId) (f : BinRecord → BinRecord) : State :=
  s.withInv
    { s.inv with records := s.inv.records.map (fun r => if r.body.bin = b then f r else r) }

/-- Gives a bin's record a residence. -/
def setResidence (s : State) (b : BinId) (p : Residence) : State :=
  modRecord s b (fun r => { r with residence := p })

/-- Sets SUSPECT_TAG on a bin's record (R11). -/
def markTag (s : State) (b : BinId) : State :=
  modRecord s b (fun r => { r with body := { r.body with suspectTag := true } })

/-- The loan count o of a record: its OUT slots (R12, R124). -/
def loanCount (r : RecordBody) : Nat := r.slots.countP (fun i => i.state = .lentOut)

/-- The first record with a given residence: the hand place or a slot place (R13). -/
def recordAt (s : State) (p : Residence) : Option BinRecord :=
  s.inv.records.find? (fun r => r.residence = p)

/-- The record of a bin in the hand place (R13). -/
def inHand (s : State) : Option BinRecord := recordAt s .inHand

/-! ### Columns (R3 to R6) -/

/-- The number of columns, W·D (R1). -/
def columnCount (s : State) : Nat := s.board.w * s.board.d

/-- The columns of the bay: the table's first W·D entries (R1). -/
def bayColumns (s : State) : List Column := s.inv.columns.take (columnCount s)

/-- A column of the table. -/
def column (s : State) (c : Nat) : Column := s.inv.columns.getD c Column.empty

/-- Replaces a column of the table. -/
def setColumn (s : State) (c : Nat) (v : Column) : State :=
  s.withInv { s.inv with columns := s.inv.columns.set c v }

/-- Sets a column's SUSPECT mark (R6). -/
def markSuspect (s : State) (c : Nat) : State :=
  setColumn s c { column s c with suspect := true }

/-- The pop of R4: the last entry of the column's list, its record IN_HAND. -/
def popColumn (s : State) (c : Nat) : State :=
  match (column s c).bins.getLast? with
  | none => s
  | some b =>
    setResidence (setColumn s c { column s c with bins := (column s c).bins.dropLast }) b .inHand

/-- The push of R5: a new last entry, its record RESIDENT at the bin count before the push. -/
def pushColumn (s : State) (c : Nat) (b : BinId) : State :=
  setResidence (setColumn s c { column s c with bins := (column s c).bins ++ [b] }) b
    (.resident c (column s c).bins.length)

/-- The depth of a bin of height `h` in column `c`: the number of bins above it (R1). -/
def depthOf (s : State) (c h : Nat) : Nat := (column s c).bins.length - 1 - h

/-! ### The away list (R17 to R19) -/

/-- The contexts that hold an away reservation (R18). -/
def reservations (s : State) : Nat := s.sched.ctxs.countP (·.reserved)

/-- Records plus reservations (R17). -/
def awayTotal (s : State) : Nat := s.inv.away.length + reservations s

/-- Whether a reservation can be taken (R18, R19). -/
def canReserve (s : State) : Bool := awayTotal s < 32 ∧ s.inv.overflow = none

/-- A record joins the tail of the away list (R17). -/
def joinAway (s : State) (b : BinId) : State :=
  s.withInv { s.inv with away := s.inv.away ++ [{ bin := b, winner := none }] }

/-- A record leaves the away list from wherever it stands (R17). -/
def leaveAway (s : State) (b : BinId) : State :=
  s.withInv { s.inv with away := s.inv.away.filter (fun e => e.bin ≠ b) }

/-- The away entry of a bin. -/
def awayEntry (s : State) (b : BinId) : Option AwayEntry := s.inv.away.find? (fun e => e.bin = b)

/-- Records the winner of the latest offer of a bin (R15). -/
def setWinner (s : State) (b : BinId) (w : Station) : State :=
  s.withInv
    { s.inv with
      away := s.inv.away.map (fun e => if e.bin = b then { e with winner := some w } else e) }

/-- The overflow record moves to the tail of the away list once there is room (R19). -/
def moveOverflow (s : State) : State :=
  match s.inv.overflow with
  | none => s
  | some b =>
    if awayTotal s < 32 then
      joinAway (s.withInv { s.inv with overflow := none }) b
    else s

/-! ### Contexts -/

/-- A context of the table. -/
def ctxOf (s : State) (n : Nat) : Ctx := s.sched.ctxs.getD n Ctx.blank

/-- Replaces a context of the table. -/
def setCtx (s : State) (n : Nat) (c : Ctx) : State :=
  s.withSched { s.sched with ctxs := s.sched.ctxs.set n c }

/-- Changes a context of the table. -/
def modCtx (s : State) (n : Nat) (f : Ctx → Ctx) : State := setCtx s n (f (ctxOf s n))

/-- The sixteen context numbers (R37). -/
def ctxNumbers : List Nat := List.range 16

/-- The FREE context with the lowest number (R37). -/
def freeCtx? (s : State) : Option Nat := ctxNumbers.find? (fun n => (ctxOf s n).state = .free)

/-- The contexts in use: those not FREE (R37). -/
def inUse (s : State) : Nat := s.sched.ctxs.countP (fun c => c.state ≠ .free)

/-- The contexts in BIDDING or AWAITING (R37). -/
def committed (s : State) : Nat :=
  s.sched.ctxs.countP (fun c => c.state = .bidding ∨ c.state = .awaiting)

/-- Whether a context for a bid or a grant may be taken: one is FREE and fewer than 8 are BIDDING
or AWAITING (R37). -/
def canCommit (s : State) : Bool := (freeCtx? s).isSome ∧ committed s < 8

/-- The ACTIVE context, at most one (R42). -/
def activeCtx? (s : State) : Option Nat := ctxNumbers.find? (fun n => (ctxOf s n).state = .active)

/-- A context's state is one in which it runs a job of its own (R25). -/
def CtxState.isLive : CtxState → Bool
  | .ready | .active | .stalled | .paused => true
  | .free | .bidding | .awaiting | .ending => false

/-- Whether a bin is a target of a context other than `but` (R61, R64). -/
def isTargetBut (s : State) (but : Option Nat) (b : BinId) : Bool :=
  ctxNumbers.any (fun n =>
    some n ≠ but ∧ (ctxOf s n).targets.any (fun t => t.bin = b ∧ t.status ≠ .givenUp))

/-- Whether a SPILL context carries a record of the bin that is not yet the node's (R108). -/
def isCarried (s : State) (b : BinId) : Bool :=
  s.sched.ctxs.any (fun c =>
    match c.carried with
    | some (.foreign r) => r.bin = b
    | _ => false)

/-- Whether the node holds the bin for the tests of R84, R91 and R106 order 7: a record, or a
record carried by a SPILL context (R108). -/
def holdsBin (s : State) (b : BinId) : Bool := (recordOf s b).isSome ∨ isCarried s b

/-! ### Slot views, neighbours and shutters by side -/

/-- A side's slot view. -/
def view (s : State) : Side → SlotView
  | .west => s.slots.west
  | .east => s.slots.east

/-- Replaces a side's slot view. -/
def setView (s : State) : Side → SlotView → State
  | .west, v => s.withSlots { s.slots with west := v }
  | .east, v => s.withSlots { s.slots with east := v }

/-- Changes a side's slot view. -/
def modView (s : State) (sd : Side) (f : SlotView → SlotView) : State := setView s sd (f (view s sd))

/-- A side's neighbour entry. -/
def nbr (s : State) : Side → Neighbour
  | .west => s.bus.nbWest
  | .east => s.bus.nbEast

/-- Replaces a side's neighbour entry. -/
def setNbr (s : State) : Side → Neighbour → State
  | .west, v => s.withBus { s.bus with nbWest := v }
  | .east, v => s.withBus { s.bus with nbEast := v }

/-- Changes a side's neighbour entry. -/
def modNbr (s : State) (sd : Side) (f : Neighbour → Neighbour) : State :=
  setNbr s sd (f (nbr s sd))

/-- Both sides, west first. -/
def sides : List Side := [.west, .east]

/-- A shutter. -/
def shutter (s : State) : ShutterId → Shutter
  | .west => s.motion.shWest
  | .east => s.motion.shEast
  | .chute => s.motion.shChute

/-- Replaces a shutter. -/
def setShutter (s : State) : ShutterId → Shutter → State
  | .west, v => s.withMotion { s.motion with shWest := v }
  | .east, v => s.withMotion { s.motion with shEast := v }
  | .chute, v => s.withMotion { s.motion with shChute := v }

/-- All three shutters. -/
def shutterIds : List ShutterId := [.west, .east, .chute]

/-- The shutter of a slot side. -/
def sideShutter : Side → ShutterId
  | .west => .west
  | .east => .east

/-- The transfer in flight, or the one held back for a store update (R20). -/
def currentXfer (s : State) : Option Xfer := s.motion.xfer.or s.motion.held

/-! ### Posting frames (R174) -/

/-- Whether the node posts frames at all: one strapped to station 0 posts none (R162). -/
def posts (s : State) : Bool := s.board.station ≠ 0

/-- The next posting of a frame. -/
def pframe (s : State) (f : Frame) : PFrame := { frame := f, seq := s.bus.seq, voids := 0 }

/-- A frame of this node. -/
def frameOf (s : State) (level rank : Nat) (dst : Station) (tag : Tag) (p : Payload) : Frame :=
  { level, rank, src := s.board.station, dst, tag, payload := p }

/-- Advances the posting number. -/
def bumpSeq (s : State) : State := s.withBus { s.bus with seq := s.bus.seq + 1 }

/-- A counter step that stops at 65,535 (R170). -/
def count16 (n : Nat) : Nat := min 65535 (n + 1)

/-- Counts a request dropped (R170). -/
def countDropped (s : State) : State :=
  s.withBus
    { s.bus with counters := { s.bus.counters with dropped := count16 s.bus.counters.dropped } }

/-- Whether the reply list has room (R176). -/
def replyRoom (s : State) : Bool := s.bus.replies.length < 8

/-- Posts an answer frame at the tail of the reply list (R176). -/
def postReply (s : State) (f : Frame) : State :=
  if posts s then
    bumpSeq (s.withBus { s.bus with replies := s.bus.replies ++ [pframe s f] })
  else s

/-- Acts on a request that posts an answer: not at all, counting it dropped, when the reply list is
full; else `act`, and then the answer, built from the state it leaves (R176). The answer takes its room in
the list here; one that follows a store update is posted as that completes (R20, R114; assumption 72). -/
def respond (s : State) (act : State → State) (answer : State → Frame) : State :=
  if replyRoom s then postReply (act s) (answer (act s)) else countDropped s

/-- Answers a request with REFUSE at a level, and does nothing else (R177). -/
def refuseAt (s : State) (level : Nat) (h : Header) (r : RefuseReason) : State :=
  respond s id (fun s => frameOf s level 0 h.src h.tag (.refuse r))

/-- Marks the frame in transmission as withdrawn if it is the posting `seq` (R175). -/
def withdrawTx (s : State) (seq : Nat) : State :=
  match s.bus.tx with
  | none => s
  | some t =>
    if t.pf.seq = seq then s.withBus { s.bus with tx := some { t with withdrawn := true } } else s

/-- Whether the posting `seq` is in transmission (R174). -/
def inTransmission (s : State) (seq : Nat) : Bool := (s.bus.tx.map (·.pf.seq)) = some seq

/-- A frame posted in place of what is pending: it replaces a frame that has not started, and waits
behind one that has (R174). -/
def replacing (s : State) (l : List PFrame) (f : Frame) : List PFrame :=
  l.filter (fun g => inTransmission s g.seq) ++ [pframe s f]

/-- Posts a STATE in place of the pending one (R168, R174). -/
def postStateFrame (s : State) (r : StateReport) : State :=
  if posts s then
    bumpSeq (s.withBus
      { s.bus with state := replacing s s.bus.state (frameOf s 11 0 0 0 (.state r)) })
  else s

/-- Withdraws the pending ANNOUNCE (R166). -/
def withdrawAnnounce (s : State) : State :=
  s.bus.announce.foldl (fun t f => withdrawTx t f.seq) (s.withBus { s.bus with announce := [] })

/-! ### The retained store (R20) -/

/-- Whether the step of context `n` ended in an event whose store update has not completed, or in
the event being taken (R20). -/
def stepHeld (s : State) (n : Nat) : Bool :=
  s.sched.stepEnded = some n ∨ s.store.queue.any (fun u => u.stepCtx = some n)

/-- Sends a TRANSFER: the gantry moves, or carries at once when the source is park (R125, R126);
the motion timer starts (R127). -/
def launch (s : State) (x : Xfer) : State :=
  s.withMotion
    { s.motion with
      gantry := if x.src = .park then .loaded else .movingEmpty
      xfer := some x
      held := none
      timer := some s.setup.motionTimeout
      out := s.motion.out ++ [.transfer x.src x.dst] }

/-- Forgets the commands the event before sent on the motion port, and the contexts it woke. -/
def clearOut (s : State) : State :=
  (s.withMotion { s.motion with out := [] }).withSched { s.sched with woken := [] }

/-- Sends a command on the motion port. -/
def send (s : State) (c : MotionCmd) : State :=
  s.withMotion { s.motion with out := s.motion.out ++ [c] }

end Sys2Proof.Machine
end

