-- ==== Sys2Proof/Machine/Flags.lean ====
section
/-! DEFINITION. What the manual derives from the state and never stores: free positions, STATE
conditions, the bay grade, the CLOSED overlays, and the content of STATE. -/

namespace Sys2Proof.Machine

open Sys2Proof

/-! ### Free positions (R2) -/

/-- A column's share of F: C − f, and nothing while the column is SUSPECT (R2). -/
def columnFree (s : State) (k : Column) : Nat := if k.suspect then 0 else s.board.c - k.bins.length

/-- The free positions F of the bay (R2). -/
def freePositions (s : State) : Nat := ((bayColumns s).map (columnFree s)).sum

/-! ### The bay grade (R146) -/

/-- A grade's number (R143). -/
def gradeNum : Grade → Nat
  | .normal => 0
  | .watch => 1
  | .warn => 2
  | .alarm => 3

/-- The higher of two grades. -/
def maxGrade (a b : Grade) : Grade := if gradeNum a < gradeNum b then b else a

/-- The inputs typed HEAT or SMOKE. -/
def fittedInputs (s : State) : List DetInput :=
  ((s.det.zip s.setup.types).filter (fun p => p.2 ≠ .unfitted)).map (·.1)

/-- The bay grade (R146). -/
def bayGrade (s : State) : Grade :=
  if (fittedInputs s).isEmpty then .normal
  else if (fittedInputs s).all (·.fault) then .watch
  else (((fittedInputs s).filter (fun i => !i.fault)).map (·.grade)).foldl maxGrade .normal

/-- Whether the bay grade is WARN or above (R147). -/
def gradeWarns (s : State) : Bool := 2 ≤ gradeNum (bayGrade s)

/-! ### Overlays (R100, R136) -/

/-- The NOT_BAY cause of a side's CLOSED overlay (R100). -/
def notBay (s : State) (sd : Side) : Bool := (nbr s sd).station = none ∨ (nbr s sd).role ≠ .bay

/-- The ABSENT cause of a side's CLOSED overlay (R100). -/
def absent (s : State) (sd : Side) : Bool := (nbr s sd).role = .bay ∧ (nbr s sd).present = false

/-- Whether a side's CLOSED overlay stands (R100). -/
def sideClosed (s : State) (sd : Side) : Bool := (view s sd).fireClosed ∨ notBay s sd ∨ absent s sd

/-- Whether the chute's CLOSED overlay stands (R136). -/
def chuteClosed (s : State) : Bool := s.fire.chuteHold ∨ (shutter s .chute).state ≠ .opened

/-! ### Zones (R149, R152) -/

/-- Whether a zone is in the zones-afire set. -/
def zoneAfire (s : State) (z : Zone) : Bool := s.fire.zones.getLsbD z.toNat

/-- Whether a side's neighbour zone is afire: the zone of an entry whose role is BAY (R152). -/
def sideAfire (s : State) (sd : Side) : Bool :=
  (nbr s sd).role = .bay && (nbr s sd).zone.any (zoneAfire s)

/-- Whether any neighbour zone is in the set (R152). -/
def neighbourAfire (s : State) : Bool := sideAfire s .west ∨ sideAfire s .east

/-- Whether the node is stopped, or stopping, for fire. -/
def fireStopped (s : State) : Bool := s.fire.node = .shutdown ∨ s.fire.node = .safe

/-- Whether the node is in a start-up state or RESUMING, the states that refuse with NOT_READY. -/
def notReady (s : State) : Bool :=
  s.fire.node = .homing ∨ s.fire.node = .survey ∨ s.fire.node = .joining ∨ s.fire.node = .resuming

/-! ### STATE (R168) -/

/-- SUSPECT_COLUMNS (R6). -/
def suspectColumns (s : State) : Bool := (bayColumns s).any (·.suspect)

/-- DRIVE_FAULT: the gantry is FAULTED or a drive recovery is in progress (R126). -/
def driveFaultFlag (s : State) : Bool := s.motion.gantry = .faulted ∨ s.motion.recovery

/-- SLOT_STUCK: load refused stands on a LOADED_OUT side (R99). -/
def slotStuck (s : State) : Bool :=
  sides.any (fun sd => (view s sd).state = .loadedOut ∧ (view s sd).loadRefused)

/-- LOAD_NEEDED: the overflow place is occupied, or the node is in SURVEY (R19). -/
def loadNeeded (s : State) : Bool := s.inv.overflow.isSome ∨ s.fire.node = .survey

/-- The classes in the order of the pending-classes flags (R58, R177). -/
def allClasses : List JobClass :=
  [.loanFetch, .staffFetch, .returnFetch, .verify, .stow, .spill, .reclaim]

/-- A class's pending flag: some context of it is READY, STALLED or PAUSED (R58). -/
def classPending (s : State) (k : JobClass) : Bool :=
  s.sched.ctxs.any (fun c =>
    c.cls = k ∧ (c.state = .ready ∨ c.state = .stalled ∨ c.state = .paused))

/-- The content of a STATE built now (R168). -/
def stateReport (s : State) : StateReport :=
  { node := s.fire.node
    chuteBlocked := s.motion.chute = .blocked
    driveFault := driveFaultFlag s
    suspectColumns := suspectColumns s
    slotStuck := slotStuck s
    safeWithFault := s.fire.safeWithFault
    loadNeeded := loadNeeded s
    free := freePositions s
    reserve := s.setup.reserve
    awayCount := s.inv.away.length
    inUse := inUse s
    grade := bayGrade s
    zone := s.board.zone
    pendingClasses := allClasses.map (classPending s) }

/-- Posts a STATE built now. -/
def postState (s : State) : State := postStateFrame s (stateReport s)

/-- What must change for a STATE to be posted: the node state, a condition, the bay grade or F
(R168). -/
def stateCause (s : State) : NodeState × List Bool × Grade × Nat :=
  (s.fire.node,
    [decide (s.motion.chute = .blocked), driveFaultFlag s, suspectColumns s, slotStuck s,
      s.fire.safeWithFault, loadNeeded s],
    bayGrade s, freePositions s)

/-- Posts a STATE if the event changed any of its causes (R168). -/
def reportChange (was s : State) : State := if stateCause was = stateCause s then s else postState s

end Sys2Proof.Machine
end

