-- ==== Sys2Proof/Machine/Operands.lean ====
section
/-! DEFINITION. How operands are read: enumerated codes (R178), straps (R162), SETUP fields brought
into range (R167), bin records brought into range (R9, R10), and the CLASH marking (R122). -/

namespace Sys2Proof.Machine

open Sys2Proof

/-! ### Codes (R178) -/

/-- The class a FETCH's class code names; a FETCH carries only the first three (R60). -/
def fetchClassOf : Nat → Option JobClass
  | 0 => some .loanFetch
  | 1 => some .staffFetch
  | 2 => some .returnFetch
  | _ => none

/-- The class a class code names (R178). -/
def jobClassOf : Nat → Option JobClass
  | 0 => some .loanFetch
  | 1 => some .staffFetch
  | 2 => some .returnFetch
  | 3 => some .verify
  | 4 => some .stow
  | 5 => some .spill
  | 6 => some .reclaim
  | _ => none

/-- The node state a code names. -/
def nodeStateOf : Nat → Option NodeState
  | 0 => some .homing
  | 1 => some .survey
  | 2 => some .joining
  | 3 => some .run
  | 4 => some .guarded
  | 5 => some .shutdown
  | 6 => some .safe
  | 7 => some .resuming
  | _ => none

/-- The role an ANNOUNCE gives: BAY or OTHER (R101); any other code is ignored. -/
def roleOf : Nat → Option Role
  | 0 => some .bay
  | 1 => some .other
  | _ => none

/-- The side a code names. -/
def sideOf : Nat → Option Side
  | 0 => some .west
  | 1 => some .east
  | _ => none

/-- The item slot state a state byte names. -/
def itemStateOf : Nat → Option ItemState
  | 0 => some .empty
  | 1 => some .inBin
  | 2 => some .lentOut
  | 3 => some .clash
  | _ => none

/-- The input type a code names; a code naming none of the three becomes NONE (R167). -/
def inputTypeOf : Nat → InputType
  | 1 => .heat
  | 2 => .smoke
  | _ => .unfitted

/-- A zone number a frame carries, if it is 0 to 15. -/
def zoneOf (z : Nat) : Option Zone := if z < 16 then some (BitVec.ofNat 4 z) else none

/-- Whether a number is a bin id, 1 to 65,534 (R10). -/
def isBinId (b : Nat) : Bool := 1 ≤ b ∧ b ≤ 65534

/-! ### Straps (R162) -/

/-- The width or depth a strap code gives. -/
def gridOf (v : BitVec 3) : Nat := if v = 0 then 2 else v.toNat + 1

/-- The column capacity a strap code gives. -/
def capacityOf (v : BitVec 2) : Nat :=
  match v.toNat with
  | 0 => 8
  | 1 => 10
  | 2 => 12
  | _ => 16

/-- What the straps give (R1, R162). -/
def boardOf (p : StrapPins) : Board :=
  { station := p.stn.toNat, zone := p.zn, w := gridOf p.wd, d := gridOf p.dp,
    c := capacityOf p.ht, activeHigh := p.fpol }

/-! ### SETUP (R167) -/

/-- A value clamped into a range. -/
def clamp (lo hi v : Nat) : Nat := min hi (max lo v)

/-- The nearest window length, the lower one on a tie (R167). -/
def clampWindow (n : Nat) : Nat :=
  if n ≤ 12 then 8 else if n ≤ 24 then 16 else if n ≤ 48 then 32 else 64

/-- Thresholds brought into range; the hysteresis is clamped against T1 as already clamped. -/
def clampThresholds (r : RawThresholds) : Thresholds :=
  { t1 := min 1022 r.t1, t2 := min 1022 r.t2, t3 := min 1022 r.t3,
    h := min (min 1022 r.t1) r.h }

/-- Whether thresholds are strictly ascending. -/
def Thresholds.ascends (t : Thresholds) : Bool := t.t1 < t.t2 ∧ t.t2 < t.t3

/-- The SETUP values as taken, every field in range (R167). -/
def setupOf (f : SetupFrame) : Setup :=
  { loanFetch := min 10 f.loanFetch
    staffFetch := min 10 f.staffFetch
    returnFetch := min 10 f.returnFetch
    verify := min 10 f.verify
    stow := min 10 f.stow
    spill := min 10 f.spill
    reserve := min 63 f.reserve
    statePeriod := clamp 1 10 f.statePeriod
    claimWindow := clamp 10 250 f.claimWindow
    bidWindow := clamp 10 250 f.bidWindow
    handoverWindow := clamp 50 1000 f.handoverWindow
    motionTimeout := clamp 5 120 f.motionTimeout
    arrivalWindow := clamp 30 900 f.arrivalWindow
    decayPeriod := min 255 f.decayPeriod
    window := clampWindow f.window
    heat := clampThresholds f.heat
    smoke := clampThresholds f.smoke
    types := [0, 1, 2, 3].map (fun i => inputTypeOf (f.types.getD i 0)) }

/-! ### Bin records -/

/-- Whether an item slot's state and item id suit each other: an id exactly when not EMPTY (R9). -/
def slotSuits (i : RawSlot) : Bool :=
  match itemStateOf i.state with
  | none => false
  | some .empty => i.item = 0
  | some _ => i.item ≠ 0

/-- Whether a survey RECORD's fields are all in range (R9). -/
def recordInRange (r : RawRecord) : Bool :=
  isBinId r.bin ∧ r.demand ≤ 7 ∧ r.slots.all slotSuits

/-- An item slot as stored: one out of range is stored EMPTY when its item id is 0 and CLASH
otherwise (R10). -/
def slotOf (i : RawSlot) : ItemSlot :=
  match itemStateOf i.state with
  | some .empty => if i.item = 0 then { state := .empty, item := 0 } else { state := .clash, item := i.item }
  | some st => if i.item = 0 then { state := .empty, item := 0 } else { state := st, item := i.item }
  | none => if i.item = 0 then { state := .empty, item := 0 } else { state := .clash, item := i.item }

/-- A received bin record brought into range (R10). -/
def bodyOf (r : RawRecord) : RecordBody :=
  { bin := r.bin, demand := min 7 r.demand, suspectTag := r.marks.getLsbD 0,
    slots := r.slots.map slotOf }

/-- A record a COLUMN LOAD creates (R8). -/
def freshBody (b : BinId) : RecordBody :=
  { bin := b, demand := 0, suspectTag := false,
    slots := List.replicate 8 { state := .empty, item := 0 } }

/-- Whether an item slot is IN or OUT. -/
def ItemSlot.isHeld (i : ItemSlot) : Bool := i.state = .inBin ∨ i.state = .lentOut

/-- Whether an item id stands IN or OUT in a record of the node other than that of bin `but`
(R118, R122). -/
def itemHeld (s : State) (but : Option BinId) (item : ItemId) : Bool :=
  s.inv.records.any (fun r =>
    some r.body.bin ≠ but ∧ r.body.slots.any (fun i => i.isHeld ∧ i.item = item))

/-- The CLASH marking over item slots in slot order: `held` says which ids stand IN or OUT in other
records, `seen` lists those of the earlier slots that stayed unmarked (R122). -/
def clashSlots (held : ItemId → Bool) : List ItemId → List ItemSlot → List ItemSlot
  | _, [] => []
  | seen, i :: is =>
    if i.isHeld then
      if held i.item ∨ i.item ∈ seen then { i with state := .clash } :: clashSlots held seen is
      else i :: clashSlots held (i.item :: seen) is
    else i :: clashSlots held seen is

/-- A record from outside, CLASH-marked against the node's other records (R122). -/
def clashMark (s : State) (r : RecordBody) : RecordBody :=
  { r with slots := clashSlots (itemHeld s (some r.bin)) [] r.slots }

/-! ### Positions (introduction, R1) -/

/-- The grid coordinates of a position. -/
def coords (b : Board) : Pos → Int × Int
  | .column c => ((c % b.w : Nat), (c / b.w : Nat))
  | .chute => ((b.w : Int), (b.d : Int) - 1)
  | .slot .west => (-1, 0)
  | .slot .east => ((b.w : Int), 0)
  | .park => (-1, (b.d : Int) - 1)

/-- The Manhattan distance between two positions. -/
def distance (b : Board) (p q : Pos) : Nat :=
  ((coords b p).1 - (coords b q).1).natAbs + ((coords b p).2 - (coords b q).2).natAbs

end Sys2Proof.Machine
end

