-- ==== Sys2Proof/Machine/Frames.lean ====
section
/-! DEFINITION. Frames as the node builds them: bus levels (R173), the arbitration order (R173,
R174), payload bytes (R177, R178), the check and the bits on the wire (R172). -/

namespace Sys2Proof.Machine

open Sys2Proof

/-! ### Levels (R173) -/

/-- The level SETUP gives a class; RECLAIM's is 10 (R38, R167). -/
def classLevel (s : State) : JobClass → Nat
  | .loanFetch => s.setup.loanFetch
  | .staffFetch => s.setup.staffFetch
  | .returnFetch => s.setup.returnFetch
  | .verify => s.setup.verify
  | .stow => s.setup.stow
  | .spill => s.setup.spill
  | .reclaim => 10

/-- Whether the arbitration word (level, rank, source) of `a` beats that of `b`: higher level, then
lower rank, then lower source (R173). -/
def wordBeats (a b : ArbWord) : Bool :=
  b.level < a.level ∨ (a.level = b.level ∧
    (a.rank < b.rank ∨ (a.rank = b.rank ∧ a.source < b.source)))

/-- The arbitration word of a frame (R172). -/
def wordOf (f : Frame) : ArbWord := { level := f.level, rank := f.rank, source := f.src }

/-! ### Codes sent (R178) -/

def NodeState.code : NodeState → Nat
  | .homing => 0 | .survey => 1 | .joining => 2 | .run => 3
  | .guarded => 4 | .shutdown => 5 | .safe => 6 | .resuming => 7

def JobClass.code : JobClass → Nat
  | .loanFetch => 0 | .staffFetch => 1 | .returnFetch => 2 | .verify => 3
  | .stow => 4 | .spill => 5 | .reclaim => 6

def JobOutcome.code : JobOutcome → Nat
  | .complete => 0 | .short => 1 | .halted => 2 | .positionFault => 3
  | .noRecord => 4 | .arrivalTimeout => 5 | .removed => 6

def RefuseReason.code : RefuseReason → Nat
  | .notReady => 0 | .fire => 1 | .fireActive => 2 | .classOff => 3 | .tableFull => 4
  | .binAway => 5 | .binMoving => 6 | .binBusy => 7 | .binState => 8 | .columnSuspect => 9
  | .malformed => 10 | .notAway => 11 | .wrongItem => 12 | .slotState => 13 | .duplicate => 14
  | .setupLocked => 15 | .setupInvalid => 16 | .offerClosed => 17 | .notSafe => 18

def SlotRefuseReason.code : SlotRefuseReason → Nat
  | .busy => 0 | .hazard => 1 | .classOff => 2 | .tableFull => 3 | .noRoom => 4

def CtxState.code : CtxState → Nat
  | .free => 0 | .bidding => 1 | .awaiting => 2 | .ready => 3
  | .active => 4 | .stalled => 5 | .paused => 6 | .ending => 7

def ItemState.code : ItemState → Nat
  | .empty => 0 | .inBin => 1 | .lentOut => 2 | .clash => 3

def ChuteState.code : ChuteState → Nat
  | .empty => 0 | .outbound => 1 | .inbound => 2 | .blocked => 3

def BlockReason.code : BlockReason → Nat
  | .none => 0 | .unmatched => 1 | .noRecord => 2 | .chuteConflict => 3
  | .emptyPick => 4 | .occupiedPlace => 5

def InputType.code : InputType → Nat
  | .unfitted => 0 | .heat => 1 | .smoke => 2

def Role.code : Role → Nat
  | .bay => 0 | .other => 1 | .unknown => 2

def sideCode : Side → Nat
  | .west => 0 | .east => 1

def Direction.code : Direction → Nat
  | .outward => 0 | .inward => 1

def Residence.code : Residence → Nat
  | .resident _ _ => 0 | .inHand => 1 | .inSlot _ => 2 | .atChute _ => 3
  | .away => 4 | .arriving => 5 | .handing _ => 6

def boolCode (b : Bool) : Nat := if b then 1 else 0

/-! ### Payload bytes (R177) -/

def byte (n : Nat) : List Byte := [BitVec.ofNat 8 n]

/-- A two-byte field, most significant byte first (R171). -/
def word (n : Nat) : List Byte := byte (n / 256) ++ byte n

/-- A four-byte field, most significant byte first. -/
def long (n : Nat) : List Byte := word (n / 65536) ++ word n

/-- The byte whose bits, from bit 0 up, are the given flags. -/
def flagByte (l : List Bool) : List Byte :=
  byte (l.foldr (fun b n => boolCode b + 2 * n) 0)

/-- The two bytes of a residence's part, any unused byte 0 (R177; assumption 22). -/
def Residence.part : Residence → List Byte
  | .resident c h => byte c ++ byte h
  | .inSlot sd => byte (sideCode sd) ++ byte 0
  | .atChute dir => byte dir.code ++ byte 0
  | .handing w => byte w ++ byte 0
  | .inHand | .away | .arriving => word 0

/-- The 44 bytes of a bin record (R177). -/
def recordBytes (r : RecordBody) : List Byte :=
  word r.bin ++ byte r.demand ++ byte (boolCode r.suspectTag) ++
    r.slots.flatMap (fun i => byte i.state.code ++ long i.item)

/-- A bin record with its residence, as a bin-record REPLY holds it. -/
def heldRecordBytes (r : BinRecord) : List Byte :=
  recordBytes r.body ++ byte r.residence.code ++ r.residence.part

/-- A neighbour's eleven bytes of a neighbours REPLY, unknown values as R178 gives them. -/
def neighbourBytes (n : NeighbourReport) : List Byte :=
  byte (n.station.getD 0) ++ byte n.role.code ++
    byte ((n.zone.map (·.toNat)).getD 255) ++ byte (boolCode (!n.present)) ++
    byte (boolCode n.lost) ++ word (n.free.getD 65535) ++ byte (n.reserve.getD 255) ++
    byte ((n.nodeState.map (·.code)).getD 255) ++ word n.periods

/-- The 37 bytes of a SETUP (R177). -/
def setupBytes (v : Setup) : List Byte :=
  byte v.loanFetch ++ byte v.staffFetch ++ byte v.returnFetch ++ byte v.verify ++ byte v.stow ++
    byte v.spill ++ byte v.reserve ++ byte v.statePeriod ++ byte v.claimWindow ++
    byte v.bidWindow ++ word v.handoverWindow ++ byte v.motionTimeout ++ word v.arrivalWindow ++
    byte v.decayPeriod ++ byte v.window ++ word v.heat.t1 ++ word v.heat.t2 ++ word v.heat.t3 ++
    word v.smoke.t1 ++ word v.smoke.t2 ++ word v.smoke.t3 ++ word v.heat.h ++ word v.smoke.h ++
    v.types.flatMap (fun t => byte t.code)

/-- A column as a query returns it (R3). -/
def columnBytes (index : Nat) (suspect : Bool) (bins : List BinId) : List Byte :=
  byte index ++ byte (boolCode suspect) ++ byte bins.length ++ bins.flatMap word

/-- The reply kind's number (R178). -/
def Reply.code : Reply → Nat
  | .binRecord _ => 0 | .column _ _ _ => 1 | .awayList _ _ _ => 2 | .jobSummary _ => 3
  | .detectors _ _ _ => 4 | .neighbours _ _ => 5 | .counters _ => 6 | .setup _ => 7
  | .loadEnd _ _ _ _ _ => 8 | .chuteClear _ _ => 9 | .record _ => 10 | .columnLoad _ _ _ => 11

/-- A REPLY's content (R177). -/
def replyBytes : Reply → List Byte
  | .binRecord (some r) | .record r => heldRecordBytes r
  | .binRecord none => List.replicate 44 0 ++ byte 7 ++ word 0
  | .column i sus bins | .columnLoad i sus bins => columnBytes i sus bins
  | .awayList total start es =>
    byte total ++ byte start ++ es.flatMap (fun e => word e.1 ++ byte e.2.code)
  | .jobSummary js =>
    js.flatMap (fun j => byte (16 * j.1.code + (j.2.map (·.code)).getD 0))
  | .detectors is n g =>
    is.flatMap (fun i =>
      byte i.type.code ++ byte (gradeNum i.grade) ++ byte (gradeNum i.worst) ++
        byte (boolCode i.fault) ++ word (i.mean.getD 1023) ++ byte i.samples) ++
      byte n ++ byte (gradeNum g)
  | .neighbours w e => neighbourBytes w ++ neighbourBytes e
  | .counters c => word c.sent ++ word c.received ++ word c.voids ++ word c.losses ++ word c.dropped
  | .setup v => setupBytes v
  | .loadEnd w d c f n => byte w ++ byte d ++ byte c ++ word f ++ byte n
  | .chuteClear st was => byte st.code ++ byte was.code

/-- A kind's number in the catalogue (R177). -/
def Payload.kindNum : Payload → Nat
  | .announce _ _ _ _ _ _ => 19 | .state _ => 20 | .claim _ _ => 21 | .refuse _ => 22
  | .progress _ _ _ _ => 23 | .done _ => 24 | .offer _ _ _ _ _ => 25 | .bid _ _ => 26
  | .record _ => 27 | .adopted _ => 28 | .slotClaim _ => 29 | .slotGrant _ => 30
  | .slotRefuse _ => 31 | .slotLoaded _ => 32 | .slotTaken _ => 33 | .returnClaim _ _ _ _ => 34
  | .alarm _ => 35 | .reply _ => 36

/-- A frame's payload bytes (R177). -/
def Payload.bytes : Payload → List Byte
  | .announce st z w d c f =>
    byte 0 ++ byte st ++ byte z.toNat ++ byte w ++ byte d ++ byte c ++ word f
  | .state r =>
    byte r.node.code ++
      flagByte [r.chuteBlocked, r.driveFault, r.suspectColumns, r.slotStuck, r.safeWithFault,
        r.loadNeeded] ++
      word r.free ++ byte r.reserve ++ byte r.awayCount ++ byte r.inUse ++ byte (gradeNum r.grade) ++
      byte r.zone.toNat ++ flagByte r.pendingClasses
  | .claim bits depths => flagByte bits ++ depths.flatMap byte
  | .refuse r => byte r.code
  | .progress n t b k => byte n ++ byte t ++ word b ++ byte k
  | .done d =>
    byte d.ctx ++ byte d.cls.code ++ byte d.outcome.code ++ byte d.claimed ++ byte d.delivered ++
      flagByte [d.tagFault, d.restorePartial, d.cancelLate] ++ byte d.spilled ++
      word (d.binRead.getD 0)
  | .offer h b d o desk => byte h ++ word b ++ byte d ++ byte o ++ byte desk
  | .bid h b => byte h ++ word b
  | .record r | .slotLoaded r => recordBytes r
  | .adopted b | .slotClaim b | .slotGrant b | .slotTaken b => word b
  | .slotRefuse r => byte r.code
  | .returnClaim i b sl res => long i ++ word b ++ byte sl ++ byte res.code ++ res.part
  | .alarm z => byte z.toNat
  | .reply r => byte r.code ++ replyBytes r

/-! ### Bits on the wire (R171, R172) -/

/-- The low `n` bits of a number, most significant first. -/
def bitsOf : Nat → Nat → List Bool
  | 0, _ => []
  | n + 1, v => (v / 2 ^ n % 2 = 1) :: bitsOf n v

/-- One bit taken into the check: generator x^16 + x^12 + x^5 + 1 (R172). -/
def crcBit (c : BitVec 16) (b : Bool) : BitVec 16 :=
  if c.msb ≠ b then (c <<< 1) ^^^ 0x1021#16 else c <<< 1

/-- The check over a list of bits, from all ones (R172). -/
def crc (bits : List Bool) : BitVec 16 := bits.foldl crcBit 0xFFFF#16

/-- The bits the check covers: from the level field to the last of the payload (R172). -/
def checkedBits (f : Frame) : List Bool :=
  bitsOf 4 (15 - f.level) ++ bitsOf 12 f.rank ++ bitsOf 5 f.src ++
    bitsOf 6 f.payload.kindNum ++ bitsOf 5 f.dst ++ bitsOf 8 f.tag ++
    bitsOf 6 f.payload.bytes.length ++ f.payload.bytes.flatMap (fun b => bitsOf 8 b.toNat)

/-- The bits of a frame from the start mark to the end field, a dominant bit as `false`: the void window
and the end are recessive (R171, R172). -/
def wireBits (f : Frame) : List Bool :=
  false :: checkedBits f ++ bitsOf 16 (crc (checkedBits f)).toNat ++ List.replicate 9 true

end Sys2Proof.Machine
end

