-- ==== Sys2Proof/Machine/Scorer.lean ====
section
/-! DEFINITION. The scorer (chapter 2): burial values, pending targets, eligibility, the score, and
the choice of a column. -/

namespace Sys2Proof.Machine

open Sys2Proof

/-- The burial value B of a column: demand plus loan count over its bins, capped at 63 (R25). -/
def burial (s : State) (c : Nat) : Nat :=
  min 63 (((column s c).bins.map (fun b =>
    match recordOf s b with
    | some r => r.body.demand + loanCount r.body
    | none => 0)).sum)

/-- Whether a bin is a WAITING target of a FETCH or VERIFY context that is READY, ACTIVE, STALLED
or PAUSED (R25, R64). -/
def isPending (s : State) (b : BinId) : Bool :=
  s.sched.ctxs.any (fun c =>
    c.state.isLive ∧ c.targets.any (fun t => t.bin = b ∧ t.status = .waiting))

/-- The pending-target count P of a column (R25). -/
def pendingTargets (s : State) (c : Nat) : Nat := (column s c).bins.countP (isPending s)

/-- The score S = (2 + d)·t + 4·f + 2·B + 64·P of column `c` for a bin of demand `d` (R24). -/
def score (s : State) (d : Nat) (ref : Pos) (c : Nat) : Nat :=
  (2 + d) * distance s.board ref (.column c) + 4 * (column s c).bins.length + 2 * burial s c +
    64 * pendingTargets s c

/-- Whether a column is dig-locked by a context other than `who` (R26, R52). -/
def lockedBut (s : State) (who : Option Nat) (c : Nat) : Bool :=
  ctxNumbers.any (fun n => some n ≠ who ∧ (ctxOf s n).lock = some c)

/-- Whether a column is eligible: not full, not SUSPECT, not dig-locked by a context other than the
one the choice is made for, and not the transfer's source (R26). -/
def eligible (s : State) (who src : Option Nat) (c : Nat) : Bool :=
  (column s c).bins.length < s.board.c ∧ (column s c).suspect = false ∧
    lockedBut s who c = false ∧ src ≠ some c

/-- The entry with the lowest score, the earliest of those that share it. -/
def lowest : List (Nat × Nat) → Option (Nat × Nat)
  | [] => none
  | p :: ps =>
    match lowest ps with
    | none => some p
    | some q => if q.2 < p.2 then some q else some p

/-- The scorer's choice and its score: the eligible column with the lowest S, the lowest index on a
tie (R27). `who` is the context the choice is made for, `src` the excluded source column. -/
def choose (s : State) (d : Nat) (ref : Pos) (who src : Option Nat) : Option (Nat × Nat) :=
  lowest (((List.range (columnCount s)).filter (eligible s who src)).map
    (fun c => (c, score s d ref c)))

/-- The chosen column alone. -/
def chooseColumn (s : State) (d : Nat) (ref : Pos) (who src : Option Nat) : Option Nat :=
  (choose s d ref who src).map (·.1)

/-- A bin's demand, 0 where the node holds no record of it. -/
def demandOf (s : State) (b : BinId) : Nat := ((recordOf s b).map (·.body.demand)).getD 0

/-- The column a position is, if it is one. -/
def posColumn : Pos → Option Nat
  | .column c => some c
  | _ => none

/-- The relocation choice for the top bin `b` of column `c`, made for context `n` (R28). -/
def relocationChoice (s : State) (n c : Nat) (b : BinId) : Option Nat :=
  chooseColumn s (demandOf s b) (.column c) (some n) (some c)

/-- The put-away choice with a reference position, made for context `who` (R29). -/
def putAwayChoice (s : State) (who : Option Nat) (d : Nat) (ref : Pos) : Option Nat :=
  chooseColumn s d ref who none

/-- The retarget choice for the bin in hand of a transfer: the reference is the pick position, and a
source column is excluded; a set-down and a homing put-away act for no context (R30). -/
def retargetChoice (s : State) (x : Xfer) : Option Nat :=
  chooseColumn s (((inHand s).map (·.body.demand)).getD 0) x.src
    (if x.setDown then none else x.owner) (posColumn x.src)

/-- The bid rank S_min + 32·Q + penalty; Q counts the BIDDING context just taken (R31). -/
def bidRank (s : State) (smin : Nat) : Nat :=
  smin + 32 * inUse s + (if freePositions s - 1 < s.setup.reserve then 512 else 0)

end Sys2Proof.Machine
end

