-- ==== Sys2Proof/Machine/Contexts.lean ====
section
/-! DEFINITION. Contexts between steps (chapter 3): ready lists, age stamps, stalls and wake-ups,
dig locks, pausing, the notice slot and the completion queue. -/

namespace Sys2Proof.Machine

open Sys2Proof

/-! ### Ready lists and age stamps (R40, R41) -/

/-- The ready list of a level. -/
def readyList (s : State) (level : Nat) : List Nat := s.sched.ready.getD (level - 1) []

/-- A context leaves whatever ready list it stands in, the entries behind it keeping their order; it is no
longer one the event has woken. -/
def leaveList (s : State) (n : Nat) : State :=
  s.withSched
    { s.sched with
      ready := s.sched.ready.map (fun l => l.filter (· ≠ n))
      woken := s.sched.woken.filter (· ≠ n) }

/-- A context enters READY at the tail of its level's list with a new age stamp. -/
def toTail (s : State) (n : Nat) : State :=
  let c := ctxOf s n
  s.withSched
    { s.sched with
      ctxs := s.sched.ctxs.set n
        { c with state := .ready, wait := none, stamp := s.sched.nextStamp }
      ready := s.sched.ready.modify (c.level - 1) (· ++ [n])
      nextStamp := s.sched.nextStamp + 1 }

/-- A preempted context enters the head of its level's list, keeping its stamp (R43). -/
def toHead (s : State) (n : Nat) : State :=
  let c := ctxOf s n
  s.withSched
    { s.sched with
      ctxs := s.sched.ctxs.set n { c with state := .ready, wait := none }
      ready := s.sched.ready.modify (c.level - 1) (fun l => n :: l) }

/-- A context becomes PAUSED with a new age stamp: a creation or an arrival outside RUN (R41, R49). -/
def enterPaused (s : State) (n : Nat) : State :=
  let c := ctxOf s n
  s.withSched
    { s.sched with
      ctxs := s.sched.ctxs.set n
        { c with state := .paused, wait := none, stamp := s.sched.nextStamp }
      nextStamp := s.sched.nextStamp + 1 }

/-- A context that may take the gantry: READY in RUN, PAUSED outside it (R38, R49). -/
def readied (s : State) (n : Nat) : State :=
  if s.fire.node = .run then toTail s n else enterPaused s n

/-- A context is held: it leaves its list, drops its wait reason and keeps its stamp (R49). -/
def pauseCtx (s : State) (n : Nat) : State :=
  modCtx (leaveList s n) n (fun c => { c with state := .paused, wait := none })

/-- Puts a context number into a list ordered by age stamp. -/
def insertByStamp (s : State) (n : Nat) : List Nat → List Nat
  | [] => [n]
  | m :: ms =>
    if (ctxOf s m).stamp < (ctxOf s n).stamp then m :: insertByStamp s n ms else n :: m :: ms

/-- Context numbers in ascending order of their age stamps. -/
def byStamp (s : State) (ns : List Nat) : List Nat := ns.foldr (insertByStamp s) []

/-! ### Stalls and wake-ups (R45, R46) -/

/-- A context stalls with a wait reason, keeping everything it holds. -/
def stall (s : State) (n : Nat) (r : WaitReason) : State :=
  modCtx s n (fun c => { c with state := .stalled, wait := some r })

/-- Whether a context is STALLED with a given reason. -/
def stalledOn (s : State) (n : Nat) (r : WaitReason) : Bool :=
  (ctxOf s n).state = .stalled ∧ (ctxOf s n).wait = some r

/-- Wakes the STALLED contexts that `p` names by number and reason: they are marked, and enter their lists
together once the event's changes are made (R46; assumption 11). -/
def wakeWhere (s : State) (p : Nat → WaitReason → Bool) : State :=
  s.withSched
    { s.sched with
      woken := s.sched.woken ++ ctxNumbers.filter (fun n =>
        (ctxOf s n).state = .stalled ∧ (ctxOf s n).wait.any (p n)) }

/-- Whether a STALLED context has been woken by the event being taken. -/
def isWoken (s : State) (n : Nat) : Bool := n ∈ s.sched.woken ∧ (ctxOf s n).state = .stalled

/-- The contexts the event has woken enter the tails of their lists, oldest first, behind a context
that the event itself made READY (R46; assumption 11). -/
def flushWoken (s : State) : State :=
  (byStamp s (ctxNumbers.filter (isWoken s))).foldl toTail
    (s.withSched { s.sched with woken := [] })

/-- Whether a wait reason is SLOT_WAIT (R45). -/
def WaitReason.isSlotWait : WaitReason → Bool
  | .slotWait | .slotClosed _ => true
  | .noRoom | .chuteBusy | .awayFull | .columnLock _ | .drive => false

/-- Wakes the contexts stalled with one reason. -/
def wakeOn (s : State) (r : WaitReason) : State := wakeWhere s (fun _ w => w = r)

/-- An away entry may have been freed: the overflow record moves first, and contexts stalled with
AWAY_FULL are woken if a reservation can then be taken (R18, R19, R46). -/
def awayFreed (s : State) : State :=
  if canReserve (moveOverflow s) then wakeOn (moveOverflow s) .awayFull else moveOverflow s

/-! ### Dig locks (R51, R52) -/

/-- A context gives up its dig lock, waking COLUMN_LOCK on that column and NO_ROOM (R52). -/
def releaseLock (s : State) (n : Nat) : State :=
  match (ctxOf s n).lock with
  | none => s
  | some c =>
    wakeWhere (modCtx s n (fun k => { k with lock := none }))
      (fun _ w => w = .noRoom ∨ w = .columnLock c)

/-- A context takes the dig lock on a column, releasing first a lock it holds on another; it
already holding this one, nothing changes (R51). -/
def takeLock (s : State) (n c : Nat) : State :=
  if (ctxOf s n).lock = some c then s
  else modCtx (releaseLock s n) n (fun k => { k with lock := some c })

/-! ### Pausing (R49, R50) -/

/-- Pauses the contexts in the given states. -/
def pauseIn (s : State) (p : CtxState → Bool) : State :=
  (ctxNumbers.filter (fun n => p (ctxOf s n).state)).foldl pauseCtx s

/-- Releases every PAUSED context, oldest first (R50). -/
def releasePaused (s : State) : State :=
  (byStamp s (ctxNumbers.filter (fun n => (ctxOf s n).state = .paused))).foldl toTail s

/-! ### Bids withdrawn (R86) -/

/-- A BIDDING context, or an AWAITING one holding no record, is freed with no completion record:
its pending BID is withdrawn and its reservation freed (R55, R86, R89). -/
def withdrawBid (s : State) (n : Nat) : State :=
  let s1 := match (ctxOf s n).bid with
    | none => s
    | some f => withdrawTx s f.seq
  awayFreed (setCtx s1 n Ctx.blank)

/-- Withdraws every BIDDING context (R86, R147, R153, R154). -/
def withdrawAllBids (s : State) : State :=
  (ctxNumbers.filter (fun n => (ctxOf s n).state = .bidding)).foldl withdrawBid s

/-! ### The notice slot (R56, R57) -/

/-- The PROGRESS frame of a context (R79). -/
def noticeFrame (s : State) (n : Nat) (b : NoticeBody) : Frame :=
  frameOf s (ctxOf s n).level 0 (ctxOf s n).origin (ctxOf s n).tag
    (.progress n b.target b.bin b.dig)

/-- Loads a notice of context `n` into the slot, in place of one that has not started, and clears its owed
mark (R56, R174; assumption 60). -/
def loadNotice (s : State) (n : Nat) (b : NoticeBody) : State :=
  let t := s.withSched
    { s.sched with
      notice := s.sched.notice.filter (fun m => inTransmission s m.pf.seq) ++
        [{ ctx := n, pf := pframe s (noticeFrame s n b) }] }
  bumpSeq (modCtx t n (fun c => { c with noticeOwed := false }))

/-- A context with NOTIFY offers a notice at its step boundary: it is loaded unless the slot holds one of
another context (R56). -/
def offerNotice (s : State) (n : Nat) (b : NoticeBody) : State :=
  let s1 := modCtx s n (fun c => { c with lastNotice := some b })
  if s.sched.notice.all (fun m => m.ctx = n) then loadNotice s1 n b
  else modCtx s1 n (fun c => { c with noticeOwed := true })

/-- The lowest-numbered context with the owed mark loads its latest notice (R56). -/
def loadOwed (s : State) : State :=
  match ctxNumbers.find? (fun n => (ctxOf s n).noticeOwed) with
  | none => s
  | some n =>
    match (ctxOf s n).lastNotice with
    | none => s
    | some b => loadNotice s n b

/-- The notices a test names leave the slot, and the next one is loaded once it is empty (R56). -/
def noticeLeaves (s : State) (p : Notice → Bool) : State :=
  let left := s.sched.notice.filter (fun m => !p m)
  let s1 := s.withSched { s.sched with notice := left }
  if left.isEmpty then loadOwed s1 else s1

/-- Withdraws the notice of a context that ends (R57). -/
def withdrawNotice (s : State) (n : Nat) : State :=
  let own := s.sched.notice.filter (fun m => m.ctx = n)
  if own.isEmpty then s
  else noticeLeaves (own.foldl (fun t m => withdrawTx t m.pf.seq) s) (fun m => m.ctx = n)

/-! ### The completion queue (R54) -/

/-- A completion record joins the tail of the queue, and is numbered as posted then (R54, R174; assumption
63). -/
def pushDone (s : State) (d : DoneBody) : State :=
  bumpSeq (s.withSched
    { s.sched with doneQ := s.sched.doneQ ++ [{ body := d, seq := s.bus.seq, voids := 0 }] })

/-- The head leaves the queue, and the context that became ENDING earliest moves its record to the
tail and becomes FREE (R54). -/
def popDone (s : State) : State :=
  let s1 := s.withSched { s.sched with doneQ := s.sched.doneQ.drop 1 }
  match s1.sched.ending with
  | [] => s1
  | n :: rest =>
    let s2 := s1.withSched { s1.sched with ending := rest }
    match (ctxOf s2 n).report with
    | none => setCtx s2 n Ctx.blank
    | some d => pushDone (setCtx s2 n Ctx.blank) d

/-! ### Targets (R64) -/

/-- The current target of a context. -/
def currentTarget (c : Ctx) : Option Target := c.targets[c.cur]?

/-- Gives the current target a status. -/
def setCurrent (c : Ctx) (st : TargetStatus) : Ctx :=
  { c with targets := c.targets.modify c.cur (fun t => { t with status := st }) }

/-- Whether a bin is the context's current target. -/
def isCurrent (c : Ctx) (b : BinId) : Bool := (currentTarget c).any (fun t => t.bin = b)

/-- Whether some target of a context has a status. -/
def hasTarget (c : Ctx) (st : TargetStatus) : Bool := c.targets.any (fun t => t.status = st)

/-- Whether a FETCH or VERIFY context's work is done: no target WAITING or PICKED, and no restore
entry remains (R43, R80). -/
def workDone (c : Ctx) : Bool :=
  !hasTarget c .waiting && !hasTarget c .picked && !(c.restoring && !c.reloc.isEmpty)

/-- The outcome of work done (R80). -/
def doneOutcome (c : Ctx) : JobOutcome :=
  if c.delivered = c.claimed ∨ c.shortOk then .complete else .short

/-- The context whose step in flight has the bin in hand (R76, R134). -/
def jobOf (s : State) (b : BinId) : Option Nat :=
  ctxNumbers.find? (fun n => (ctxOf s n).step.any (fun t => t.bin = some b))

end Sys2Proof.Machine
end

