-- ==== Sys2Proof/Machine/Slots.lean ====
section
/-! DEFINITION. The slot agent (chapter 6): posting slot frames, claims and their refusal path, the
CLOSED overlays, resends, and the end of contexts (R53), which releases what they hold in the slots. -/

namespace Sys2Proof.Machine

open Sys2Proof

/-! ### Posting slot frames (R102) -/

/-- The station a side's slot frames go to. -/
def sideStation (s : State) (sd : Side) : Station := (nbr s sd).station.getD 0

/-- Posts a slot frame as the side's pending one. -/
def postSlot (s : State) (sd : Side) (tag : Tag) (p : Payload) : State :=
  bumpSeq (modView s sd (fun v =>
    { v with pend := some (pframe s (frameOf s 12 0 (sideStation s sd) tag p)) }))

/-- Posts a SLOT GRANT or SLOT REFUSE, or leaves the frame that needed it unanswered when a frame of
the side is pending (R102). -/
def answerSlot (s : State) (sd : Side) (tag : Tag) (p : Payload) : State :=
  if (view s sd).pend.isNone then postSlot s sd tag p else s

/-- Posts a waiting SLOT LOADED or SLOT TAKEN: the SLOT LOADED carries the view's tag and the record
as then stored, and is dropped when the side is LOADED_OUT no more. -/
def postWaiting (s : State) (sd : Side) : SlotWait → State
  | .taken b tag => postSlot s sd tag (.slotTaken b)
  | .loaded =>
    if (view s sd).state = .loadedOut then
      match recordAt s (.inSlot sd) with
      | some r => postSlot s sd (view s sd).tag (.slotLoaded r.body)
      | none => s
    else s

/-- Whether a payload is SLOT GRANT or SLOT REFUSE. -/
def Payload.isSlotAnswer : Payload → Bool
  | .slotGrant _ | .slotRefuse _ => true
  | _ => false

/-- Whether a payload is SLOT CLAIM. -/
def Payload.isSlotClaim : Payload → Bool
  | .slotClaim _ => true
  | _ => false

/-- Whether a payload is SLOT LOADED. -/
def Payload.isSlotLoaded : Payload → Bool
  | .slotLoaded _ => true
  | _ => false

/-- Posts SLOT LOADED or SLOT TAKEN: it displaces a pending SLOT GRANT or SLOT REFUSE that has not
started, and waits behind any other pending frame (R102). -/
def postSlotData (s : State) (sd : Side) (w : SlotWait) : State :=
  match (view s sd).pend with
  | none => postWaiting s sd w
  | some f =>
    if f.frame.payload.isSlotAnswer ∧ inTransmission s f.seq = false then postWaiting s sd w
    else modView s sd (fun v => { v with waiting := v.waiting ++ [w] })

/-- Posts the first waiting frame of a list that can still be posted, and keeps the rest waiting. -/
def postFirst (s : State) (sd : Side) : List SlotWait → State
  | [] => modView s sd (fun v => { v with waiting := [] })
  | w :: ws =>
    let t := postWaiting (modView s sd (fun v => { v with waiting := ws })) sd w
    if (view t sd).pend.isSome then t else postFirst s sd ws

/-- The side's pending frame leaves, and the frame waiting behind it is posted (R102). -/
def slotFrameLeaves (s : State) (sd : Side) : State :=
  postFirst (modView s sd (fun v => { v with pend := none })) sd (view s sd).waiting

/-! ### Claims (R103, R104) -/

/-- Whether a side qualifies for a spill (R103). -/
def qualifies (s : State) (sd : Side) : Bool :=
  !sideClosed s sd && (view s sd).state = .free && (view s sd).pend.isNone &&
    (view s sd).waiting.isEmpty && (view s sd).takenOwed.isNone && !(view s sd).resendOwed &&
    (nbr s sd).nodeState = some .run &&
    (match (nbr s sd).free, (nbr s sd).reserve with
      | some f, some r => r + 1 ≤ f
      | _, _ => false)

/-- Takes the next claim tag (R102). -/
def bumpTag (s : State) : State :=
  s.withSlots { s.slots with nextTag := (s.slots.nextTag + 1) % 256 }

/-- Claims a side for context `n` and bin `b`: SLOT CLAIM posted, the view CLAIMING (R103). -/
def claimSide (s : State) (sd : Side) (n : Nat) (b : BinId) : State :=
  let tag := s.slots.nextTag
  modView (postSlot (bumpTag s) sd tag (.slotClaim b)) sd (fun v =>
    { v with state := .claiming, tag, ctx := some n, bin := some b, claimTimer := none })

/-- Asks for a spill: the first of the sides that qualifies is claimed and the context stalls with
SLOT_WAIT, or it stalls with NO_ROOM (R67, R96, R103). -/
def spillRequest (s : State) (n : Nat) (b : BinId) : State :=
  match sides.find? (qualifies s) with
  | some sd => stall (claimSide s sd n b) n .slotWait
  | none => stall s n .noRoom

/-- The bin a context means to spill: the top bin of its locked column, the bin it is putting away,
or the bin it is taking (R103). -/
def spillBin (s : State) (n : Nat) : BinId :=
  match (ctxOf s n).carried with
  | some (.own b) => b
  | some (.foreign r) => r.bin
  | none =>
    match (ctxOf s n).lock with
    | some c => ((column s c).bins.getLast?).getD 0
    | none => 0

/-- The refusal path: a context still STALLED with SLOT_WAIT for the answer tries the east side after the west, and
else waits for room without being woken (R47). -/
def refusalPath (s : State) (n : Nat) (sd : Side) : State :=
  if stalledOn s n .slotWait then
    if sd = .west ∧ qualifies s .east then claimSide s .east n (spillBin s n)
    else stall s n .noRoom
  else s

/-- Whether the view's own SLOT CLAIM is still pending in the transmitter. -/
def claimPending (s : State) (sd : Side) : Bool :=
  (view s sd).state = .claiming ∧ (view s sd).pend.any (fun f => f.frame.payload.isSlotClaim)

/-- Settles a claim withdrawn for a race once the view has left THEIRS (R105). -/
def settleRace (s : State) (sd : Side) : State :=
  match (view s sd).raced with
  | none => s
  | some n => refusalPath (modView s sd (fun v => { v with raced := none })) n sd

/-- A view becomes FREE with its exchange cleared; NO_ROOM contexts are woken if the side is not
CLOSED, and a claim withdrawn for a race is settled (R46, R99, R105). What is pending or waiting on
the side stays. -/
def freeView (s : State) (sd : Side) : State :=
  let t := modView s sd (fun v =>
    { v with
      state := .free, tag := 0, ctx := none, bin := none, resendOwed := false,
      loadRefused := false, claimTimer := none, shelfFull := false })
  settleRace (if sideClosed t sd then t else wakeOn t .noRoom) sd

/-- Withdraws a SLOT CLAIM that is still pending from the transmitter (R104). -/
def unpostClaim (s : State) (sd : Side) : State :=
  match (view s sd).pend with
  | none => s
  | some f => slotFrameLeaves (withdrawTx s f.seq) sd

/-- Withdraws a pending claim: the side becomes FREE, and the context takes the refusal path if it
still waits (R100, R104, R153). -/
def withdrawClaim (s : State) (sd : Side) : State :=
  if claimPending s sd then
    let t := freeView (unpostClaim s sd) sd
    match (view s sd).ctx with
    | none => t
    | some n => refusalPath t n sd
  else s

/-- A CLAIMING side is refused: it becomes FREE and its context takes the refusal path (R104). -/
def claimRefused (s : State) (sd : Side) : State :=
  let t := freeView s sd
  match (view s sd).ctx with
  | none => t
  | some n => refusalPath t n sd

/-! ### Overlays (R100) -/

/-- A side's overlay lifts: NO_ROOM contexts are woken if the view is FREE, and the context of a MINE
or LOADED_IN view that stalled for this overlay is woken (R46, R100, R113). -/
def overlayLifted (s : State) (sd : Side) : State :=
  match (view s sd).state with
  | .free => wakeOn s .noRoom
  | .mine | .loadedIn =>
    wakeOn s (.slotClosed sd)
  | _ => s

/-- Whether a transfer uses a slot as its source or a destination. -/
def usesSlot (x : Xfer) (sd : Side) : Bool :=
  x.src = .slot sd ∨ x.dst = .slot sd ∨ x.retarget = some (.slot sd)

/-- A transfer held back for a store update is never commanded: its step is undone. -/
def dropHeld (s : State) : State :=
  match s.motion.held with
  | none => s
  | some x =>
    let t := s.withMotion { s.motion with held := none }
    match x.owner with
    | none => t
    | some n => modCtx t n (fun c => { c with step := none })

/-- A transfer held back that would use a side is not begun once the side is CLOSED: its step is undone and
its context stalls with SLOT_WAIT; a RECLAIM's goes on (R100, R112; assumption 20). -/
def dropHeldAt (s : State) (sd : Side) : State :=
  match s.motion.held.filter (fun x => usesSlot x sd), (s.motion.held.bind (·.owner)) with
  | some _, some n =>
    if (ctxOf s n).kind = .reclaim then s else stall (dropHeld s) n (.slotClosed sd)
  | _, _ => s

/-- Makes a change that may close or lift a side's overlay, with what follows from it (R100). -/
def changeOverlay (sd : Side) (f : State → State) (s : State) : State :=
  let t := f s
  if sideClosed s sd then (if sideClosed t sd then t else overlayLifted t sd)
  else (if sideClosed t sd then withdrawClaim (dropHeldAt t sd) sd else t)

/-! ### Resends (R111) -/

/-- A LOADED_OUT view is marked resend owed (R111, R164). -/
def oweResend (s : State) (sd : Side) : State :=
  modView s sd (fun v => if v.state = .loadedOut then { v with resendOwed := true } else v)

/-- Whether a RECLAIM context exists for a side. -/
def reclaimOn (s : State) (sd : Side) : Bool :=
  s.sched.ctxs.any (fun c =>
    c.state ≠ .free ∧ c.state ≠ .ending ∧ c.kind = .reclaim ∧ c.side = some sd)

/-- A LOADED_OUT side with resend owed posts SLOT LOADED again once the conditions hold (R111). -/
def resendLoaded (s : State) (sd : Side) : State :=
  if (view s sd).state = .loadedOut ∧ (view s sd).resendOwed ∧ sideClosed s sd = false ∧
      (nbr s sd).present ∧ (nbr s sd).nodeState = some .run ∧ (view s sd).pend.isNone ∧
      reclaimOn s sd = false then
    postWaiting (modView s sd (fun v => { v with resendOwed := false })) sd .loaded
  else s

/-! ### The end of a context (R53) -/

/-- A view acting for a context that ends: a pending claim is withdrawn, a sent one goes on without a
context, a grant is released with SLOT REFUSE BUSY, any other view keeps its state with no context
(R104, R107). -/
def leaveView (n : Nat) (s : State) (sd : Side) : State :=
  if (view s sd).ctx = some n then
    match (view s sd).state with
    | .claiming =>
      if claimPending s sd then freeView (unpostClaim s sd) sd
      else modView s sd (fun v => { v with ctx := none })
    | .mine => answerSlot (freeView s sd) sd (view s sd).tag (.slotRefuse .busy)
    | _ => modView s sd (fun v => { v with ctx := none })
  else s

/-- Forgets a context whose claim was withdrawn for a race. -/
def leaveRace (n : Nat) (s : State) (sd : Side) : State :=
  if (view s sd).raced = some n then modView s sd (fun v => { v with raced := none }) else s

/-- The completion record of a context (R53). -/
def doneBody (n : Nat) (c : Ctx) (o : JobOutcome) (delivered : Nat) : DoneBody :=
  { origin := c.origin, tag := c.tag, level := c.level, ctx := n, cls := c.cls, outcome := o
    claimed := if c.kind = .fetch ∨ c.kind = .verify then c.claimed else 1
    delivered := if c.kind = .fetch ∨ c.kind = .verify then c.delivered else delivered
    tagFault := c.tagFault, restorePartial := c.restorePartial, cancelLate := c.cancelLate
    spilled := c.spilled, binRead := c.binRead }

/-- Forgets, in the store's updates and the event being taken, that they ended a step of context
`n`: an ended context is given no further command (R20). -/
def forgetStep (s : State) (n : Nat) : State :=
  let t := s.withStore
    { s.store with
      queue := s.store.queue.map (fun u =>
        if u.stepCtx = some n then { u with stepCtx := none } else u) }
  if t.sched.stepEnded = some n then t.withSched { t.sched with stepEnded := none } else t

/-- The context becomes ENDING or FREE: its record joins the completion queue if there is room
(R53). Whatever else it held is dropped. -/
def reportEnd (s : State) (n : Nat) (d : DoneBody) : State :=
  if s.sched.doneQ.length < 8 then pushDone (setCtx s n Ctx.blank) d
  else
    let t := setCtx s n
      { Ctx.blank with
        state := .ending, kind := (ctxOf s n).kind, cls := d.cls, level := d.level,
        origin := d.origin, tag := d.tag, report := some d }
    t.withSched { t.sched with ending := t.sched.ending ++ [n] }

/-- A context ends with an outcome: the completion record is built; its dig lock, reservation,
targets, relocation list, notice and slot views are released, waking what waits for them; then its
record joins the queue or it becomes ENDING (R53). `delivered` is reported for STOW, SPILL and
RECLAIM. A context that is FREE or ENDING has ended already. -/
def endCtx (s : State) (n : Nat) (o : JobOutcome) (delivered : Nat) : State :=
  let c := ctxOf s n
  if c.state = .free ∨ c.state = .ending then s else
  let s1 := reportEnd (withdrawNotice (forgetStep (leaveList s n) n) n) n (doneBody n c o delivered)
  let s2 := moveOverflow s1
  let s3 := wakeWhere s2 (fun _ w =>
    (c.lock.isSome ∧ (w = .noRoom ∨ some w = c.lock.map .columnLock)) ∨
      (c.reserved ∧ canReserve s2 ∧ w = .awayFull))
  sides.foldl (leaveView n) (sides.foldl (leaveRace n) s3)

/-- A THEIRS view is voided: its SPILL context ends REMOVED and the view becomes FREE (R111). -/
def voidGrant (s : State) (sd : Side) : State :=
  if (view s sd).state = .theirs then
    match (view s sd).ctx with
    | none => freeView s sd
    | some n => freeView (endCtx s n .removed 0) sd
  else s

end Sys2Proof.Machine
end

