-- ==== Sys2Proof/Machine/Drive.lean ====
section
/-! DEFINITION. The motion port (chapter 8): gantry commands, shutters, drive power, and the start of a
context's transfer. -/

namespace Sys2Proof.Machine

open Sys2Proof

/-! ### Gantry commands (R125 to R130) -/

/-- Restarts the motion timer from zero (R127). -/
def startTimer (s : State) : State :=
  s.withMotion { s.motion with timer := some s.setup.motionTimeout }

/-- Sends a plain PARK from IDLE (R125). -/
def parkPlain (s : State) : State :=
  startTimer (send (s.withMotion { s.motion with gantry := .parking }) (.park false))

/-- Sends the reconcile PARK from OFF or FAULTED; the gantry becomes HOMING (R125, R126). -/
def parkReconcile (s : State) : State :=
  startTimer (send (s.withMotion { s.motion with gantry := .homing }) (.park true))

/-- Sends ABANDON for the transfer in flight (R130). -/
def abandonXfer (s : State) (x : Xfer) : State :=
  startTimer (send
    (s.withMotion { s.motion with xfer := some { x with abandonSent := true } }) .abandon)

/-- Sends RETARGET for the transfer in flight (R129). -/
def retargetXfer (s : State) (x : Xfer) (c : Nat) : State :=
  startTimer (send
    (s.withMotion { s.motion with xfer := some { x with retarget := some (.column c) } })
    (.retarget (.column c)))

/-- Where a transfer is bound: the latest RETARGET's destination, or its own (R128). -/
def destination (x : Xfer) : Pos := x.retarget.getD x.dst

/-- The outstanding command has had its final event: the timer stops and the gantry is IDLE (R127). -/
def gantryIdle (s : State) : State :=
  s.withMotion { s.motion with gantry := .idle, xfer := none, timer := none }

/-- Whether a transfer in flight uses a slot; one held for a store update is not in flight. -/
def slotInUse (s : State) (sd : Side) : Bool := s.motion.xfer.any (fun x => usesSlot x sd)

/-- Whether a position is the chute or a slot. -/
def leavesBay : Pos → Bool
  | .chute | .slot _ => true
  | .column _ | .park => false

/-! ### Starting a step's transfer (R20, R44) -/

/-- Gives the ACTIVE context its step and commands the TRANSFER, or holds it back until the store
update of the event that ended the context's step before has completed (R20). -/
def beginTransfer (s : State) (n : Nat) (kind : StepKind) (src dst : Pos) : State :=
  let t := modCtx s n (fun c => { c with step := some { kind, bin := none } })
  let x : Xfer := { src, dst, retarget := none, owner := some n, abandonSent := false,
                    setDown := false }
  if stepHeld t n then t.withMotion { t.motion with held := some x } else launch t x

/-! ### Shutters (R139) -/

/-- Asks a shutter to move, by its state and the drive power (R139). -/
def askShutter (s : State) (sh : ShutterId) (p : ShutterPos) : State :=
  let k := { shutter s sh with asked := some p }
  match p, k.state with
  | .opened, .opened | .opened, .opening => setShutter s sh k
  | .closed, .closed | .closed, .closing => setShutter s sh { k with heldOpen := false }
  | .opened, _ =>
    if s.motion.power then
      send (setShutter s sh
        { k with state := .opening, timer := some s.setup.motionTimeout, heldOpen := false })
        (.shutter sh .opened)
    else setShutter s sh { k with heldOpen := true }
  | .closed, _ =>
    if s.motion.power then
      send (setShutter s sh
        { k with state := .closing, timer := some s.setup.motionTimeout, heldOpen := false })
        (.shutter sh .closed)
    else setShutter s sh { k with state := .closing, timer := none, heldOpen := false }

/-- Asks all three shutters. -/
def askAll (s : State) (p : ShutterPos) : State := shutterIds.foldl (fun t sh => askShutter t sh p) s

/-- Sends an OPEN held for POWER ON (R139). -/
def sendHeldOpen (s : State) (sh : ShutterId) : State :=
  if (shutter s sh).heldOpen then
    send (setShutter s sh
      { shutter s sh with
        state := .opening, timer := some s.setup.motionTimeout, heldOpen := false })
      (.shutter sh .opened)
  else s

/-! ### Drive power (R140) -/

/-- Sends POWER ON, and with it the OPENs held for it. -/
def powerOn (s : State) : State :=
  shutterIds.foldl sendHeldOpen
    (send (s.withMotion { s.motion with power := true }) (.power true))

/-- Sends POWER OFF: any gantry command outstanding is ended and the gantry becomes OFF (R140). -/
def powerOff (s : State) : State :=
  send (s.withMotion
    { s.motion with
      power := false, gantry := .off, xfer := none, held := none, timer := none })
    (.power false)

/-- No homing put-away is pending (R135). -/
def noPutAway (s : State) : State :=
  s.withMotion { s.motion with putAway := none, putAwayWaits := false }

/-! ### The chute (R137) -/

/-- The chute becomes EMPTY, waking CHUTE_BUSY if its shutter is OPEN (R46, R137). -/
def chuteEmptied (s : State) : State :=
  let t := s.withMotion { s.motion with chute := .empty, reason := .none }
  if (shutter t .chute).state = .opened then wakeOn t .chuteBusy else t

/-- The chute becomes BLOCKED with a reason (R136). -/
def blockChute (s : State) (r : BlockReason) : State :=
  s.withMotion { s.motion with chute := .blocked, reason := r }

/-- The record at the chute with a direction. -/
def chuteRecord (s : State) (d : Direction) : Option BinRecord := recordAt s (.atChute d)

/-- Every record at the chute with a direction becomes AWAY in place (R14, R138). -/
def chuteRecordsAway (s : State) (d : Direction) : State :=
  s.withInv
    { s.inv with
      records := s.inv.records.map (fun r =>
        if r.residence = .atChute d then { r with residence := .away } else r) }

/-! ### Drive faults: the gantry's part (R133) -/

/-- The gantry becomes FAULTED: the timer stops, no transfer is outstanding, and a drive recovery in
progress has ended (R133, R134). -/
def faultGantry (s : State) : State :=
  s.withMotion
    { s.motion with
      gantry := .faulted, xfer := none, held := none, timer := none, recovery := false }

end Sys2Proof.Machine
end

