-- ==== Sys2Proof/Machine/Jobs.lean ====
section
/-! DEFINITION. How a step starts: the retrieval sequencer's decision (R65 to R74), the put-away
(R95, R96), the take (R109) and the reclaim (R112). -/

namespace Sys2Proof.Machine

open Sys2Proof

/-! ### The restore phase (R72, R73) -/

/-- The top bin of a column. -/
def topBin (s : State) (c : Nat) : Option BinId := (column s c).bins.getLast?

/-- Whether a restore entry of context `n` is skipped (R73). -/
def restoreSkips (s : State) (n : Nat) (e : Reloc) : Bool :=
  match e.place, (ctxOf s n).lock with
  | .column c, some t =>
    (match residenceOf s e.bin with | some (.resident _ _) => false | _ => true) ||
      topBin s c != some e.bin || isTargetBut s (some n) e.bin ||
      (column s c).suspect || (column s t).suspect
  | _, _ => true

/-- Drops the last entry of a relocation list as skipped: RESTORE_PARTIAL is set (R73). -/
def skipLast (c : Ctx) : Ctx := { c with reloc := c.reloc.dropLast, restorePartial := true }

/-- Skips the entries at the end of the relocation list that R73 skips; the number bounds how
many. -/
def skipEntries : Nat → State → Nat → State
  | 0, s, _ => s
  | k + 1, s, n =>
    match (ctxOf s n).reloc.getLast? with
    | none => s
    | some e => if restoreSkips s n e then skipEntries k (modCtx s n skipLast) n else s

/-- The restore phase ends: its lock is released (R52, R72). -/
def endRestore (s : State) (n : Nat) : State :=
  releaseLock (modCtx s n (fun c => { c with restoring := false })) n

/-- At a PLACED on a column, the restore phase ends if its list is empty, one that began with an empty list
too (R72; assumption 57). -/
def restoreOver (s : State) (n : Nat) : State :=
  if (ctxOf s n).restoring ∧ (ctxOf s n).reloc = [] then endRestore s n else s

/-! ### The target to take (R65 items 2 and 3) -/

/-- Gives up every WAITING target (R71). -/
def giveUpWaiting (c : Ctx) : Ctx :=
  { c with
    targets := c.targets.map (fun t => if t.status = .waiting then { t with status := .givenUp } else t) }

/-- The index of the next WAITING target after the current one. -/
def nextWaiting (c : Ctx) : Option Nat :=
  (List.range c.targets.length).find? (fun i =>
    c.cur < i ∧ (c.targets[i]?).any (fun t => t.status = .waiting))

/-- Whether a target status is TAKEN or GIVEN_UP. -/
def TargetStatus.isOver : TargetStatus → Bool
  | .taken | .givenUp => true
  | .waiting | .picked => false

/-- Moves the index over targets that are over or must be given up, and answers the column and height
of the target to take, or none when no target remains (R65 items 2 and 3). The number bounds the
moves: each target is given up and passed at most once. A target found gone that stands RESIDENT again
by then is taken up again (assumption 64). -/
def aim : Nat → State → Nat → State × Option (Nat × Nat)
  | 0, s, _ => (s, none)
  | k + 1, s, n =>
    match currentTarget (ctxOf s n) with
    | none => (s, none)
    | some t =>
      if t.status.isOver then
        let s1 := if (ctxOf s n).tagFault then modCtx s n giveUpWaiting else s
        match nextWaiting (ctxOf s1 n) with
        | none => (s1, none)
        | some j => aim k (modCtx s1 n (fun c => { c with cur := j, reloc := [] })) n
      else
        match residenceOf s t.bin with
        | some (.resident c h) =>
          if (column s c).suspect then aim k (modCtx s n (setCurrent · .givenUp)) n
          else (s, some (c, h))
        | _ => aim k (modCtx s n (setCurrent · .givenUp)) n

/-! ### Steps of a FETCH or VERIFY (R65 to R68, R74) -/

/-- Whether a claim of a context has not been answered: one still out, or one withdrawn for a race that is
not settled yet (R47, R105). -/
def awaitsAnswer (s : State) (n : Nat) : Bool :=
  sides.any (fun sd =>
    ((view s sd).state = .claiming ∧ (view s sd).ctx = some n) ∨ (view s sd).raced = some n)

/-- A step whose choice is none asks for a spill; a context whose claim has not been answered waits for the
answer (R47, R67, R96, R109; assumption 46). -/
def spillOrWait (s : State) (n : Nat) (b : BinId) : State :=
  if awaitsAnswer s n then stall s n .slotWait else spillRequest s n b

/-- A step into a granted side, or a stall while that side is CLOSED (R100, R107). -/
def intoSlot (s : State) (n : Nat) (kind : StepKind) (src : Pos) (sd : Side) : State :=
  if sideClosed s sd then stall s n (.slotClosed sd) else beginTransfer s n kind src (.slot sd)

/-- The side granted to a context that its next step is to load: one whose view is MINE for it, and whose
shelf has not been found occupied (R104, R107; assumption 14). -/
def grantedSide (s : State) (n : Nat) : Option Side :=
  sides.find? (fun sd =>
    (view s sd).state = .mine ∧ (view s sd).ctx = some n ∧ (view s sd).shelfFull = false)

/-- A dig step for the top bin of column `c` (R66, R67, R107). -/
def digStart (s : State) (n c : Nat) : State :=
  match topBin s c with
  | none => s
  | some b =>
    match grantedSide s n with
    | some sd => intoSlot s n .dig (.column c) sd
    | none =>
      match relocationChoice s n c b with
      | some c2 => beginTransfer s n .dig (.column c) (.column c2)
      | none => spillOrWait s n b

/-- Whether a delivery may begin at the chute: EMPTY, overlay clear, shutter open (R68). -/
def chuteReady (s : State) : Bool := s.motion.chute = .empty ∧ chuteClosed s = false

/-- A delivery step from column `c`: the reservation, then the chute (R68). -/
def deliveryStart (s : State) (n c : Nat) : State :=
  if (ctxOf s n).reserved ∨ canReserve s then
    let t := modCtx s n (fun k => { k with reserved := true })
    if chuteReady t then beginTransfer t n .delivery (.column c) .chute else stall t n .chuteBusy
  else stall s n .awayFull

/-- The step for a target at column `c` and height `h`, its lock held: a dig, a delivery or a
setting-back step (R65 items 5 and 6). At depth 0 it is one of the latter two even while a side is
granted to the context, which stays MINE (assumption 51). -/
def targetStep (s : State) (n c h : Nat) : State :=
  let t := modCtx s n (fun k => { k with digRemaining := depthOf s c h })
  if 0 < depthOf s c h then digStart t n c
  else if (ctxOf s n).kind = .verify then beginTransfer t n .setBack (.column c) (.column c)
  else deliveryStart t n c

/-- Items 2 to 6 of R65. -/
def aimStart (s : State) (n : Nat) : State :=
  match aim 9 s n with
  | (t, none) => endCtx t n (doneOutcome (ctxOf t n)) 0
  | (t, some (c, h)) =>
    if lockedBut t (some n) c then stall t n (.columnLock c)
    else targetStep (takeLock t n c) n c h

/-- The step start of a FETCH or VERIFY context (R65). A restore phase that began with an empty list, and
whose bin went to the chute, ends here (R72; assumption 57). -/
def retrievalStart (s : State) (n : Nat) : State :=
  if (ctxOf s n).restoring then
    let t := skipEntries (ctxOf s n).reloc.length s n
    match (ctxOf t n).reloc.getLast?, (ctxOf t n).lock with
    | some { place := .column c, .. }, some l => beginTransfer t n .restore (.column c) (.column l)
    | _, _ => aimStart (endRestore t n) n
  else aimStart s n

/-! ### Steps of STOW, SPILL and RECLAIM (R95, R96, R107, R109, R112, R137) -/

/-- The put-away of a bin waiting at `src`: into the granted side, or onto the put-away choice with
`src` as reference, or by a spill (R95, R96, R109). -/
def putAwayStart (s : State) (n : Nat) (b : BinId) (d : Nat) (src : Pos) : State :=
  match grantedSide s n with
  | some sd => intoSlot s n .putAway src sd
  | none =>
    match putAwayChoice s (some n) d src with
    | some c => beginTransfer s n .putAway src (.column c)
    | none => spillOrWait s n b

/-- The step start of a STOW context (R95, R96, R137). -/
def stowStart (s : State) (n : Nat) : State :=
  if s.motion.chute = .blocked then stall s n .chuteBusy
  else
    match (ctxOf s n).carried with
    | some (.own b) => putAwayStart s n b (demandOf s b) .chute
    | _ => endCtx s n .positionFault 0

/-- The step start of a SPILL context: the take from its side (R109). -/
def spillStart (s : State) (n : Nat) : State :=
  match (ctxOf s n).side, (ctxOf s n).carried with
  | some sd, some (.foreign r) =>
    if (ctxOf s n).takenAway then endCtx (freeView s sd) n .removed 0
    else if sideClosed s sd then stall s n (.slotClosed sd)
    else putAwayStart s n r.bin r.demand (.slot sd)
  | _, _ => endCtx s n .removed 0

/-- The step start of a RECLAIM context: to the best column, CLOSED or not, with no spill (R112). -/
def reclaimStart (s : State) (n : Nat) : State :=
  match (ctxOf s n).side, (ctxOf s n).carried with
  | some sd, some (.own b) =>
    if (ctxOf s n).takenAway then endCtx s n .removed 0
    else
      match putAwayChoice s (some n) (demandOf s b) (.slot sd) with
      | some c => beginTransfer s n .putAway (.slot sd) (.column c)
      | none => stall s n .noRoom
  | _, _ => endCtx s n .removed 0

/-- The owning unit begins the context's next step (R44). -/
def stepStart (s : State) (n : Nat) : State :=
  match (ctxOf s n).kind with
  | .fetch | .verify => retrievalStart s n
  | .stow => stowStart s n
  | .spill => spillStart s n
  | .reclaim => reclaimStart s n

/-! ### The scheduler's choice (R42) -/

/-- Whether the scheduler may give the gantry to a context (R42). -/
def gantryFree (s : State) : Bool :=
  s.fire.node = .run ∧ s.motion.gantry = .idle ∧ s.motion.held.isNone ∧ activeCtx? s = none ∧
    s.motion.putAway.isNone ∧ s.motion.recovery = false

/-- The head of the non-empty ready list of highest level. -/
def headReady (s : State) : Option Nat := s.sched.ready.reverse.findSome? (·.head?)

/-- The chosen context leaves its list and becomes ACTIVE. -/
def activate (s : State) (n : Nat) : State :=
  modCtx (leaveList s n) n (fun c => { c with state := .active, wait := none })

/-- Gives the gantry away until a context commands a motion or the lists run dry; the contexts woken before
each choice enter their lists first. The number bounds how many contexts are tried in one event. -/
def runSchedule : Nat → State → State
  | 0, s => flushWoken s
  | k + 1, s =>
    let t := flushWoken s
    if gantryFree t then
      match headReady t with
      | none => t
      | some n => runSchedule k (stepStart (activate t n) n)
    else t

end Sys2Proof.Machine
end

