-- ==== Sys2Proof/Machine/Fire.lean ====
section
/-! DEFINITION. The fire controller (chapter 10): GUARD, SHUTDOWN with its set-down and shutdown
sequence, SAFE, and the state decision (R152). -/

namespace Sys2Proof.Machine

open Sys2Proof

/-- Gives the node a state. -/
def setNode (s : State) (n : NodeState) : State := s.withFire { s.fire with node := n }

/-- Sets or clears the FIRE cause of a side's CLOSED overlay, with what follows (R100). -/
def setFireCause (s : State) (b : Bool) (sd : Side) : State :=
  changeOverlay sd (fun t => modView t sd (fun v => { v with fireClosed := b })) s

/-! ### GUARD (R153) -/

/-- Keeps a side's FIRE cause and shutter in step with its neighbour's zone: closed for fire in GUARD
while the zone is afire, the shutter once no transfer uses the slot; asked OPEN, and the cause
lifted when it stands OPEN, once it is not (R153, R160). -/
def guardSide (s : State) (sd : Side) : State :=
  if s.fire.node = .guarded ∧ sideAfire s sd then
    let t := if (view s sd).fireClosed then s else setFireCause s true sd
    if slotInUse t sd ∨ (shutter t (sideShutter sd)).asked = some .closed then t
    else askShutter t (sideShutter sd) .closed
  else if (s.fire.node = .guarded ∨ s.fire.node = .run) ∧ (view s sd).fireClosed then
    let t := if (shutter s (sideShutter sd)).asked = some .opened then s
      else askShutter s (sideShutter sd) .opened
    if (shutter t (sideShutter sd)).state = .opened then setFireCause t false sd else t
  else s

/-- Both sides in turn. -/
def guardSides (s : State) : State := sides.foldl guardSide s

/-- Whether a context is READY or STALLED. -/
def CtxState.waitsGantry : CtxState → Bool
  | .ready | .stalled => true
  | _ => false

/-- Whether a context is READY, ACTIVE or STALLED. -/
def CtxState.runs : CtxState → Bool
  | .ready | .active | .stalled => true
  | _ => false

/-- The context of a transfer held back for a store update, at the entry into GUARD: no step of it is in
flight, so its step is undone and it is PAUSED, keeping a HALT (R49, R77, R153; assumption 20). -/
def pauseHeld (s : State) : State :=
  match s.motion.held.bind (·.owner) with
  | none => s
  | some n => pauseCtx (dropHeld s) n

/-- Entry into GUARD: READY and STALLED contexts, and one whose transfer is only held for the store
(assumption 20), are PAUSED, pending bids and claims are withdrawn,
and the sides next to a zone afire are closed (R153). -/
def enterGuard (s : State) : State :=
  guardSides (sides.foldl withdrawClaim
    (withdrawAllBids (pauseHeld (pauseIn (setNode s .guarded) CtxState.waitsGantry))))

/-- Asks the shutter of a side still closed for fire OPEN, one asked before whose timer has expired too
(R153). -/
def reopenSide (s : State) (sd : Side) : State :=
  if (view s sd).fireClosed then askShutter s (sideShutter sd) .opened else s

/-- After an event's zones and neighbour entries have changed from those of `was`: with the node still in
GUARD, a side whose neighbour zone is no longer afire is asked OPEN (R153). -/
def reopenLeft (was s : State) : State :=
  sides.foldl (fun t sd =>
    if t.fire.node = .guarded ∧ sideAfire was sd ∧ sideAfire t sd = false then reopenSide t sd else t) s

/-- Return from GUARD to RUN: shutters closed for fire are asked OPEN and the pause is released
(R50, R153). -/
def leaveGuard (s : State) : State :=
  releasePaused (guardSides (sides.foldl reopenSide (setNode s .run)))

/-- Entry into RUN from JOINING or RESUMING: the pause is released, unless a neighbour zone is afire,
which makes the entry one into GUARD (R50, R152). -/
def enterRun (s : State) : State :=
  if neighbourAfire s then enterGuard s else releasePaused (setNode s .run)

/-! ### The set-down (R155) -/

/-- The set-down of a bin in hand bound for the chute or a slot: RETARGET to the retarget choice, or
no command when there is none or the transfer is bound for a column (R155). -/
def setDownLoaded (s : State) (x : Xfer) : State :=
  let t := s.withMotion { s.motion with xfer := some x }
  if leavesBay (destination x) then
    match retargetChoice t x with
    | some c => retargetXfer t x c
    | none => t
  else t

/-- The set-down takes over the transfer in flight (R155). -/
def beginSetDown (s : State) : State :=
  match s.motion.xfer with
  | none => s
  | some x =>
    if s.motion.gantry = .movingEmpty then abandonXfer s { x with setDown := true }
    else setDownLoaded s { x with setDown := true }

/-! ### SHUTDOWN (R154) -/

/-- A homing put-away pending and not commanded is dropped; its record stays IN_HAND (R154). A drive
recovery whose put-away it was ends with it; one whose reconcile PARK is outstanding goes on to its
HOMED (R134, R156). -/
def dropPutAway (s : State) : State :=
  if s.motion.putAway.isSome ∧ s.motion.xfer.isNone then
    s.withMotion
      { s.motion with
        putAway := none, putAwayWaits := false
        recovery := s.motion.recovery && s.motion.gantry = .homing }
  else s

/-- Entry into SHUTDOWN (R154); the shutdown sequence goes on from `shutdownSync`. The state to return
to after RESUMING is kept when SHUTDOWN is entered from RESUMING (assumption 12); a context whose transfer
is only held is PAUSED with its step undone, keeping a HALT (assumption 20). -/
def enterShutdown (s : State) : State :=
  let s1 := s.withFire
    { s.fire with
      node := .shutdown, chuteHold := true, closing := false, opening := false,
      resumeTo := if s.fire.node = .resuming then s.fire.resumeTo else s.fire.node }
  let s2 := withdrawAnnounce (s1.withInv { s1.inv with fireStop := true })
  let s3 := withdrawAllBids (pauseIn s2 CtxState.runs)
  beginSetDown (sides.foldl (fun t sd => setFireCause t true sd) (dropPutAway (dropHeld s3)))

/-! ### The shutdown sequence (R156) -/

/-- Whether a shutter has reported for the shutdown sequence: CLOSED, CLOSING with power off, or
expired after CLOSE was asked (R156). -/
def shutterReported (s : State) (sh : ShutterId) : Bool :=
  let k := shutter s sh
  k.state = .closed ∨ (k.state = .closing ∧ s.motion.power = false) ∨
    (k.state = .unknown ∧ k.asked = some .closed)

/-- When all three shutters have reported, POWER OFF is sent and the node enters SAFE (R156). -/
def safeEntry (s : State) : State :=
  if shutterIds.all (shutterReported s) then
    let t := powerOff s
    t.withFire { t.fire with node := .safe, closing := false }
  else s

/-- The sequence reaches the shutters: CLOSE is asked for all three (R156). -/
def closeShutters (s : State) : State :=
  safeEntry (askAll (s.withFire { s.fire with closing := true }) .closed)

/-- Sets SAFE_WITH_FAULT (R156). -/
def markFault (s : State) : State := s.withFire { s.fire with safeWithFault := true }

/-- The shutdown sequence goes on as far as the gantry and the shutters let it (R156). -/
def shutdownSync (s : State) : State :=
  if s.fire.node = .shutdown then
    if s.fire.closing then safeEntry s
    else
      match s.motion.gantry with
      | .idle => parkPlain s
      | .off => closeShutters s
      | .faulted => closeShutters (markFault s)
      | .homing | .movingEmpty | .loaded | .parking => s
  else s

/-! ### The state decision (R152) -/

/-- Decides the node state: SHUTDOWN for the own zone or grade ALARM, GUARD for a neighbour zone, RUN
again without one (R152). -/
def decideState (s : State) : State :=
  if fireStopped s = false ∧ (zoneAfire s s.board.zone ∨ bayGrade s = .alarm) then enterShutdown s
  else if s.fire.node = .run ∧ neighbourAfire s then enterGuard s
  else if s.fire.node = .guarded ∧ neighbourAfire s = false then leaveGuard s
  else s

/-- Adds zones to the zones-afire set (R149). -/
def addZones (s : State) (z : ZoneSet) : State :=
  decideState (s.withFire { s.fire with zones := s.fire.zones ||| z })

/-- The set holding one zone. -/
def zoneSet (z : Zone) : ZoneSet := 1#16 <<< z.toNat

/-- All sixteen zones. -/
def allZones : ZoneSet := 0xFFFF#16

/-- Posts an ALARM unless one is pending (R151). -/
def postAlarm (s : State) : State :=
  if posts s ∧ s.fire.alarm.isNone then
    bumpSeq (s.withFire
      { s.fire with
        alarm := some (pframe s (frameOf s 15 0 0 0 (.alarm s.board.zone))) })
  else s

/-- What a change of the bay grade from `was` does to the stow agent and the fire controller: at WARN
or above bids are withdrawn; a rise to ALARM adds the own zone and posts ALARM; the node state is
decided (R86, R146, R147, R151, R152). -/
def gradeChanged (was : Grade) (s : State) : State :=
  if bayGrade s = was then s
  else
    let s1 := if gradeWarns s then withdrawAllBids s else s
    if bayGrade s1 = .alarm then addZones (postAlarm s1) (zoneSet s1.board.zone)
    else decideState s1

end Sys2Proof.Machine
end

