-- ==== Sys2Proof/Machine/Startup.lean ====
section
/-! DEFINITION. Homing (R134, R159, R164), the header comparison (R21), the start-up states, the effects
of a drive fault (R133), and RESUMING's end (R159). -/

namespace Sys2Proof.Machine

open Sys2Proof

/-! ### What a bin leaving the hand outside its step does to its job (R76, R134, R135) -/

/-- Settles the job whose step had bin `b` in hand, once a homing put-away has set it down on a column
(`some`) or the hand was found empty (`none`): a FETCH target returns to WAITING (R75) or is left for
R65 to give up; a VERIFY target is TAKEN (R74), and a restore phase with an empty list ends at that
PLACED (R72; assumption 57); a dug bin costs RESTORE_PARTIAL and a restore bin its
entry (R76); a STOW, SPILL or RECLAIM ends (R95, R109, R112, R134). The event ended the context's step, so
its next command waits for the store update (R20). -/
def settleJob (s : State) (n : Nat) (placedOn : Option Nat) : State :=
  let kind := ((ctxOf s n).step.map (·.kind)).getD .skipped
  let t := modCtx (s.withSched { s.sched with stepEnded := some n }) n
    (fun c => { c with step := none })
  match (ctxOf t n).kind with
  | .stow | .spill | .reclaim =>
    if placedOn.isSome then endCtx t n .complete 1 else endCtx t n .positionFault 0
  | .fetch | .verify =>
    match kind with
    | .delivery => if placedOn.isSome then restoreOver (modCtx t n (setCurrent · .waiting)) n else t
    | .setBack =>
      if placedOn.isSome then
        restoreOver (modCtx t n (fun c =>
          { setCurrent c .taken with
            delivered := c.delivered + 1
            restorePartial := c.restorePartial || c.lock != placedOn })) n
      else t
    | .dig => modCtx t n (fun c => { c with restorePartial := c.restorePartial || c.restore })
    | .restore => restoreOver (modCtx t n skipLast) n
    | .skipped | .putAway => t

/-- Settles the job, if any, whose step had bin `b` in hand. -/
def settleHand (s : State) (b : BinId) (placedOn : Option Nat) : State :=
  match jobOf s b with
  | none => s
  | some n => settleJob s n placedOn

/-! ### The hand at HOMED (R19, R134, R159, R164) -/

/-- The IN_HAND record becomes AWAY: into the reservation of the context whose step it was, else at
the tail of the away list, else into the overflow place; none when that is occupied too (R19, R134). -/
def goneFromHand (s : State) (b : BinId) : Option State :=
  match (jobOf s b).filter (fun n => (ctxOf s n).reserved) with
  | some n =>
    some (joinAway (setResidence (modCtx s n (fun c => { c with reserved := false })) b .away) b)
  | none =>
    if awayTotal s < 32 then some (joinAway (setResidence s b .away) b)
    else if s.inv.overflow.isNone then
      some (setResidence (s.withInv { s.inv with overflow := some b }) b .away)
    else none

/-- Makes a homing put-away pending for the bin in hand, with the tag check; `waits` says whether it waits
for RUN, as the start-up reconcile's does (R134, R135, R164). -/
def pendPutAway (s : State) (b : BinId) (tag : Option BinId) (waits : Bool) : State :=
  let t := if tag = some b then s else markTag s b
  t.withMotion { t.motion with putAway := some b, putAwayWaits := waits }

/-- The drive recovery ends with the gantry IDLE: DRIVE contexts are woken (R48, R134). -/
def endRecovery (s : State) : State :=
  let t := noPutAway s
  wakeOn (t.withMotion { t.motion with recovery := false }) .drive

/-- The hand is reconciled as a drive recovery reconciles it; `place` says whether a homing put-away
becomes pending (R134, R156, R159). -/
def reconcileHand (s : State) (hand : HandReport) (place : Bool) : State :=
  match hand, inHand s with
  | .empty, none => endRecovery s
  | .empty, some r =>
    match goneFromHand s r.body.bin with
    | none => faultGantry s
    | some t => endRecovery (settleHand t r.body.bin none)
  | .loaded _, none => faultGantry s
  | .loaded tag, some r =>
    if place then pendPutAway s r.body.bin tag false
    else
      let t := if tag = some r.body.bin then s else markTag s r.body.bin
      t.withMotion { t.motion with recovery := false }

/-- The hand's part of the start-up reconcile (R164). -/
def reconcileHandStart (s : State) (h : HomeResult) : State :=
  match h, inHand s with
  | .failed, _ => s
  | .report .empty, none => s
  | .report .empty, some r =>
    match goneFromHand s r.body.bin with
    | none => faultGantry s
    | some t => t
  | .report (.loaded _), none => faultGantry s
  | .report (.loaded tag), some r => pendPutAway s r.body.bin tag true

/-- The chute's part of the start-up reconcile; sensed CLEAR it is EMPTY, whatever it was (R164; assumption
62). -/
def reconcileChute (s : State) (occupied : Bool) : State :=
  if occupied then
    if (chuteRecord s .outward).isSome ∧ (chuteRecord s .inward).isNone then
      s.withMotion { s.motion with chute := .outbound, reason := .none }
    else blockChute s .unmatched
  else chuteEmptied (chuteRecordsAway (chuteRecordsAway s .outward) .inward)

/-- ARRIVING and HANDING records become AWAY in place, keeping their latest-offer winners (R164). -/
def reconcileHandovers (s : State) : State :=
  s.withInv
    { s.inv with
      records := s.inv.records.map (fun r =>
        match r.residence with
        | .arriving | .handing _ => { r with residence := .away }
        | _ => r) }

/-! ### Leaving HOMING (R21, R163, R165, R166) -/

/-- Posts an ANNOUNCE in place of the pending one (R166). -/
def postAnnounce (s : State) : State :=
  if posts s then
    bumpSeq (s.withBus
      { s.bus with
        announce := replacing s s.bus.announce (frameOf s 11 0 0 0
          (.announce s.board.station s.board.zone s.board.w s.board.d s.board.c
            (freePositions s))) })
  else s

/-- Entry into JOINING: an ANNOUNCE is posted (R166). -/
def enterJoining (s : State) : State := postAnnounce (setNode s .joining)

/-- The column table with nothing in it. -/
def emptyColumns : List Column := List.replicate 64 Column.empty

/-- The image as R21 empties it on entering SURVEY: with the valid mark present, every column and
RESIDENT record; without it, everything, and the slot views become FREE. The header and the fire-stop
mark stay. -/
def emptyImage (s : State) : State :=
  if s.inv.valid then
    s.withInv
      { s.inv with
        columns := emptyColumns
        records := s.inv.records.filter (fun r =>
          match r.residence with | .resident _ _ => false | _ => true) }
  else
    let t := s.withInv
      { s.inv with columns := emptyColumns, records := [], away := [], overflow := none }
    noPutAway (sides.foldl freeView t)

/-- Whether the retained header is valid and equal to the straps (R21). -/
def headerMatches (s : State) : Bool :=
  s.inv.valid ∧ s.inv.hdrW = s.board.w ∧ s.inv.hdrD = s.board.d ∧ s.inv.hdrC = s.board.c

/-- The node leaves HOMING for JOINING or, with the emptying of R21, for SURVEY (R164). -/
def leaveHoming (s : State) : State :=
  if headerMatches s then enterJoining s else setNode (emptyImage s) .survey

/-! ### The start-up homing reconcile (R163, R164) -/

/-- The homing reconcile of R164; a side whose record stands IN_SLOT is LOADED_OUT with resend owed,
whatever was resent meanwhile. In HOMING the shutters are then asked OPEN and the node leaves
HOMING; in RESUMING it goes on as R159 states. -/
def startReconcile (s : State) (occupied : Bool) (h : HomeResult) : State :=
  let r := reconcileHandovers (reconcileChute (reconcileHandStart s h) occupied)
  let t := sides.foldl oweResend r
  let u := t.withStartup { t.startup with reconciled := true, sense := none, homed := none }
  if u.fire.node = .homing then leaveHoming (askAll u .opened) else u

/-- Makes the start-up reconcile in the event that takes the later of the sense report and the PARK's
final event (R163). -/
def tryReconcile (s : State) : State :=
  match s.startup.sense, s.startup.homed with
  | some o, some h => startReconcile s o h
  | _, _ => s

/-- Records how the start-up PARK ended, and reconciles if the sense report has come. -/
def homeEnds (s : State) (h : HomeResult) : State :=
  tryReconcile (s.withStartup { s.startup with homed := some h })

/-- RESUMING asks OPEN for all three shutters, at HOMED or at a fault while HOMING (R159). -/
def resumeOpen (s : State) : State := askAll (s.withFire { s.fire with opening := true }) .opened

/-! ### Drive faults (R133) -/

/-- The context of a transfer that a fault ends: a set-down's context with HALT ends HALTED; a step
that had not picked is forgotten, to be decided afresh (R76, R77, R133). -/
def faultOwner (s : State) (n : Nat) : State :=
  let c := ctxOf s n
  if c.state = .paused ∧ c.halt then endCtx s n .halted 0
  else if c.step.any (fun t => t.bin.isNone) then modCtx s n (fun k => { k with step := none })
  else s

/-- The ACTIVE context stalls with DRIVE, keeping what it holds (R45, R133). -/
def stallActive (s : State) : State :=
  match activeCtx? s with
  | none => s
  | some n => stall s n .drive

/-- A FAULT DRIVE or BLOCKED, an expiry of the motion timer, or an event taken as FAULT DRIVE (R133):
the gantry becomes FAULTED; the fire controller and the start-up logic handle the rest by the node
state (R156, R159, R163). -/
def driveFault (s : State) : State :=
  let s1 := faultGantry s
  let s2 := match (currentXfer s).bind (·.owner) with
    | none => s1
    | some n => faultOwner s1 n
  let s3 := stallActive s2
  match s.fire.node with
  | .shutdown => markFault s3
  | .homing => if s.motion.gantry = .homing then homeEnds s3 .failed else s3
  | .resuming =>
    if s.motion.gantry = .homing then
      resumeOpen (if s3.startup.reconciled then s3 else homeEnds s3 .failed)
    else s3
  | .survey | .joining | .run | .guarded | .safe => s3

/-- A motion event in a gantry state that does not fit it: ignored while OFF or FAULTED, else taken
as FAULT DRIVE (R128). -/
def unexpectedMotion (s : State) : State :=
  match s.motion.gantry with
  | .off | .faulted => s
  | _ => driveFault s

/-! ### RESUMING's end (R159) -/

/-- Whether a shutter has ended its motion for RESUMING: it stands OPEN, or UNKNOWN by its expiry (R159;
assumption 69). -/
def shutterResumed (s : State) (sh : ShutterId) : Bool :=
  (shutter s sh).state = .opened ∨ (shutter s sh).state = .unknown

/-- The state RESUMING leads to (R159). -/
def endResuming (s : State) : State :=
  let t := s.withFire { s.fire with opening := false }
  match s.fire.resumeTo with
  | .run | .guarded => enterRun t
  | .survey => setNode t .survey
  | .joining => enterJoining t
  | _ => leaveHoming t

/-- RESUMING ends once the shutters have been asked OPEN and have all reported or expired, and the
homing reconcile has been made (R159). -/
def resumeSync (s : State) : State :=
  if s.fire.node = .resuming ∧ s.fire.opening ∧ s.startup.reconciled ∧
      shutterIds.all (shutterResumed s) then endResuming s
  else s

end Sys2Proof.Machine
end

