-- ==== Sys2Proof/Machine/Events.lean ====
section
/-! DEFINITION. How an event begins and ends: what settles at its end, the STATE it causes, its store
update, and the receive side that every frame passes (R176). -/

namespace Sys2Proof.Machine

open Sys2Proof

/-! ### What settles at the end of an event -/

/-- Whether a homing put-away may be commanded: in RUN and in GUARD, and in RESUMING and JOINING unless it is
the start-up reconcile's, which waits for RUN (R7, R135, R159, R164; assumption 13). -/
def putAwayAllowed (s : State) : Bool :=
  match s.fire.node with
  | .run | .guarded => true
  | .resuming | .joining => !s.motion.putAwayWaits
  | _ => false

/-- Commands a pending homing put-away once the gantry is IDLE and a column can take the bin; every
dig-locked column is excluded (R135). -/
def commandPutAway (s : State) : State :=
  match s.motion.putAway with
  | none => s
  | some b =>
    if putAwayAllowed s ∧ s.motion.gantry = .idle ∧ s.motion.held.isNone then
      match putAwayChoice s none (demandOf s b) .park with
      | none => s
      | some c =>
        launch s { src := .park, dst := .column c, retarget := none, owner := none,
                   abandonSent := false, setDown := false }
    else s

/-- How many contexts the scheduler tries in one event at most. -/
def scheduleBound : Nat := 256

/-- What an event's end settles: the overflow record, the shutdown sequence, RESUMING's end, the sides
closed for fire, a pending homing put-away, the scheduler's choice and owed SLOT LOADED frames
(R19, R42, R111, R135, R153, R156, R159). -/
def settle (s : State) : State :=
  let t := commandPutAway (guardSides (resumeSync (shutdownSync (moveOverflow s))))
  sides.foldl resendLoaded (runSchedule scheduleBound t)

/-! ### The store update of an event (R20) -/

/-- Sends the held transfer once no store update keeps it back. -/
def releaseHeld (s : State) : State :=
  match s.motion.held with
  | none => s
  | some x =>
    match x.owner with
    | none => launch s x
    | some n => if stepHeld s n then s else launch s x

/-- The contexts an event changed. -/
def changedCtxs (was s : State) : List Nat := ctxNumbers.filter (fun n => ctxOf was n ≠ ctxOf s n)

/-- The update of an event that began in `was` and ends in `s`. -/
def storeUpdate (was s : State) : StoreUpdate :=
  { start := was.bus.seq
    stop := s.bus.seq
    image := s.inv
    stepCtx := s.sched.stepEnded
    det := was.det ≠ s.det ∨ was.setup ≠ s.setup
    nbrs := was.bus.nbWest ≠ s.bus.nbWest ∨ was.bus.nbEast ≠ s.bus.nbEast
    counters := was.bus.counters ≠ s.bus.counters
    report := stateReport was ≠ stateReport s
    ctxs := changedCtxs was s }

/-- Ends an event that began in `was`: if it changed anything the image holds, its one store update joins
the queue of updates being written. -/
def commit (was s : State) : State :=
  let t := s.withSched { s.sched with stepEnded := none }
  if s.inv = was.inv then releaseHeld t
  else t.withStore { s.store with queue := s.store.queue ++ [storeUpdate was s] }

/-- Ends an event that began in `was`: a STATE if a cause of it changed (R168), posted after every other frame
of the event (assumption 73), then the event's store update (R20). -/
def endEvent (was s : State) : State := commit was (reportChange was s)

/-- An event that may bear on the gantry, the slots or the node state. -/
def fullEvent (body : State → State) (s : State) : State :=
  endEvent (clearOut s) (settle (body (clearOut s)))

/-- An event that bears on none of them: nothing settles at its end. -/
def quietEvent (body : State → State) (s : State) : State :=
  endEvent (clearOut s) (body (clearOut s))

/-! ### Receiving (R101, R176) -/

/-- The side a station is the neighbour of, if it is one. -/
def sideOfStation (s : State) (st : Station) : Option Side :=
  sides.find? (fun sd => (nbr s sd).station = some st)

/-- A neighbour entry as a frame of its station leaves it: PRESENT, its time since heard restarted (R101). -/
def heardEntry (n : Neighbour) : Neighbour :=
  { n with present := true, sinceHeard := 0, phase := .within }

/-- A carried frame from a neighbour's station restarts its time since last heard and makes it PRESENT
(R101). -/
def hear (s : State) (st : Station) : State :=
  match sideOfStation s st with
  | none => s
  | some sd =>
    changeOverlay sd (fun t => modNbr t sd heardEntry) s

/-- Whether hearing a station lifts a CLOSED overlay, which the event then settles. -/
def hearingLifts (s : State) (st : Station) : Bool :=
  match sideOfStation s st with
  | none => false
  | some sd => absent s sd

/-- Whether the receive filter passes a frame (R176). -/
def accepts (s : State) (h : Header) : Bool := h.dst = 0 ∨ h.dst = s.board.station

/-- Counts a frame received (R170). -/
def countReceived (s : State) : State :=
  s.withBus
    { s.bus with
      counters := { s.bus.counters with received := count16 s.bus.counters.received } }

/-- Takes a carried frame: the neighbour table hears it, the filter passes it or not, and its owner
takes it. A node strapped to station 0 acts only on the frames that `always` marks (R162, R176). -/
def takeFrame (h : Header) (always : Bool) (body : State → State) (s : State) : State :=
  let t := hear s h.src
  if accepts s h then
    if posts s ∨ always then body (countReceived t) else countReceived t
  else t

/-- A received frame whose taking may bear on the gantry, the slots or the node state. -/
def receive (h : Header) (body : State → State) (s : State) : State :=
  fullEvent (takeFrame h false body) s

/-- A received frame of the fire controller, taken by a node strapped to station 0 too (R162). -/
def receiveFire (h : Header) (body : State → State) (s : State) : State :=
  fullEvent (takeFrame h true body) s

/-- A received frame that bears on none of them, but for an overlay its sender's return lifts. -/
def receiveQuiet (h : Header) (body : State → State) (s : State) : State :=
  if hearingLifts s h.src then fullEvent (takeFrame h false body) s
  else quietEvent (takeFrame h false body) s

/-- Whether a frame is addressed to the node alone. -/
def addressed (s : State) (h : Header) : Bool := h.dst = s.board.station ∧ h.dst ≠ 0

end Sys2Proof.Machine
end

