-- ==== Sys2Proof/Machine/Place.lean ====
section
/-! DEFINITION. What the drive's reports of a pick, a place, an empty pick and an occupied place do to
columns, records, jobs and views (R4, R5, R69 to R76, R95, R107, R109, R112, R129 to R132). -/

namespace Sys2Proof.Machine

open Sys2Proof

/-! ### The pick (R128) -/

/-- The bin a pick takes into the hand for context `n`, from the transfer's source (R4, R95, R109,
R112): the last entry of the column; the AT_CHUTE IN record; the carried record; the IN_SLOT
record. -/
def pickedBin (s : State) (n : Nat) : Pos → Option BinId
  | .column c => topBin s c
  | .chute => (chuteRecord s .inward).map (·.body.bin)
  | .slot sd =>
    match (ctxOf s n).carried with
    | some (.foreign r) => some r.bin
    | _ => (recordAt s (.inSlot sd)).map (·.body.bin)
  | .park => none

/-- The tag check of a pick: a mismatch or NO_TAG sets SUSPECT_TAG on the record and TAG_FAULT on the
context, which keeps the tag read at its first tag fault (R4, R70, R95, R109, R112). -/
def checkTag (s : State) (n : Nat) (b : BinId) (tag : Option BinId) : State :=
  if tag = some b then s
  else
    modCtx (markTag s b) n (fun c =>
      if c.tagFault then c else { c with tagFault := true, binRead := tag })

/-- The pick of a current target: PICKED; with RESTORE the restore phase begins, else the lock and the
relocation list go (R64, R69, R72, R74). What the pick and the lock's release wake is woken in one
pass (R46). -/
def pickColumn (s : State) (n c : Nat) (b : BinId) (tag : Option BinId) : State :=
  let target := (ctxOf s n).step.any (fun t => t.kind = .delivery ∨ t.kind = .setBack)
  let drops := target && !(ctxOf s n).restore
  let lock := (ctxOf s n).lock
  let t := checkTag (popColumn s c) n b tag
  let u := if target then
      modCtx t n (fun k =>
        let k1 := setCurrent k .picked
        if k.restore then { k1 with restoring := true }
        else { k1 with lock := none, reloc := [] })
    else t
  wakeWhere u (fun _ w => w = .noRoom ∨ (drops ∧ some w = lock.map .columnLock))

/-- The pick of a put-away from the chute: the record leaves the away list, its entry turning into a
reservation, and the chute becomes EMPTY unless it is BLOCKED (R14, R95, R137). -/
def pickChute (s : State) (n : Nat) (b : BinId) (tag : Option BinId) : State :=
  let t := modCtx (leaveAway (setResidence s b .inHand) b) n (fun c => { c with reserved := true })
  let u := checkTag t n b tag
  if u.motion.chute = .inbound then chuteEmptied u else u

/-- The pick of a take or a reclaim: the carried record becomes a record of the node, CLASH-marked,
or the IN_SLOT record comes into the hand; the view becomes FREE and SLOT TAKEN is posted (R16, R109,
R112, R122). -/
def pickSlot (s : State) (n : Nat) (sd : Side) (b : BinId) (tag : Option BinId) : State :=
  let t := match (ctxOf s n).carried with
    | some (.foreign r) =>
      modCtx (putRecord s { body := clashMark s r, residence := .inHand }) n
        (fun c => { c with carried := some (.own b) })
    | _ => setResidence s b .inHand
  let viewTag := (view s sd).tag
  postSlotData (freeView (checkTag t n b tag) sd) sd (.taken b viewTag)

/-- The pick's effects by source (R128). -/
def pickAt (s : State) (n : Nat) (src : Pos) (b : BinId) (tag : Option BinId) : State :=
  match src with
  | .column c => pickColumn s n c b tag
  | .chute => pickChute s n b tag
  | .slot sd => pickSlot s n sd b tag
  | .park => s

/-- Whether the context of a set-down has ended before the pick, by a CHUTE CLEAR or a SLOT TAKEN (R97, R110,
R156). -/
def ownerEnded (s : State) (x : Xfer) (n : Nat) : Bool :=
  x.setDown ∧ ((ctxOf s n).state = .free ∨ (ctxOf s n).state = .ending)

/-- PICKED (R128, R130): the gantry becomes LOADED, the pick takes effect, and a set-down bound for the
chute or a slot is then redirected (R155); with its context ended it is a FAULT DRIVE (assumption 17). -/
def pickReport (s : State) (tag : Option BinId) : State :=
  match s.motion.gantry, s.motion.xfer with
  | .movingEmpty, some x =>
    match x.owner with
    | none => driveFault s
    | some n =>
      match if ownerEnded s x n then none else pickedBin s n x.src with
      | none => driveFault s
      | some b =>
        let x1 := { x with abandonSent := false }
        let t := pickAt
          (s.withMotion { s.motion with gantry := .loaded, xfer := some x1 }) n x.src b tag
        let u := modCtx t n (fun c =>
          { c with step := c.step.map (fun k => { k with bin := some b }) })
        if x.setDown then setDownLoaded u x1 else u
  | _, _ => unexpectedMotion s

/-! ### The place (R128) -/

/-- The effects of a PLACED on a column on the context's job (R66, R72, R74, R75). -/
def placeStep (c : Nat) (b : BinId) (k : Ctx) : Ctx :=
  match (k.step.map (·.kind)).getD .skipped with
  | .dig => { k with reloc := k.reloc ++ [{ bin := b, place := .column c }] }
  | .delivery => setCurrent k .waiting
  | .setBack =>
    { setCurrent k .taken with
      delivered := k.delivered + 1
      restorePartial := k.restorePartial || k.lock != some c }
  | .restore => { k with reloc := k.reloc.dropLast }
  | .skipped | .putAway => k

/-- PLACED on a column: the push, and the job's effects (R5). -/
def placeColumn (s : State) (n c : Nat) (b : BinId) : State :=
  restoreOver (modCtx (pushColumn s c b) n (placeStep c b)) n

/-- PLACED on the chute, a delivery: in one update the demand rises, the record becomes AT_CHUTE OUT and
fills the reservation, and the chute becomes OUTBOUND (R14, R33, R69). -/
def placeChute (s : State) (n : Nat) (b : BinId) : State :=
  let t := modRecord s b (fun r =>
    { r with
      body := { r.body with demand := min 7 (r.body.demand + 1) }
      residence := .atChute .outward })
  let u := modCtx (joinAway t b) n (fun c =>
    { setCurrent c .taken with delivered := c.delivered + 1, reserved := false })
  u.withMotion { u.motion with chute := .outbound, reason := .none }

/-- PLACED in a slot: the record becomes IN_SLOT, the view LOADED_OUT keeping its tag, and SLOT LOADED
is posted; a dug bin's entry reads "spilled" and the spilled count rises (R67, R96, R107). -/
def placeSlot (s : State) (n : Nat) (sd : Side) (b : BinId) : State :=
  let t := modView (setResidence s b (.inSlot sd)) sd (fun v =>
    { v with
      state := .loadedOut, ctx := none, bin := some b, resendOwed := false,
      loadRefused := false, claimTimer := none })
  let u := postSlotData t sd .loaded
  modCtx u n (fun c =>
    { c with
      spilled := c.spilled + 1
      reloc := if c.step.any (fun k => k.kind = .dig) then
          c.reloc ++ [{ bin := b, place := .spilled sd }]
        else c.reloc })

/-- The place's effects by destination (R128). -/
def placeAt (s : State) (n : Nat) (p : Pos) (b : BinId) : State :=
  match p with
  | .column c => placeColumn s n c b
  | .chute => placeChute s n b
  | .slot sd => placeSlot s n sd b
  | .park => s

/-- The dig remaining a notice reports after a step (R79). -/
def digAfter (c : Ctx) : Nat :=
  if c.step.any (fun k => k.kind = .dig) then c.digRemaining - 1 else 0

/-- The notice of a step boundary (R79). -/
def noticeBody (c : Ctx) : NoticeBody :=
  { target := c.cur + 1, bin := ((currentTarget c).map (·.bin)).getD 0, dig := digAfter c }

/-- The end of a context with HALT at a boundary: CANCEL_LATE when the step was a delivery placed on the
chute with no WAITING target left, HALTED otherwise (R78). -/
def haltEnd (s : State) (n : Nat) (kind : StepKind) (p : Pos) : State :=
  let c := ctxOf s n
  if kind = .delivery ∧ p = .chute ∧ hasTarget c .waiting = false then
    let t := modCtx s n (fun k =>
      { k with
        halt := false, cancelLate := true
        restorePartial := k.restorePartial || (k.restoring && !k.reloc.isEmpty) })
    endCtx t n (doneOutcome c) 0
  else endCtx s n .halted 0

/-- Whether a READY context of a level above the given one exists, one the event has woken counting as
READY (R43, R46). -/
def higherReady (s : State) (level : Nat) : Bool :=
  ctxNumbers.any (fun n => ((ctxOf s n).state = .ready ∨ isWoken s n) ∧ level < (ctxOf s n).level)

/-- The step boundary of a FETCH or VERIFY context (R43). -/
def boundary (s : State) (n : Nat) (kind : StepKind) (p : Pos) : State :=
  let c := ctxOf s n
  if c.halt then haltEnd s n kind p
  else if workDone c then endCtx s n (doneOutcome c) 0
  else if s.fire.node ≠ .run then pauseCtx s n
  else if higherReady s c.level then toHead s n
  else stepStart s n

/-- The end of a set-down's step for its PAUSED FETCH or VERIFY context (R77, R155). -/
def setDownEnd (s : State) (n : Nat) (kind : StepKind) (p : Pos) : State :=
  let c := ctxOf s n
  if c.halt then haltEnd s n kind p
  else if workDone c then endCtx s n (doneOutcome c) 0
  else s

/-- What follows a PLACED for the job of context `n`: a STOW, SPILL or RECLAIM is done; a FETCH or
VERIFY reaches its boundary, with its notice when it is ACTIVE (R43, R56, R95, R96, R109, R112). -/
def afterPlace (s : State) (n : Nat) (kind : StepKind) (p : Pos) (note : NoticeBody) : State :=
  match (ctxOf s n).kind with
  | .stow | .spill | .reclaim =>
    endCtx s n .complete (match p with | .column _ => 1 | _ => 0)
  | .fetch | .verify =>
    if (ctxOf s n).state = .active then
      boundary (if (ctxOf s n).notify then offerNotice s n note else s) n kind p
    else setDownEnd s n kind p

/-- A homing put-away's PLACED: the job is settled, and a drive recovery ends (R134, R135). -/
def placeHoming (s : State) (c : Nat) (b : BinId) : State :=
  let t := settleHand (pushColumn s c b) b (some c)
  if t.motion.recovery then endRecovery t else noPutAway t

/-- Whether a PLACED at a position is accepted: the commanded destination or the latest RETARGET's, and
the chute only while it is EMPTY (R128, R137). -/
def placeAccepted (s : State) (x : Xfer) (p : Pos) : Bool :=
  (p = x.dst ∨ some p = x.retarget) ∧ (p = .chute → s.motion.chute = .empty)

/-- An accepted PLACED of bin `b` for context `n` (R128). The step ended, so the context's next command
waits for this event's store update (R20). -/
def placeFor (s : State) (n : Nat) (p : Pos) (b : BinId) : State :=
  let kind := ((ctxOf s n).step.map (·.kind)).getD .skipped
  let note := noticeBody (ctxOf s n)
  let s1 := s.withSched { s.sched with stepEnded := some n }
  let s2 := modCtx (placeAt s1 n p b) n (fun c => { c with step := none })
  afterPlace s2 n kind p note

/-- PLACED (R128). -/
def placeReport (s : State) (p : Pos) : State :=
  match s.motion.gantry, s.motion.xfer, inHand s with
  | .loaded, some x, some r =>
    if placeAccepted s x p then
      let t := gantryIdle s
      match x.owner, p with
      | some n, _ => placeFor t n p r.body.bin
      | none, .column c => placeHoming t c r.body.bin
      | none, _ => driveFault s
    else driveFault s
  | _, _, _ => unexpectedMotion s

/-! ### EMPTY_PICK (R131) -/

/-- The settlement of the job whose pick found no bin, by source (R76, R95, R109, R110, R112). A chute that
had become BLOCKED meanwhile keeps its reason (R137; assumption 59). -/
def emptyPickJob (s : State) (n : Nat) : Pos → State
  | .column c => endCtx (markSuspect s c) n .positionFault 0
  | .chute =>
    let t := chuteRecordsAway s .inward
    endCtx (if t.motion.chute = .blocked then t else blockChute t .emptyPick) n .positionFault 0
  | .slot sd =>
    if (ctxOf s n).kind = .reclaim then
      if (ctxOf s n).takenAway then endCtx s n .removed 0
      else endCtx (modView s sd (fun v => { v with loadRefused := true })) n .positionFault 0
    else if (ctxOf s n).takenAway then endCtx (freeView s sd) n .removed 0
    else
      let viewTag := (view s sd).tag
      endCtx (answerSlot (freeView s sd) sd viewTag (.slotRefuse .busy)) n .positionFault 0
  | .park => s

/-- What an EMPTY_PICK leaves where the set-down's context has ended: a column is SUSPECT, a chute or a
slot is as it was (R131; assumption 68). -/
def emptyPickOver (s : State) : Pos → State
  | .column c => markSuspect s c
  | .chute | .slot _ | .park => s

/-- FAULT EMPTY_PICK (R131). -/
def emptyPickReport (s : State) : State :=
  match s.motion.gantry, s.motion.xfer with
  | .movingEmpty, some x =>
    match x.owner with
    | none => driveFault s
    | some n =>
      if ownerEnded s x n then emptyPickOver (gantryIdle s) x.src
      else emptyPickJob (gantryIdle s) n x.src
  | _, _ => unexpectedMotion s

/-! ### OCCUPIED_PLACE (R132) -/

/-- Marks the destination found occupied; a granted shelf is not loaded by a later step, its side staying MINE
until the context ends (R107, R132, R137). -/
def markOccupied (s : State) : Pos → State
  | .column c => markSuspect s c
  | .chute => if s.motion.chute = .empty then blockChute s .occupiedPlace else s
  | .slot sd =>
    modView s sd (fun v => if v.state = .mine then { v with shelfFull := true } else v)
  | .park => s

/-- A restore step that finds the target column occupied: its entry is removed as skipped (R76). -/
def skipOccupied (s : State) (n : Nat) : State :=
  if (ctxOf s n).step.any (fun k => k.kind = .restore) then
    restoreOver (modCtx s n (fun c =>
      { skipLast c with step := c.step.map (fun k => { k with kind := .skipped }) })) n
  else s

/-- FAULT OCCUPIED_PLACE (R132): the destination is marked and the bin in hand is retargeted, or the
event is taken as FAULT DRIVE when no column remains. -/
def occupiedPlaceReport (s : State) : State :=
  match s.motion.gantry, s.motion.xfer with
  | .loaded, some x =>
    let s1 := markOccupied s (destination x)
    let s2 := match x.owner with
      | none => s1
      | some n => skipOccupied s1 n
    match retargetChoice s2 x with
    | some c => retargetXfer s2 x c
    | none => driveFault s2
  | _, _ => unexpectedMotion s

/-! ### ABANDONED (R130) -/

/-- ABANDONED: the transfer ends with the hand empty, its step undone; a set-down's context with HALT
ends HALTED (R77, R130). -/
def abandonReport (s : State) : State :=
  match s.motion.gantry, s.motion.xfer with
  | .movingEmpty, some x =>
    if x.abandonSent then
      let t := gantryIdle s
      match x.owner with
      | none => t
      | some n =>
        let u := modCtx t n (fun c => { c with step := none })
        if (ctxOf u n).halt then endCtx u n .halted 0 else u
    else driveFault s
  | _, _ => unexpectedMotion s

/-! ### PARKED and HOMED (R126, R134, R156, R159, R163) -/

/-- PARKED: the gantry is IDLE at park; the shutdown sequence reaches the shutters (R156). -/
def parkedReport (s : State) : State :=
  match s.motion.gantry with
  | .parking =>
    let t := gantryIdle s
    if t.fire.node = .shutdown then closeShutters t else t
  | _ => unexpectedMotion s

/-- HOMED: the gantry is IDLE at park with the hand as reported, which is then reconciled by the node
state (R134, R156, R159, R163). -/
def homedReport (s : State) (hand : HandReport) : State :=
  match s.motion.gantry with
  | .homing =>
    let t := gantryIdle s
    match s.fire.node with
    | .homing => homeEnds t (.report hand)
    | .shutdown =>
      let u := reconcileHand t hand false
      closeShutters (if u.motion.gantry = .faulted then markFault u else u)
    | .resuming =>
      resumeOpen (if t.startup.reconciled then reconcileHand t hand true
        else homeEnds t (.report hand))
    | _ => reconcileHand t hand true
  | _ => unexpectedMotion s

end Sys2Proof.Machine
end

