-- ==== Sys2Proof/Machine/Stow.lean ====
section
/-! DEFINITION. The stow agent (chapter 5): offers, the bid decision, the winning bid, the handover of
records, and the adoption. -/

namespace Sys2Proof.Machine

open Sys2Proof

/-! ### Offers (R82, R83) -/

/-- The open-offer entry with a holder tag. -/
def offerOf (s : State) (tag : Tag) : Option OfferEntry := s.stow.offers.find? (fun e => e.tag = tag)

/-- Whether a bin is the subject of an open-offer entry, its OFFER sent or not (R82). -/
def isOffered (s : State) (b : BinId) : Bool := s.stow.offers.any (fun e => e.bin = b)

/-- Removes the open-offer entries that a test names. -/
def dropOffers (s : State) (p : OfferEntry → Bool) : State :=
  s.withStow { s.stow with offers := s.stow.offers.filter (fun e => !p e) }

/-- Changes the open-offer entry with a holder tag. -/
def modOffer (s : State) (tag : Tag) (f : OfferEntry → OfferEntry) : State :=
  s.withStow { s.stow with offers := s.stow.offers.map (fun e => if e.tag = tag then f e else e) }

/-- Opens an offer for an AWAY record: its entry, the next holder tag, no close timer yet (R83). -/
def openOffer (s : State) (b : BinId) (desk : Station) : State :=
  s.withStow
    { s.stow with
      offers := s.stow.offers ++
        [{ tag := s.stow.nextTag, bin := b, desk, closeTimer := none, winner := none }]
      nextTag := (s.stow.nextTag + 1) % 256 }

/-- The OFFER frame of the record `r` under a holder tag (R83). -/
def offerFrame (s : State) (tag : Tag) (r : RecordBody) (desk : Station) : Frame :=
  frameOf s s.setup.stow 0 0 tag (.offer s.board.station r.bin r.demand (loanCount r) desk)

/-! ### Bidding (R84, R85) -/

/-- Whether the node bids on an OFFER, but for the choice of a column (R84). -/
def mayBid (s : State) (f : OfferFrame) : Bool :=
  s.fire.node = .run ∧ gradeWarns s = false ∧ 0 < s.setup.stow ∧ canCommit s ∧ canReserve s ∧
    (f.holder = s.board.station ∨ holdsBin s f.bin = false)

/-- The BIDDING context of an OFFER, its origin the desk byte as it came (R38, R85; assumption 66). -/
def bidCtx (s : State) (f : OfferFrame) (tag : Tag) : Ctx :=
  { Ctx.blank with
    state := .bidding, kind := .stow, cls := .stow, level := s.setup.stow, origin := f.desk,
    tag := tag, offer := some { holder := f.holder, tag := tag, bin := f.bin }, reserved := true,
    bidTimer := some s.setup.bidWindow }

/-- Takes the BIDDING context, computes the rank once and posts the BID (R31, R85). -/
def makeBid (s : State) (n : Nat) (f : OfferFrame) (tag : Tag) (smin : Nat) : State :=
  let t := setCtx s n (bidCtx s f tag)
  let bid := frameOf t t.setup.stow (bidRank t smin) 0 tag (.bid f.holder f.bin)
  bumpSeq (modCtx t n (fun c => { c with bid := some (pframe t bid) }))

/-- Takes an OFFER with its frame tag: the node bids, or does nothing (R84, R85). -/
def takeOffer (s : State) (f : OfferFrame) (tag : Tag) : State :=
  if mayBid s f then
    match freeCtx? s, choose s (min 7 f.demand) .chute none none with
    | some n, some (_, smin) => makeBid s n f tag smin
    | _, _ => s
  else s

/-! ### The winning bid (R87, R88) -/

/-- Answers a bidder with REFUSE OFFER_CLOSED at the STOW level (R88). -/
def refuseClosed (s : State) (bidder : Station) (tag : Tag) : State :=
  respond s id (fun t => frameOf t t.setup.stow 0 bidder tag (.refuse .offerClosed))

/-- The STOW contexts that hold an offer id, in a given state. -/
def stowCtxs (s : State) (st : CtxState) (holder : Station) (tag : Tag) : List Nat :=
  ctxNumbers.filter (fun n =>
    (ctxOf s n).state = st ∧ (ctxOf s n).kind = .stow ∧
      (ctxOf s n).offer.any (fun o => o.holder = holder ∧ o.tag = tag))

/-- The holder's own BID won: the record becomes ARRIVING, and the context whose BID it was carries it and
gives its reservation up (R15, R88). With no record left the context awaits the bin without one (assumption
75). -/
def ownBidWins (s : State) (own : Option Nat) (b : BinId) : State :=
  let t := setResidence s b .arriving
  match own with
  | none => t
  | some n =>
    if holdsBin s b then
      awayFreed (modCtx t n (fun c => { c with carried := some (.own b), reserved := false }))
    else t

/-- Another station's BID won: the record becomes HANDING, a RECORD is posted and the handover timer
starts (R90). With no record left there is no handover (assumption 75). -/
def startHandover (s : State) (tag : Tag) (b : BinId) (winner : Station) : State :=
  let t := setResidence s b (.handing winner)
  match recordOf t b with
  | none => t
  | some r =>
    let rec1 := pframe t (frameOf t 11 0 winner tag (.record r.body))
    bumpSeq (t.withStow
      { t.stow with
        handovers := t.stow.handovers.filter (fun h => h.bin ≠ b) ++
          [{ bin := b, timer := t.setup.handoverWindow, record := some rec1 }] })

/-- The holder takes a BID for one of its offers, in any node state; `own` is the context of a BID of its own
(R88; assumptions 65 and 75). -/
def holderTakesBid (s : State) (own : Option Nat) (bidder : Station) (tag : Tag) : State :=
  match offerOf s tag with
  | some e =>
    if e.closeTimer.isSome ∧ e.winner.isNone then
      let t := setWinner (modOffer s tag (fun k => { k with winner := some bidder })) e.bin bidder
      if bidder = s.board.station then ownBidWins t own e.bin else startHandover t tag e.bin bidder
    else refuseClosed s bidder tag
  | none => refuseClosed s bidder tag

/-- A BID of another station is heard: the node's own pending BIDs for the offer are withdrawn, and the
holder decides; a full reply list drops its answer alone (R86, R88; assumption 71). -/
def takeBid (s : State) (bidder holder : Station) (tag : Tag) : State :=
  let t := (stowCtxs s .bidding holder tag).foldl withdrawBid s
  if holder = t.board.station then
    holderTakesBid t (stowCtxs t .awaiting holder tag).head? bidder tag
  else t

/-- The node's own BID is carried first for its offer: the context becomes AWAITING, and the holder side
follows when the node is the holder (R87). -/
def ownBidSent (s : State) (n : Nat) : State :=
  match (ctxOf s n).offer with
  | none => s
  | some o =>
    let t := modCtx s n (fun c =>
      { c with
        state := .awaiting, bid := none, bidTimer := none,
        arrivalTimer := some s.setup.arrivalWindow })
    if o.holder = t.board.station then holderTakesBid t (some n) t.board.station o.tag else t

/-- REFUSE OFFER_CLOSED from a holder: every BIDDING context of the offer id, and every AWAITING one that
holds no record, is freed (R89). -/
def takeOfferClosed (s : State) (holder : Station) (tag : Tag) : State :=
  (stowCtxs s .bidding holder tag ++
    (stowCtxs s .awaiting holder tag).filter (fun n => (ctxOf s n).carried.isNone)).foldl
    withdrawBid s

/-! ### Handovers (R90, R91) -/

/-- Ends a bin's handover: its timer stops and a RECORD still pending is withdrawn. -/
def dropHandover (s : State) (b : BinId) : State :=
  let t := match (s.stow.handovers.find? (fun h => h.bin = b)).bind (·.record) with
    | none => s
    | some f => withdrawTx s f.seq
  t.withStow { t.stow with handovers := t.stow.handovers.filter (fun h => h.bin ≠ b) }

/-- Whether a record may be removed by an ADOPTED from a station: HANDING or AWAY, with that station
the recorded winner of its latest offer (R15, R90). -/
def adoptedRemoves (s : State) (src : Station) (b : BinId) : Bool :=
  (awayEntry s b).any (fun e => e.winner = some src) &&
    (match residenceOf s b with
      | some .away | some (.handing _) => true
      | _ => false)

/-- ADOPTED (R90): the record is removed, with its entry, its handover and any offer still without a
winner. -/
def takeAdopted (s : State) (src : Station) (b : BinId) : State :=
  if adoptedRemoves s src b then
    let t := dropHandover (leaveAway (dropRecord s b) b) b
    awayFreed (dropOffers t (fun e => e.bin = b ∧ e.winner.isNone))
  else s

/-- The AWAITING context without a record that a RECORD matches, the lowest-numbered of several (R91;
assumption 61). -/
def adopter (s : State) (src : Station) (tag : Tag) (b : BinId) : Option Nat :=
  ctxNumbers.find? (fun n =>
    (ctxOf s n).state = .awaiting ∧ (ctxOf s n).kind = .stow ∧ (ctxOf s n).carried.isNone ∧
      (ctxOf s n).offer = some { holder := src, tag, bin := b })

/-- Adopts a RECORD for context `n`: ARRIVING in the context's reserved entry, CLASH-marked; ADOPTED
follows (R91, R122). -/
def adopt (s : State) (n : Nat) (src : Station) (tag : Tag) (r : RecordBody) : State :=
  let t := joinAway (putRecord s { body := clashMark s r, residence := .arriving }) r.bin
  let u := modCtx t n (fun c => { c with carried := some (.own r.bin), reserved := false })
  let f := pframe u (frameOf u 11 0 src tag (.adopted r.bin))
  bumpSeq (u.withStow { u.stow with adopted := u.stow.adopted ++ [f] })

/-- A RECORD outside SURVEY: adopted, or ignored and counted (R91, R170). -/
def takeRecord (s : State) (src : Station) (tag : Tag) (r : RecordBody) : State :=
  match adopter s src tag r.bin with
  | some n => if holdsBin s r.bin then countDropped s else adopt s n src tag r
  | none => countDropped s

end Sys2Proof.Machine
end

