-- ==== Sys2Proof/Machine/Transmit.lean ====
section
/-! DEFINITION. The transmitter (R174, R175): the pending set, the frame it takes, and what its owner
does when a frame of the node is carried or dropped. -/

namespace Sys2Proof.Machine

open Sys2Proof

/-! ### Frames and store updates (R20) -/

/-- The bin whose record a frame carries as it stands when the frame is taken for transmission: that of an
OFFER and of a RECORD (R83, R90, R124; assumption 53). -/
def latestOf : Payload → Option BinId
  | .offer _ b _ _ _ => some b
  | .record r => some r.bin
  | _ => none

/-- A picture without its demands: what the tables a request is judged on show of it. -/
def undemanded (i : Image) : Image :=
  { i with records := i.records.map (fun r => { r with body := { r.body with demand := 0 } }) }

/-- Whether a bin's record differs between two pictures. -/
def recordDiffers (a b : Image) (bin : BinId) : Bool := lookup bin a.records ≠ lookup bin b.records

/-- Whether the content of a frame built after an event reads something that the event changed: `before` is
the picture the event found, and `u` its update. A BID, whose rank is computed from the whole picture, is
taken to read every one (R20; assumption 8). -/
def contentReads (before : Image) (u : StoreUpdate) : Payload → Bool
  | .alarm _ | .reply (.setup _) => false
  | .reply (.binRecord none) => before.records ≠ u.image.records
  | .reply (.binRecord (some r)) | .reply (.record r) => recordDiffers before u.image r.body.bin
  | .returnClaim _ b _ _ | .offer _ b _ _ _ | .adopted b | .slotClaim b | .slotTaken b =>
    recordDiffers before u.image b
  | .record r | .slotLoaded r => recordDiffers before u.image r.bin
  | .reply (.column c _ _) | .reply (.columnLoad c _ _) => before.columns[c]? ≠ u.image.columns[c]?
  | .reply (.awayList _ _ _) => before.away ≠ u.image.away ∨ before.records ≠ u.image.records
  | .reply (.detectors _ _ _) => u.det
  | .reply (.neighbours _ _) => u.nbrs
  | .reply (.counters _) => u.counters
  | .reply (.jobSummary _) => u.ctxs ≠ []
  | .reply (.loadEnd _ _ _ _ _) =>
    before.columns ≠ u.image.columns ∨ before.away ≠ u.image.away
  | .announce _ _ _ _ _ _ => before.columns ≠ u.image.columns
  | .state _ => u.report
  | .progress n _ _ _ => n ∈ u.ctxs
  | .done d => d.ctx ∈ u.ctxs
  | .bid _ _ => true
  | .claim _ _ | .refuse _ | .slotGrant _ | .slotRefuse _ | .reply (.chuteClear _ _) =>
    undemanded before ≠ undemanded u.image ∨ u.ctxs ≠ [] ∨ u.report

/-- Whether a frame is posted only when an update completes: its event is the update's, or a later one that
built its content on the update's event (R20; assumption 8). -/
def postedAfter (before : Image) (u : StoreUpdate) (f : PFrame) : Bool :=
  u.start ≤ f.seq && (f.seq < u.stop || contentReads before u f.frame.payload)

/-- Whether a frame posted before an update's event is built again, when it is taken, on what that event
changed (R20; assumption 53). -/
def rebuiltAfter (before : Image) (u : StoreUpdate) (f : PFrame) : Bool :=
  f.seq < u.start && (latestOf f.frame.payload).any (recordDiffers before u.image)

/-- Whether a test holds of one of the updates being written, oldest first, with the picture it found. -/
def anyUpdate (p : Image → StoreUpdate → Bool) : Image → List StoreUpdate → Bool
  | _, [] => false
  | before, u :: us => p before u || anyUpdate p u.image us

/-- Whether a frame has its place but is not posted yet: an update it must follow is being written (R20,
R114, R165; assumption 72). -/
def unposted (s : State) (f : PFrame) : Bool :=
  anyUpdate (fun before u => postedAfter before u f) s.store.image s.store.queue

/-- Whether a frame waits for a store update. -/
def awaitsStore (s : State) (f : PFrame) : Bool :=
  unposted s f || anyUpdate (fun before u => rebuiltAfter before u f) s.store.image s.store.queue

/-! ### The pending set (R174) -/

/-- The DONE frame of a completion record: at its class's level, to its origin with its tag (R54). -/
def doneFrame (s : State) (d : DoneBody) : Frame := frameOf s d.level 0 d.origin d.tag (.done d)

/-- The DONE of an entry of the completion queue. -/
def donePFrame (s : State) (e : DoneEntry) : PFrame :=
  { frame := doneFrame s e.body, seq := e.seq, voids := e.voids }

/-- A place of the pending set with the frame in it, if any. -/
def placed? (k : TxKey) (f : Option PFrame) : List (TxKey × PFrame) := (f.map (fun p => (k, p))).toList

/-- A place of the pending set with the frames in it. -/
def placedAll (k : TxKey) (l : List PFrame) : List (TxKey × PFrame) := l.map (fun p => (k, p))

/-- The frames that stand in a place of their own: all but the reply list and the completion queue. -/
def standing (s : State) : List (TxKey × PFrame) :=
  placed? .alarm s.fire.alarm ++ placedAll .state s.bus.state ++ placedAll .announce s.bus.announce ++
    placed? (.slot .west) s.slots.west.pend ++ placed? (.slot .east) s.slots.east.pend ++
    s.stow.handovers.flatMap (fun h => placed? (.record h.bin) h.record) ++
    placedAll .adopted s.stow.adopted ++
    ctxNumbers.flatMap (fun n => placed? (.bid n) (ctxOf s n).bid) ++
    placedAll .notice (s.sched.notice.map (·.pf))

/-- The head of the reply list: the first answer that is posted (R20, R176; assumption 72). -/
def replyHead (s : State) : Option PFrame := s.bus.replies.find? (fun f => !unposted s f)

/-- Every frame an owner has pending: of the reply list and of the completion queue, the head (R174). -/
def pendingSet (s : State) : List (TxKey × PFrame) :=
  standing s ++ placed? .reply (replyHead s) ++
    placed? .done (s.sched.doneQ.head?.map (donePFrame s))

/-- Whether a frame may be sent now: an ALARM always (R151), any other once the store updates its content
depends on have completed (R20). -/
def maySend (s : State) (k : TxKey) (f : PFrame) : Bool := k = .alarm ∨ awaitsStore s f = false

/-- The frames that may be sent now. -/
def sendable (s : State) : List (TxKey × PFrame) :=
  (pendingSet s).filter (fun p => maySend s p.1 p.2)

/-- When a frame was posted: at its number, or, where it was posted at an update's completion, at that one's
(R20, R174; assumption 72). -/
def turnOf (s : State) (f : PFrame) : Nat :=
  ((s.bus.turns.find? (fun p => p.1 = f.seq)).map (·.2)).getD f.seq

/-- Whether a frame was posted before another. -/
def earlier (s : State) (f g : PFrame) : Bool :=
  turnOf s f < turnOf s g ∨ (turnOf s f = turnOf s g ∧ f.seq < g.seq)

/-- Whether one pending frame goes before another: the better arbitration word, and between equal words
the earlier posting (R174). -/
def goesBefore (s : State) (a b : TxKey × PFrame) : Bool :=
  wordBeats (wordOf a.2.frame) (wordOf b.2.frame) ∨
    (wordBeats (wordOf b.2.frame) (wordOf a.2.frame) = false ∧ earlier s a.2 b.2)

/-- The first frame of a list by that order. -/
def bestOf (s : State) : List (TxKey × PFrame) → Option (TxKey × PFrame)
  | [] => none
  | p :: ps =>
    match bestOf s ps with
    | none => some p
    | some q => if goesBefore s q p then some q else some p

/-- Whether the frame posted as `seq` still stands in its place. -/
def stillPending (s : State) (k : TxKey) (seq : Nat) : Bool :=
  (pendingSet s).any (fun p => p.1 = k ∧ p.2.seq = seq) ||
    k = .reply && s.bus.replies.any (fun f => f.seq = seq)

/-- A payload as it is when its frame is taken for transmission: an OFFER carries the demand and the loan
count, and a RECORD the record, as they then stand; with the record gone they stay as posted (R83, R90,
R124; assumption 53). -/
def latest (s : State) : Payload → Payload
  | .offer h b d o desk =>
    match recordOf s b with
    | none => .offer h b d o desk
    | some r => .offer h b r.body.demand (loanCount r.body) desk
  | .record r => .record (((recordOf s r.bin).map (·.body)).getD r)
  | p => p

/-- A pending frame as it is sent. -/
def built (s : State) (f : PFrame) : PFrame :=
  { f with frame := { f.frame with payload := latest s f.frame.payload } }

/-- An arbitration is lost: it is counted, and the frame stays pending (R171). -/
def countLoss (s : State) : State :=
  s.withBus
    { s.bus with counters := { s.bus.counters with losses := count16 s.bus.counters.losses } }

/-- The bits of a frame past the start mark and the arbitration word, up to the check (R172). -/
def pastWord (bits : List Bool) : List Bool := (bits.drop 22).take (bits.length - 31)

/-- At an idle, the transmitter takes the best pending frame; it loses to a rival with a better word, or
goes on as the frame in transmission, spoiled where a later bit read back is not the one driven (R171,
R174). -/
def contend (s : State) (back : ReadBack) : State :=
  if s.bus.tx.isSome then s
  else
    match bestOf s (sendable s) with
    | none => s
    | some (k, f) =>
      if back.rival.any (fun r => wordBeats r (wordOf f.frame)) then
        countLoss s
      else
        s.withBus
          { s.bus with
            tx := some
              { key := k, pf := built s f, bits := wireBits (built s f).frame, withdrawn := false
                spoiled := back.past.any (fun l => l ≠ pastWord (wireBits (built s f).frame)) } }

/-! ### Leaving the pending set -/

/-- An answer leaves the reply list (R176). -/
def popReply (s : State) (seq : Nat) : State :=
  s.withBus { s.bus with replies := s.bus.replies.eraseP (fun f => f.seq = seq) }

/-- Takes a frame out of its place, with what its owner does whether it was sent or dropped: the next
waiting slot frame is posted, the next notice loaded, the completion queue advanced (R54, R56, R102,
R174). -/
def removePending (s : State) (k : TxKey) (seq : Nat) : State :=
  match k with
  | .alarm => s.withFire { s.fire with alarm := none }
  | .state => s.withBus { s.bus with state := s.bus.state.filter (fun f => f.seq ≠ seq) }
  | .announce => s.withBus { s.bus with announce := s.bus.announce.filter (fun f => f.seq ≠ seq) }
  | .slot sd => slotFrameLeaves s sd
  | .record b =>
    s.withStow
      { s.stow with
        handovers := s.stow.handovers.map (fun h =>
          if h.bin = b then { h with record := none } else h) }
  | .adopted => s.withStow { s.stow with adopted := s.stow.adopted.filter (fun f => f.seq ≠ seq) }
  | .bid n => modCtx s n (fun c => { c with bid := none })
  | .reply => popReply s seq
  | .notice => noticeLeaves s (fun m => m.pf.seq = seq)
  | .done => popDone s

/-! ### Sent (R174) -/

/-- What a frame's owner does when the bus has carried it: a SLOT CLAIM starts its timer, a SLOT TAKEN
is owed no more, a BID wins, an OFFER opens (R83, R87, R102, R103). -/
def ownerSent (s : State) (k : TxKey) (f : Frame) : State :=
  match k, f.payload with
  | .slot sd, .slotClaim _ =>
    modView s sd (fun v =>
      if v.state = .claiming ∧ v.tag = f.tag then
        { v with claimTimer := some s.setup.claimWindow } else v)
  | .slot sd, .slotTaken b =>
    modView s sd (fun v =>
      if v.takenOwed = some (b, f.tag) then { v with takenOwed := none } else v)
  | .bid n, .bid _ _ => ownBidSent s n
  | .reply, .offer _ _ _ _ _ =>
    modOffer s f.tag (fun e => { e with closeTimer := some (2 * s.setup.bidWindow) })
  | _, _ => s

/-- The receive side takes the node's own frame as any station does: its own OFFER, its own ALARM and a
REFUSE OFFER_CLOSED to itself have owners here (R84, R89, R149, R174). -/
def takeOwn (s : State) (f : Frame) : State :=
  if f.dst = 0 ∨ f.dst = s.board.station then
    let t := countReceived s
    match f.payload with
    | .offer holder bin demand loans desk => takeOffer t { holder, bin, demand, loans, desk } f.tag
    | .alarm z => addZones t (zoneSet z)
    | .refuse .offerClosed => takeOfferClosed t f.src f.tag
    | _ => t
  else s

/-- Counts a void seen (R170). -/
def countVoid (s : State) : State :=
  s.withBus { s.bus with counters := { s.bus.counters with voids := count16 s.bus.counters.voids } }

/-- Nothing is in transmission. -/
def clearTx (s : State) : State := s.withBus { s.bus with tx := none }

/-! ### Voided and dropped (R175) -/

/-- Gives a pending frame's void count a value. -/
def setVoids (v : Nat) (f : PFrame) : PFrame := { f with voids := v }

/-- Gives the frame of a list with a posting number a void count. -/
def voidIn (seq v : Nat) (l : List PFrame) : List PFrame :=
  l.map (fun f => if f.seq = seq then setVoids v f else f)

/-- Sets the void count of the frame in a place (R175). -/
def countFrameVoid (s : State) (k : TxKey) (seq v : Nat) : State :=
  match k with
  | .alarm => s.withFire { s.fire with alarm := s.fire.alarm.map (setVoids v) }
  | .state => s.withBus { s.bus with state := voidIn seq v s.bus.state }
  | .announce => s.withBus { s.bus with announce := voidIn seq v s.bus.announce }
  | .slot sd => modView s sd (fun w => { w with pend := w.pend.map (setVoids v) })
  | .record b =>
    s.withStow
      { s.stow with
        handovers := s.stow.handovers.map (fun h =>
          if h.bin = b then { h with record := h.record.map (setVoids v) } else h) }
  | .adopted =>
    s.withStow { s.stow with adopted := voidIn seq v s.stow.adopted }
  | .bid n => modCtx s n (fun c => { c with bid := c.bid.map (setVoids v) })
  | .reply =>
    s.withBus
      { s.bus with
        replies := s.bus.replies.modify (s.bus.replies.findIdx (fun f => f.seq = seq)) (setVoids v) }
  | .notice =>
    s.withSched
      { s.sched with
        notice := s.sched.notice.map (fun m =>
          if m.pf.seq = seq then { m with pf := setVoids v m.pf } else m) }
  | .done =>
    s.withSched { s.sched with doneQ := s.sched.doneQ.modify 0 (fun e => { e with voids := v }) }

/-- What a frame's owner does at its drop, beyond its leaving (R86, R102, R111, R175). -/
def ownerDropped (s : State) (k : TxKey) (f : Frame) : State :=
  match k, f.payload with
  | .slot sd, .slotClaim _ =>
    if (view s sd).state = .claiming ∧ (view s sd).tag = f.tag then claimRefused s sd else s
  | .slot sd, .slotGrant _ => if (view s sd).tag = f.tag then voidGrant s sd else s
  | .slot sd, .slotLoaded _ =>
    modView s sd (fun v =>
      if v.state = .loadedOut ∧ v.tag = f.tag then { v with resendOwed := true } else v)
  | .slot sd, .slotTaken b => modView s sd (fun v => { v with takenOwed := some (b, f.tag) })
  | .bid n, _ => withdrawBid s n
  | .reply, .offer _ _ _ _ _ => dropOffers s (fun e => e.tag = f.tag)
  | _, _ => s

/-- A frame on the bus is voided: a void is counted; the node's own frame, if still pending, has its
consecutive-void count raised and is dropped at the eighth; a withdrawn one is gone (R175). -/
def frameVoided (s : State) : State :=
  match s.bus.tx with
  | none => countVoid s
  | some t =>
    let s1 := clearTx (countVoid s)
    if t.withdrawn = true ∨ stillPending s t.key t.pf.seq = false then s1
    else if t.pf.voids + 1 < 8 then countFrameVoid s1 t.key t.pf.seq (t.pf.voids + 1)
    else ownerDropped (removePending s1 t.key t.pf.seq) t.key t.pf.frame

/-! ### Carried (R174) -/

/-- The bus carries the node's frame: it is counted as sent and leaves its place, and its owner takes it
as sent; then the receive side takes it (R174). -/
def frameCarried (s : State) (t : Tx) : State :=
  let s1 := clearTx (s.withBus
    { s.bus with counters := { s.bus.counters with sent := count16 s.bus.counters.sent } })
  let s2 := if stillPending s t.key t.pf.seq then
      ownerSent (removePending s1 t.key t.pf.seq) t.key t.pf.frame
    else s1
  takeOwn s2 t.pf.frame

/-- The node's frame reaches its end. One that its owner has withdrawn, or of which a bit was read back that
is not the one driven, the node voids itself; any other has been carried (R171, R174, R175; assumption
9). -/
def frameSent (s : State) : State :=
  match s.bus.tx with
  | none => s
  | some t => if t.withdrawn ∨ t.spoiled then frameVoided s else frameCarried s t

end Sys2Proof.Machine
end

