-- ==== Sys2Proof/Machine/Receive.lean ====
section
/-! DEFINITION. The receive side of the bus interface (R172, R176 to R178): reading a frame off the bits of
the bus, the catalogue's kinds and lengths, and the command a carried frame is. -/

namespace Sys2Proof.Machine

open Sys2Proof

/-! ### Reading bits (R171, R172) -/

/-- The number a run of bits spells, most significant first. -/
def numOf (bits : List Bool) : Nat := bits.foldl (fun n b => 2 * n + boolCode b) 0

/-- Reads a field of `n` bits, and answers it with the bits after it; none where the frame ends early. -/
def readField (n : Nat) (bits : List Bool) : Option (Nat × List Bool) :=
  if n ≤ bits.length then some (numOf (bits.take n), bits.drop n) else none

/-- Reads `k` payload bytes. -/
def readBytes : Nat → List Bool → Option (List Byte × List Bool)
  | 0, bits => some ([], bits)
  | k + 1, bits => do
    let (b, r) ← readField 8 bits
    let (bs, r) ← readBytes k r
    some (BitVec.ofNat 8 b :: bs, r)

/-- Reads the fields of a frame from the start mark to the payload: none where the start mark is not
dominant, the length is above 48 or the frame ends early. -/
def readBody (bits : List Bool) : Option ((Header × RawBody) × List Bool) := do
  let (start, r) ← readField 1 bits
  let (level, r) ← readField 4 r
  let (rank, r) ← readField 12 r
  let (src, r) ← readField 5 r
  let (kind, r) ← readField 6 r
  let (dst, r) ← readField 5 r
  let (tag, r) ← readField 8 r
  let (len, r) ← readField 6 r
  if start ≠ 0 ∨ 48 < len then none
  else
    let (payload, r) ← readBytes len r
    some (({ src, dst, tag }, { level := 15 - level, rank, kind, payload }), r)

/-- The frame the bits of the bus carry, from the start mark to the last bit of the end field. None where a
receiver voids it, its check failing, its length above 48 or its end early, and where its void window
or its end is not recessive (R172). -/
def readFrame (bits : List Bool) : Option (Header × RawBody) := do
  let (f, r) ← readBody bits
  let (check, r) ← readField 16 r
  let (tail, _) ← readField 9 r
  if check = (crc ((bits.drop 1).take (46 + 8 * f.2.payload.length))).toNat ∧ tail = 511 then some f
  else none

/-! ### Kinds and lengths (R176, R177) -/

/-- The byte at an offset of a payload. -/
def byteAt (p : List Byte) (i : Nat) : Nat := (p.getD i 0).toNat

/-- The two-byte field at an offset. -/
def wordAt (p : List Byte) (i : Nat) : Nat := 256 * byteAt p i + byteAt p (i + 1)

/-- The four-byte field at an offset. -/
def longAt (p : List Byte) (i : Nat) : Nat := 65536 * wordAt p i + wordAt p (i + 2)

/-- Whether a length is `fixed` bytes and a whole number of entries of `each` bytes, up to 48 (R177). -/
def countedLength (fixed each len : Nat) : Bool :=
  fixed ≤ len ∧ len ≤ 48 ∧ (len - fixed) % each = 0

/-- Whether a REPLY of a reply kind may hold so many bytes after it; one of a kind not in R178's list is
not judged. -/
def replyLength (code len : Nat) : Bool :=
  match code with
  | 0 | 10 => len = 47
  | 1 | 11 => countedLength 3 2 len
  | 2 => countedLength 2 3 len
  | 3 => len = 16
  | 4 => len = 30
  | 5 => len = 22
  | 6 => len = 10
  | 7 => len = 37
  | 8 => len = 6
  | 9 => len = 2
  | _ => true

/-- Whether the catalogue has a kind and allows it the length of a payload (R176, R177). -/
def lengthAllowed (kind : Nat) (p : List Byte) : Bool :=
  match kind with
  | 1 => p.length = 37
  | 2 => countedLength 2 2 p.length
  | 3 | 6 | 13 | 15 => p.length = 0
  | 4 => countedLength 3 2 p.length
  | 5 => countedLength 2 2 p.length
  | 7 | 16 | 26 => p.length = 3
  | 8 | 9 | 10 | 11 => p.length = 7
  | 12 => p.length = 4
  | 14 | 22 | 31 | 35 => p.length = 1
  | 17 | 18 | 28 | 29 | 30 | 33 => p.length = 2
  | 19 => p.length = 8
  | 20 | 34 => p.length = 10
  | 21 | 23 => p.length = 5
  | 24 => p.length = 9
  | 25 => p.length = 6
  | 27 | 32 => p.length = 44
  | 36 => 1 ≤ p.length ∧ replyLength (byteAt p 0) (p.length - 1)
  | _ => false

/-! ### Payloads read (R177, R178) -/

/-- The two-byte entries of the rest of a payload. -/
def wordsOf : List Byte → List Nat
  | a :: b :: rest => (256 * a.toNat + b.toNat) :: wordsOf rest
  | _ => []

/-- The bin record of a RECORD or SLOT LOADED. -/
def rawRecordOf (p : List Byte) : RawRecord :=
  { bin := wordAt p 0, demand := byteAt p 2, marks := p.getD 3 0
    slots := (List.range 8).map (fun i =>
      { state := byteAt p (4 + 5 * i), item := longAt p (5 + 5 * i) }) }

/-- The fields of a SETUP. -/
def setupFrameOf (p : List Byte) : SetupFrame :=
  { loanFetch := byteAt p 0, staffFetch := byteAt p 1, returnFetch := byteAt p 2
    verify := byteAt p 3, stow := byteAt p 4, spill := byteAt p 5, reserve := byteAt p 6
    statePeriod := byteAt p 7, claimWindow := byteAt p 8, bidWindow := byteAt p 9
    handoverWindow := wordAt p 10, motionTimeout := byteAt p 12, arrivalWindow := wordAt p 13
    decayPeriod := byteAt p 15, window := byteAt p 16
    heat := { t1 := wordAt p 17, t2 := wordAt p 19, t3 := wordAt p 21, h := wordAt p 29 }
    smoke := { t1 := wordAt p 23, t2 := wordAt p 25, t3 := wordAt p 27, h := wordAt p 31 }
    types := [byteAt p 33, byteAt p 34, byteAt p 35, byteAt p 36] }

/-- The fields of an ANNOUNCE. -/
def announceFrameOf (p : List Byte) : AnnounceFrame :=
  { role := byteAt p 0, station := byteAt p 1, zone := byteAt p 2, w := byteAt p 3
    d := byteAt p 4, c := byteAt p 5, free := wordAt p 6 }

/-- The fields of a STATE that are read. -/
def stateFrameOf (p : List Byte) : StateFrame :=
  { nodeState := byteAt p 0, free := wordAt p 2, reserve := byteAt p 4, zone := byteAt p 8 }

/-- The fields of an OFFER. -/
def offerFrameOf (p : List Byte) : OfferFrame :=
  { holder := byteAt p 0, bin := wordAt p 1, demand := byteAt p 3, loans := byteAt p 4
    desk := byteAt p 5 }

/-- Whether a frame is a QUERY whose query kind is none of R178's six. -/
def isUnknownQuery (f : RawBody) : Bool := f.kind = 16 ∧ 5 < byteAt f.payload 0

/-- The command a QUERY is, by its query kind; one of no kind of R178's list has no row of its own. -/
def queryCommand (h : Header) (f : RawBody) : Instr :=
  match byteAt f.payload 0 with
  | 0 => .queryBinRecord h (wordAt f.payload 1)
  | 1 => .queryColumn h (wordAt f.payload 1)
  | 2 => .queryJobSummary h
  | 3 => .queryDetectors h
  | 4 => .queryNeighbours h
  | 5 => .queryCounters h
  | _ => .receivedFrameIgnored h f

/-- The command a passed frame of an allowed length is, by its kind (R176, R177). -/
def kindCommand (survey : Bool) (h : Header) (f : RawBody) : Instr :=
  let p := f.payload
  match f.kind with
  | 1 => .setup h (setupFrameOf p)
  | 2 => .columnLoad h (byteAt p 0) (byteAt p 1) (wordsOf (p.drop 2))
  | 3 => .loadEnd h
  | 4 => .fetch h (byteAt p 0) (p.getD 1 0) (byteAt p 2) (wordsOf (p.drop 3))
  | 5 => .verify h (p.getD 0 0) (byteAt p 1) (wordsOf (p.drop 2))
  | 6 => .cancel h
  | 7 => .stowReady h (wordAt p 0) (byteAt p 2)
  | 8 => .lend h (wordAt p 0) (byteAt p 2) (longAt p 3)
  | 9 => .refill h (wordAt p 0) (byteAt p 2) (longAt p 3)
  | 10 => .withdraw h (wordAt p 0) (byteAt p 2) (longAt p 3)
  | 11 => .accession h (wordAt p 0) (byteAt p 2) (longAt p 3)
  | 12 => .returnQuery h (longAt p 0)
  | 13 => .chuteClear h
  | 14 => .slotReclaim h (byteAt p 0)
  | 15 => .restart h
  | 16 => queryCommand h f
  | 17 => .fire h (BitVec.ofNat 16 (wordAt p 0))
  | 18 => .fireClear h (BitVec.ofNat 16 (wordAt p 0))
  | 19 => .announce h (announceFrameOf p)
  | 20 => .state h (stateFrameOf p)
  | 22 => if byteAt p 0 = RefuseReason.offerClosed.code then .refuseOfferClosed h
      else .receivedFrameIgnored h f
  | 25 => .offer h (offerFrameOf p)
  | 26 => .bid h (byteAt p 0) (wordAt p 1)
  | 27 => if survey then .recordSurvey h (rawRecordOf p) else .recordHandover h (rawRecordOf p)
  | 28 => .adopted h (wordAt p 0)
  | 29 => .slotClaim h (wordAt p 0)
  | 30 => .slotGrant h (wordAt p 0)
  | 31 => .slotRefuse h (byteAt p 0)
  | 32 => .slotLoaded h (rawRecordOf p)
  | 33 => .slotTaken h (wordAt p 0)
  | 35 => .alarm h (byteAt p 0)
  | _ => .receivedFrameIgnored h f

/-- The command a carried frame of another station is: discarded by the filter, ignored, or its owner's
(R176). -/
def commandOf (s : State) (h : Header) (f : RawBody) : Instr :=
  if accepts s h = false then .receiveFilterDiscard h
  else if lengthAllowed f.kind f.payload = false then .receivedFrameIgnored h f
  else kindCommand (s.fire.node = .survey) h f

/-- The command the bits of another station's frame are: a frame that a receiver voids, or the one it
carries (R172, R175, R176). -/
def busCommand (s : State) (bits : List Bool) : Instr :=
  match readFrame bits with
  | none => .frameVoided
  | some (h, f) => commandOf s h f

/-- The bits of another station's frame reach the node: the command they are joins the queue. -/
def State.hearBits (s : State) (bits : List Bool) : State :=
  { s with pending := s.pending ++ [busCommand s bits] }

end Sys2Proof.Machine
end

