-- ==== Sys2Proof/Machine/Reset.lean ====
section
/-! DEFINITION. The commands of reset, the fire line, the detectors, the retained store and the periodic
timers. -/

namespace Sys2Proof.Machine

open Sys2Proof

/-! ### RESET (R163) -/

/-- The node state cleared as every chapter's reset rule leaves it, over the retained image, before the
start-up logic acts: straps read, the update in writing lost, the commands waiting kept (R20, R23, R59,
R99, R101, R126, R136, R139, R148, R161). -/
def clearedState (s : State) (p : StrapPins) : State :=
  { board := boardOf p
    inv := s.store.image
    store := { image := s.store.image, queue := [] }
    sched := Sched.blank
    stow := Stow.blank
    slots := { west := SlotView.blank, east := SlotView.blank, nextTag := 0 }
    motion :=
      { gantry := .off, power := false, xfer := none, held := none, timer := none,
        putAway := none, putAwayWaits := false, recovery := false, chute := .empty, reason := .none,
        shWest := Shutter.blank, shEast := Shutter.blank, shChute := Shutter.blank, out := [] }
    det := List.replicate 4 DetInput.blank
    fire :=
      { node := .homing, zones := 0, latch := false, chuteHold := false, closing := false,
        safeWithFault := false, resumeTo := .homing, opening := false, alarm := none }
    bus :=
      { seq := 0, turns := [], state := [], announce := [], replies := [], tx := none
        counters := { sent := 0, received := 0, voids := 0, losses := 0, dropped := 0 }
        nbWest := Neighbour.blank (if 1 < p.stn.toNat then some (p.stn.toNat - 1) else none)
        nbEast := Neighbour.blank (if p.stn.toNat < 31 then some (p.stn.toNat + 1) else none) }
    setup := Setup.default
    startup :=
      { reconciled := false, sense := none, homed := none,
        stateTimer := Setup.default.statePeriod, decayTimer := some Setup.default.decayPeriod }
    free := s.free
    pending := s.pending }

/-- A view is LOADED_OUT with a fresh claim tag and resend owed if a record stands IN_SLOT on its side
(R99, R102). -/
def resetView (s : State) (sd : Side) : State :=
  match recordAt s (.inSlot sd) with
  | none => s
  | some _ =>
    modView (bumpTag s) sd (fun v =>
      { v with
        state := .loadedOut, tag := s.slots.nextTag, resendOwed := true })

/-- The chute state the retained image gives (R136). -/
def resetChute (s : State) : State :=
  if (chuteRecord s .outward).isSome then s.withMotion { s.motion with chute := .outbound }
  else if (chuteRecord s .inward).isSome then s.withMotion { s.motion with chute := .inbound }
  else s

/-- Whether a pin level is the fire line's active one (R150). -/
def pinActive (s : State) (level : Bool) : Bool := level = s.board.activeHigh

/-- The fire line as read at reset: at its active level, all sixteen zones enter the set (R150). -/
def resetLine (s : State) (pin : Bool) : State :=
  if pinActive s pin then s.withFire { s.fire with latch := true, zones := allZones } else s

/-- SAFE as a reset with the fire-stop mark set finds it: POWER OFF sent, the shutters asked CLOSE, and the
sides and the chute CLOSED for fire as SHUTDOWN left them (R22, R140, R160; assumptions 23 and 49). -/
def startSafe (s : State) : State :=
  let t := sides.foldl (fun t sd => setFireCause t true sd) (setNode s .safe)
  askAll (powerOff (t.withFire { t.fire with chuteHold := true })) .closed

/-- Start-up in the reset's event: SAFE with the fire-stop mark set; SHUTDOWN with the fire line active; else
HOMING with POWER ON and the reconcile PARK (R161 to R163). -/
def startUp (s : State) : State :=
  if s.inv.fireStop then startSafe s
  else if s.fire.latch then enterShutdown s
  else if posts s then parkReconcile (powerOn s)
  else s

/-- RESET (R163). A STATE is posted whatever state the node enters (assumption 16); an overflow record for
which the away list has room after the reset moves in this event (R19, R23; assumption 52). -/
def resetNode (s : State) (p : StrapPins) (pin : Bool) : State :=
  let c := clearedState s p
  commit c (postState (settle (startUp (resetLine (resetChute (sides.foldl resetView c)) pin))))

/-- RESET: power-on or RST_N (R163). -/
def execReset (p : StrapPins) (pin : Bool) (s : State) : Host.Outcome State Fault Refusal :=
  .next (resetNode s p pin)

/-! ### FIRE_LINE_CHANGE (R150) -/

/-- The latch follows the pin; a change to the active level adds all sixteen zones (R150). -/
def lineChange (level : Bool) (s : State) : State :=
  if pinActive s level then
    if s.fire.latch then s else addZones (s.withFire { s.fire with latch := true }) allZones
  else s.withFire { s.fire with latch := false }

def execFireLineChange (level : Bool) (s : State) : Host.Outcome State Fault Refusal :=
  .next (fullEvent (lineChange level) s)

/-! ### SENSOR_SAMPLE (R141 to R143, R145) -/

/-- The grade a number stands for. -/
def gradeOf : Nat → Grade
  | 0 => .normal
  | 1 => .watch
  | 2 => .warn
  | _ => .alarm

/-- up: the highest k from 1 to 3 with m ≥ Tk, or 0 (R143). -/
def upGrade (t : Thresholds) (m : Nat) : Nat :=
  if t.t3 ≤ m then 3 else if t.t2 ≤ m then 2 else if t.t1 ≤ m then 1 else 0

/-- The fall of a grade: one step while WATCH or WARN and m < Tg − h, the test made again after each
step; ALARM is not tested (R143, R144). -/
def fallGrade (t : Thresholds) (m : Nat) : Grade → Grade
  | .normal => .normal
  | .watch => if m < t.t1 - t.h then .normal else .watch
  | .warn => if m < t.t2 - t.h then (if m < t.t1 - t.h then .normal else .watch) else .warn
  | .alarm => .alarm

/-- The grade after a good window of mean m (R143). -/
def nextGrade (t : Thresholds) (m : Nat) (g : Grade) : Grade :=
  if gradeNum g < upGrade t m then gradeOf (upGrade t m) else fallGrade t m g

/-- A window restarted from 0 and clear (R142). -/
def emptyWindow (i : DetInput) : DetInput := { i with acc := 0, count := 0, faultSeen := false }

/-- The completion of a window (R142, R143, R145). -/
def completeWindow (t : Thresholds) (n : Nat) (i : DetInput) : DetInput :=
  if i.faultSeen then emptyWindow { i with fault := true }
  else
    let g := nextGrade t (i.acc / n) i.grade
    emptyWindow
      { i with fault := false, mean := some (i.acc / n), grade := g, worst := maxGrade i.worst g }

/-- A sample taken into a window: a measurement is added, a fault reading sets fault-seen, and either is
counted; the N-th completes the window (R142). -/
def takeSample (t : Thresholds) (n reading : Nat) (i : DetInput) : DetInput :=
  let j := if reading < 1023 then { i with acc := i.acc + reading, count := i.count + 1 }
    else { i with faultSeen := true, count := i.count + 1 }
  if j.count < n then j else completeWindow t n j

/-- The thresholds of a type (R143). -/
def thresholdsOf (v : Setup) : InputType → Option Thresholds
  | .heat => some v.heat
  | .smoke => some v.smoke
  | .unfitted => none

/-- A sample arrives: discarded for an input of type NONE, else taken, with what a change of the bay
grade does (R141, R146). -/
def sample (input reading : Nat) (s : State) : State :=
  match s.det[input]?, thresholdsOf s.setup (s.setup.types.getD input .unfitted) with
  | some i, some t =>
    gradeChanged (bayGrade s)
      (s.withDet (s.det.set input (takeSample t s.setup.window reading i)))
  | _, _ => s

def execSensorSample (input reading : Nat) (s : State) : Host.Outcome State Fault Refusal :=
  .next (fullEvent (sample input reading) s)

/-! ### STORE_UPDATE_COMPLETE (R20) -/

/-- Every frame that stands in a place of its own, in the reply list or in the completion queue, but for a
pending ALARM, which no update delays (R151, R174). -/
def owedFrames (s : State) : List PFrame :=
  ((standing s).filter (fun p => p.1 ≠ .alarm)).map (·.2) ++ s.bus.replies ++
    s.sched.doneQ.map (donePFrame s)

/-- Whether a frame's posting waited in `was` and waits no longer (R20). -/
def nowPosted (was s : State) (f : PFrame) : Bool := unposted was f && !unposted s f

/-- The frames whose posting waited in `was` and waits no longer are posted: the answers among them join the
tail of the reply list's posted ones, and all count as posted now (R20, R114, R174; assumption 72). -/
def postLate (was s : State) : State :=
  s.withBus
    { s.bus with
      seq := s.bus.seq + 1
      turns := s.bus.turns.filter (fun p => (owedFrames s).any (fun f => f.seq = p.1)) ++
        ((owedFrames s).filter (nowPosted was s)).map (fun f => (f.seq, s.bus.seq))
      replies := s.bus.replies.filter (fun f => !nowPosted was s f) ++
        s.bus.replies.filter (nowPosted was s) }

/-- The oldest update of the retained store is complete; the frames that waited for it are posted, and the
gantry command that waited for it may go (R20). -/
def storeComplete (s : State) : State :=
  match s.store.queue with
  | [] => s
  | u :: us => postLate s (s.withStore { image := u.image, queue := us })

def execStoreUpdateComplete (s : State) : Host.Outcome State Fault Refusal :=
  .next (quietEvent storeComplete s)

/-! ### DECAY_TIMER_EXPIRY (R34) -/

/-- A record's demand falls by 1, to a floor of 0. -/
def decayRecord (r : BinRecord) : BinRecord :=
  { r with body := { r.body with demand := r.body.demand - 1 } }

/-- Every record decays, and the timer restarts; a stopped timer does not expire (R34). -/
def decay (s : State) : State :=
  if s.startup.decayTimer.isSome then
    let t := s.withInv { s.inv with records := s.inv.records.map decayRecord }
    t.withStartup { t.startup with decayTimer := some s.setup.decayPeriod }
  else s

def execDecayTimerExpiry (s : State) : Host.Outcome State Fault Refusal :=
  .next (quietEvent decay s)

/-! ### STATE_PERIOD_EXPIRY (R102, R160, R166, R168) -/

/-- Another state period without a frame from a neighbour (R101). -/
def ageNeighbour (s : State) (sd : Side) : State :=
  modNbr s sd (fun n => { n with sinceHeard := n.sinceHeard + 1 })

/-- A SLOT TAKEN owed on a side is posted again (R102). -/
def repostTaken (s : State) (sd : Side) : State :=
  match (view s sd).takenOwed with
  | none => s
  | some (b, tag) =>
    if (view s sd).pend.any (fun f => f.frame.payload = .slotTaken b ∧ f.frame.tag = tag) ∨
        SlotWait.taken b tag ∈ (view s sd).waiting then s
    else postSlotData s sd (.taken b tag)

/-- Whether a shutter has a fire reason to be closed (R160). -/
def fireReason (s : State) : ShutterId → Bool
  | .chute => fireStopped s
  | .west => fireStopped s ∨ (s.fire.node = .guarded ∧ sideAfire s .west)
  | .east => fireStopped s ∨ (s.fire.node = .guarded ∧ sideAfire s .east)

/-- In RUN, OPEN is asked again for a shutter that stands CLOSED or UNKNOWN with no fire reason
(R160). -/
def retryShutter (s : State) (sh : ShutterId) : State :=
  if s.fire.node = .run ∧ fireReason s sh = false ∧
      ((shutter s sh).state = .closed ∨ (shutter s sh).state = .unknown) then
    askShutter s sh .opened
  else s

/-- The state period expires: shutters are retried, owed SLOT TAKEN frames reposted, ANNOUNCE posted in
JOINING, and STATE posted; the timer restarts (R102, R160, R166, R168). The side frames are posted west
before east, the ANNOUNCE after them and the STATE last (assumption 73). -/
def statePeriod (s : State) : State :=
  let t := sides.foldl repostTaken (shutterIds.foldl retryShutter (sides.foldl ageNeighbour s))
  let u := if t.fire.node = .joining then postAnnounce t else t
  postState (u.withStartup { u.startup with stateTimer := u.setup.statePeriod })

def execStatePeriodExpiry (s : State) : Host.Outcome State Fault Refusal :=
  .next (fullEvent statePeriod s)

end Sys2Proof.Machine
end

