-- ==== Sys2Proof/Machine/MotionCmds.lean ====
section
/-! DEFINITION. The commands of the motion port: the drive controller's events, the chute mechanism's
reports, and the motion and shutter timers (chapter 8). -/

namespace Sys2Proof.Machine

open Sys2Proof

/-! ### Gantry events (R128 to R134) -/

def execPicked (tag : Option BinId) (s : State) : Host.Outcome State Fault Refusal :=
  .next (fullEvent (fun t => pickReport t tag) s)

def execPlaced (p : Pos) (s : State) : Host.Outcome State Fault Refusal :=
  .next (fullEvent (fun t => placeReport t p) s)

def execAbandoned (s : State) : Host.Outcome State Fault Refusal :=
  .next (fullEvent abandonReport s)

def execParked (s : State) : Host.Outcome State Fault Refusal :=
  .next (fullEvent parkedReport s)

def execHomed (hand : HandReport) (s : State) : Host.Outcome State Fault Refusal :=
  .next (fullEvent (fun t => homedReport t hand) s)

def execFaultEmptyPick (s : State) : Host.Outcome State Fault Refusal :=
  .next (fullEvent emptyPickReport s)

def execFaultOccupiedPlace (s : State) : Host.Outcome State Fault Refusal :=
  .next (fullEvent occupiedPlaceReport s)

/-- FAULT BLOCKED and FAULT DRIVE have the same effect; either is ignored while OFF or FAULTED (R128,
R133). -/
def faultReport (s : State) : State := unexpectedMotion s

def execFaultBlocked (s : State) : Host.Outcome State Fault Refusal :=
  .next (fullEvent faultReport s)

def execFaultDrive (s : State) : Host.Outcome State Fault Refusal :=
  .next (fullEvent faultReport s)

/-- The motion timer expires, which is taken as FAULT DRIVE; a stopped timer does not expire (R127). -/
def motionExpiry (s : State) : State :=
  if s.motion.timer.isSome then unexpectedMotion s else s

def execMotionTimerExpiry (s : State) : Host.Outcome State Fault Refusal :=
  .next (fullEvent motionExpiry s)

/-! ### Shutters (R139, R153, R156, R159, R160) -/

/-- The slot side of a shutter. -/
def shutterSide : ShutterId → Option Side
  | .west => some .west
  | .east => some .east
  | .chute => none

/-- A shutter reports OPEN: with no fire reason to be closed its side's FIRE cause, or the hold on the
chute's overlay, is lifted; the chute shutter's change to OPEN wakes CHUTE_BUSY over an EMPTY chute
(R46, R139, R153, R159). -/
def shutterOpened (s : State) (sh : ShutterId) (changed : Bool) : State :=
  match shutterSide sh with
  | some sd =>
    if (view s sd).fireClosed ∧ fireReason s sh = false then setFireCause s false sd else s
  | none =>
    let t := if fireReason s sh then s else s.withFire { s.fire with chuteHold := false }
    if changed ∧ t.motion.chute = .empty then wakeOn t .chuteBusy else t

/-- SHUTTER_DONE: the shutter takes the reported state and its timer stops; if that is not what it was
last asked, the command is sent again (R139). -/
def shutterReport (sh : ShutterId) (p : ShutterPos) (s : State) : State :=
  let k := shutter s sh
  let t := setShutter s sh
    { k with state := match p with | .opened => .opened | .closed => .closed, timer := none }
  if k.asked.any (fun a => a ≠ p) then (k.asked.map (askShutter t sh)).getD t
  else if p = .opened then shutterOpened t sh (k.state ≠ .opened)
  else t

def execShutterDone (sh : ShutterId) (p : ShutterPos) (s : State) :
    Host.Outcome State Fault Refusal :=
  .next (fullEvent (shutterReport sh p) s)

/-- A shutter's timer expires: the shutter becomes UNKNOWN; in the shutdown sequence that sets
SAFE_WITH_FAULT. A stopped timer does not expire (R139, R156). -/
def shutterExpiry (sh : ShutterId) (s : State) : State :=
  if (shutter s sh).timer.isSome then
    let t := setShutter s sh { shutter s sh with state := .unknown, timer := none }
    if t.fire.node = .shutdown then markFault t else t
  else s

def execShutterTimerExpiry (sh : ShutterId) (s : State) : Host.Outcome State Fault Refusal :=
  .next (fullEvent (shutterExpiry sh) s)

/-! ### The chute (R94, R137) -/

/-- The STOW context AWAITING an offered bin (R94): one that holds the record before one that does not
(assumption 54). -/
def awaitingBin (s : State) (b : BinId) : Option Nat :=
  let l := ctxNumbers.filter (fun n =>
    (ctxOf s n).state = .awaiting ∧ (ctxOf s n).kind = .stow ∧
      (ctxOf s n).offer.any (fun o => o.bin = b))
  (l.find? (fun n => (ctxOf s n).carried.isSome)).or l.head?

/-- An arrival matched to a context that holds the record: AT_CHUTE IN, INBOUND, and the context READY
in RUN and PAUSED outside it, its offer id held no more (R36, R94, R157). -/
def arrivalMatched (s : State) (n : Nat) (b : BinId) : State :=
  let t := setResidence s b (.atChute .inward)
  let u := t.withMotion { t.motion with chute := .inbound, reason := .none }
  readied (modCtx u n (fun c => { c with arrivalTimer := none, offer := none })) n

/-- ARRIVAL on an EMPTY chute (R94). -/
def arrivalEmpty (s : State) (tag : Option BinId) : State :=
  match tag with
  | none => blockChute s .unmatched
  | some b =>
    match awaitingBin s b with
    | none => blockChute s .unmatched
    | some n =>
      if (ctxOf s n).carried.isSome then arrivalMatched s n b
      else blockChute (endCtx s n .noRecord 0) .noRecord

/-- ARRIVAL by the chute's state (R137). -/
def arrive (tag : Option BinId) (s : State) : State :=
  match s.motion.chute with
  | .empty => arrivalEmpty s tag
  | .outbound | .inbound | .blocked => blockChute s .chuteConflict

def execArrival (tag : Option BinId) (s : State) : Host.Outcome State Fault Refusal :=
  .next (fullEvent (arrive tag) s)

/-- TAKEN by the chute's state (R14, R137). -/
def collected (s : State) : State :=
  match s.motion.chute with
  | .empty => s
  | .outbound => chuteEmptied (chuteRecordsAway s .outward)
  | .inbound => blockChute s .chuteConflict
  | .blocked => chuteRecordsAway s .outward

def execChuteTaken (s : State) : Host.Outcome State Fault Refusal :=
  .next (fullEvent collected s)

/-! ### The sense report (R159, R163) -/

/-- Whether a sense report is awaited: in HOMING, and in a RESUMING that makes the start-up reconcile,
once the reconcile PARK has been sent (R159, R162, R163). -/
def senseAwaited (s : State) : Bool :=
  s.startup.reconciled = false ∧
    ((s.fire.node = .homing ∧ posts s) ∨ s.fire.node = .resuming)

/-- A sense report, which replaces one taken before the reconcile (R163; assumption 70). -/
def sense (occupied : Bool) (s : State) : State :=
  if senseAwaited s then
    tryReconcile (s.withStartup { s.startup with sense := some occupied })
  else s

def execSenseReport (occupied : Bool) (s : State) : Host.Outcome State Fault Refusal :=
  .next (fullEvent (sense occupied) s)

end Sys2Proof.Machine
end

