-- ==== Sys2Proof/Machine/TimerCmds.lean ====
section
/-! DEFINITION. The commands of the bus windows, of a neighbour's silence, and of the wing bus itself
(chapters 5, 6 and 12). An expiry of a timer that does not run has no effect. -/

namespace Sys2Proof.Machine

open Sys2Proof

/-! ### A neighbour falls silent (R101, R113) -/

/-- The time since heard reaches three state periods while the entry is PRESENT: it becomes ABSENT, its
lost flag is set and its side closes (R101, R113). -/
def neighbourLost (sd : Side) (s : State) : State :=
  if (nbr s sd).station.isSome ∧ (nbr s sd).present then
    oweResend (changeOverlay sd
      (fun t => modNbr t sd (fun n => { n with present := false, lost := true })) s) sd
  else s

def execNeighbourAbsent (sd : Side) (s : State) : Host.Outcome State Fault Refusal :=
  .next (fullEvent (neighbourLost sd) s)

/-! ### Windows (R86, R88, R90, R93, R104) -/

/-- A claim window expires: the side becomes FREE and the refusal path follows (R104). -/
def claimExpiry (sd : Side) (s : State) : State :=
  if (view s sd).state = .claiming ∧ (view s sd).claimTimer.isSome then claimRefused s sd else s

def execClaimTimerExpiry (sd : Side) (s : State) : Host.Outcome State Fault Refusal :=
  .next (fullEvent (claimExpiry sd) s)

/-- A bid window expires with the BID still pending: the context is withdrawn (R86). -/
def bidExpiry (n : Nat) (s : State) : State :=
  if (ctxOf s n).state = .bidding ∧ (ctxOf s n).bidTimer.isSome then withdrawBid s n else s

def execBidTimerExpiry (n : Nat) (s : State) : Host.Outcome State Fault Refusal :=
  .next (fullEvent (bidExpiry n) s)

/-- An open offer closes: its entry is removed (R88). -/
def closeExpiry (tag : Tag) (s : State) : State :=
  dropOffers s (fun e => e.tag = tag ∧ e.closeTimer.isSome)

def execCloseTimerExpiry (tag : Tag) (s : State) : Host.Outcome State Fault Refusal :=
  .next (quietEvent (closeExpiry tag) s)

/-- A handover window expires: a HANDING record becomes AWAY in place and a RECORD still pending is
withdrawn (R15, R90). -/
def handoverExpiry (b : BinId) (s : State) : State :=
  if s.stow.handovers.any (fun h => h.bin = b) then
    let t := dropHandover s b
    modRecord t b (fun r =>
      match r.residence with
      | .handing _ => { r with residence := .away }
      | _ => r)
  else s

def execHandoverTimerExpiry (b : BinId) (s : State) : Host.Outcome State Fault Refusal :=
  .next (quietEvent (handoverExpiry b) s)

/-- An arrival window expires: the context ends ARRIVAL_TIMEOUT, and a record it holds becomes AWAY in
place (R15, R93). -/
def arrivalExpiry (n : Nat) (s : State) : State :=
  if (ctxOf s n).state = .awaiting ∧ (ctxOf s n).arrivalTimer.isSome then
    let t := match (ctxOf s n).carried with
      | some (.own b) => setResidence s b .away
      | _ => s
    endCtx t n .arrivalTimeout 0
  else s

def execArrivalTimerExpiry (n : Nat) (s : State) : Host.Outcome State Fault Refusal :=
  .next (fullEvent (arrivalExpiry n) s)

/-! ### The wing bus (R171 to R176) -/

def execTransmitContend (back : ReadBack) (s : State) : Host.Outcome State Fault Refusal :=
  .next (quietEvent (fun t => contend t back) s)

def execOwnFrameSent (s : State) : Host.Outcome State Fault Refusal :=
  .next (fullEvent frameSent s)

def execFrameVoided (s : State) : Host.Outcome State Fault Refusal :=
  .next (fullEvent frameVoided s)

/-- A passed frame that reaches no owner: one of a kind not in the catalogue, or of a length its kind does not
allow, is counted with the requests dropped; a QUERY of no known query kind is refused with MALFORMED when
it is addressed to the node; any other is ignored (R169, R170, R176, R178). -/
def ignoreFrame (h : Header) (f : RawBody) (s : State) : State :=
  if lengthAllowed f.kind f.payload = false then countDropped s
  else if isUnknownQuery f ∧ addressed s h then refuseAt s 2 h .malformed
  else s

/-- A frame the filter passes but no owner takes (R176). A node strapped to station 0 only counts it
received (R162). -/
def execReceivedFrameIgnored (h : Header) (f : RawBody) (s : State) :
    Host.Outcome State Fault Refusal :=
  .next (receiveQuiet h (ignoreFrame h f) s)

/-- A frame for another station: the neighbour table hears it, the filter discards it (R101, R176). -/
def execReceiveFilterDiscard (h : Header) (s : State) : Host.Outcome State Fault Refusal :=
  .next (if hearingLifts s h.src then fullEvent (fun t => hear t h.src) s
    else quietEvent (fun t => hear t h.src) s)

end Sys2Proof.Machine
end

