-- ==== Sys2Proof/Machine/ConfigCmds.lean ====
section
/-! DEFINITION. The commands of configuration and inventory load: SETUP, COLUMN LOAD, LOAD END, survey
RECORD, and the queries (chapters 1 and 11). -/

namespace Sys2Proof.Machine

open Sys2Proof

/-- Answers a request with a REPLY at level 2 (R169, R173). -/
def replyFrame (h : Header) (r : Reply) (s : State) : Frame := frameOf s 2 0 h.src h.tag (.reply r)

/-! ### SETUP (R148, R167) -/

/-- An input's record under a new SETUP: its window restarts; an input typed NONE is cleared (R148). -/
def retypeInput (p : DetInput × InputType) : DetInput :=
  if p.2 = .unfitted then
    emptyWindow { p.1 with grade := .normal, worst := .normal, fault := false, mean := none }
  else emptyWindow p.1

/-- The decay timer a period gives: stopped at 0 (R34). -/
def decayTimerOf (period : Nat) : Option Nat := if period = 0 then none else some period

/-- Every block takes the SETUP's values, the windows and the two timers restart (R34, R148, R167). The
expiries counted so far no longer measure the time since a neighbour was heard (assumption 2). -/
def applySetup (v : Setup) (s : State) : State :=
  let t := (s.withSetup v).withDet ((s.det.zip v.types).map retypeInput)
  let u := t.withBus
    { t.bus with
      nbWest := { t.bus.nbWest with phase := .restarted }
      nbEast := { t.bus.nbEast with phase := .restarted } }
  u.withStartup
    { u.startup with stateTimer := v.statePeriod, decayTimer := decayTimerOf v.decayPeriod }

/-- An accepted SETUP: taken whole, and the node enters RUN unless the grade it gives stops it; a
pending ANNOUNCE is withdrawn (R152, R166, R167). -/
def acceptSetup (v : Setup) (s : State) : State :=
  let t := withdrawAnnounce (gradeChanged (bayGrade s) (applySetup v s))
  if t.fire.node = .joining then enterRun t else t

/-- The time since heard of the station whose SETUP restarted the timer began with the timer: its frame is
carried in that event (R101). -/
def alignSender (src : Station) (s : State) : State :=
  match sideOfStation s src with
  | none => s
  | some sd => modNbr s sd (fun n => { n with phase := .aligned })

/-- SETUP: refused outside JOINING or with thresholds that do not ascend, else taken (R167). -/
def takeSetup (h : Header) (f : SetupFrame) (s : State) : State :=
  if s.fire.node ≠ .joining then refuseAt s 2 h .setupLocked
  else if (setupOf f).heat.ascends ∧ (setupOf f).smoke.ascends then
    respond s (fun t => alignSender h.src (acceptSetup (setupOf f) t))
      (replyFrame h (.setup (setupOf f)))
  else refuseAt s 2 h .setupInvalid

def execSetup (h : Header) (f : SetupFrame) (s : State) : Host.Outcome State Fault Refusal :=
  .next (receive h (takeSetup h f) s)

/-! ### COLUMN LOAD (R7, R8) -/

/-- Whether a list of ids names some id twice. -/
def hasTwice : List Nat → Bool
  | [] => false
  | b :: bs => b ∈ bs || hasTwice bs

/-- Whether a bin's record stands in a residence that a COLUMN LOAD may not move, in the overflow
place, or with a SPILL context (R7). -/
def loadMoves (s : State) (b : BinId) : Bool :=
  s.inv.overflow = some b || isCarried s b ||
    (match residenceOf s b with
      | some .inHand | some (.inSlot _) | some (.atChute _) | some .arriving
      | some (.handing _) => true
      | _ => false)

/-- Whether a column is the source or destination of a transfer in flight (R7). -/
def columnInXfer (s : State) (c : Nat) : Bool :=
  (currentXfer s).any (fun x =>
    x.src = .column c ∨ x.dst = .column c ∨ x.retarget = some (.column c))

/-- Whether a column is the destination of a transfer in flight (R5). -/
def columnAwaitsBin (s : State) (c : Nat) : Bool :=
  (currentXfer s).any (fun x => x.dst = .column c ∨ x.retarget = some (.column c))

/-- The bins a load places that are AWAY, so leave the away list (R8). -/
def loadReturns (s : State) (bins : List BinId) : List BinId :=
  bins.filter (fun b => residenceOf s b = some .away)

/-- The bins a load removes from a column (R8). -/
def loadRemoves (s : State) (c : Nat) (bins : List BinId) : List BinId :=
  (column s c).bins.filter (fun b => b ∉ bins)

/-- The away list's room after a load (R7, last check). -/
def loadFits (s : State) (c : Nat) (bins : List BinId) : Bool :=
  s.inv.away.length - (loadReturns s bins).length + (loadRemoves s c bins).length +
    reservations s + (if s.inv.overflow.isSome then 1 else 0) ≤ 32

/-- The refusal of a COLUMN LOAD's content, by R7's checks in order. In SURVEY too the destination of a homing
put-away that RESUMING began takes no load until that transfer ends (R5; assumption 74). -/
def loadRefusal (s : State) (c count : Nat) (bins : List BinId) : Option RefuseReason :=
  if columnCount s ≤ c ∨ count ≠ bins.length ∨ s.board.c < bins.length ∨
      bins.any (fun b => !isBinId b) ∨ hasTwice bins then some .malformed
  else if bins.any (fun b =>
      match residenceOf s b with
      | some (.resident k _) => k ≠ c
      | _ => false) then some .malformed
  else if bins.any (loadMoves s) then some .binMoving
  else if columnAwaitsBin s c ∨ s.fire.node ≠ .survey ∧
      (columnInXfer s c ∨ lockedBut s none c ∨ (column s c).bins.any (isTargetBut s none) ∨
        (loadReturns s bins).any (isOffered s)) then some .binBusy
  else if loadFits s c bins then none
  else some .tableFull

/-- Places one bin of a load at its height: its record, or a new one, becomes RESIDENT there with
SUSPECT_TAG cleared (R8). -/
def placeLoaded (c : Nat) (s : State) (p : BinId × Nat) : State :=
  match recordOf s p.1 with
  | none => putRecord s { body := freshBody p.1, residence := .resident c p.2 }
  | some r =>
    putRecord (leaveAway s p.1)
      { body := { r.body with suspectTag := false }, residence := .resident c p.2 }

/-- Removes one bin by a load: AWAY, at the tail of the away list (R8). -/
def removeLoaded (s : State) (b : BinId) : State := joinAway (setResidence s b .away) b

/-- The inventory update of an accepted COLUMN LOAD (R8). -/
def loadColumn (c : Nat) (bins : List BinId) (s : State) : State :=
  let t := bins.zipIdx.foldl (placeLoaded c) s
  setColumn ((loadRemoves s c bins).foldl removeLoaded t) c { bins, suspect := false }

/-- An accepted COLUMN LOAD with what it wakes: NO_ROOM if it freed a position or cleared the mark,
AWAY_FULL if it freed an away entry (R8, R46). -/
def acceptLoad (c : Nat) (bins : List BinId) (s : State) : State :=
  let roomier := (column s c).suspect || bins.length < (column s c).bins.length
  let t := moveOverflow (loadColumn c bins s)
  wakeWhere t (fun _ w => (roomier ∧ w = .noRoom) ∨ (canReserve t ∧ w = .awayFull))

/-- COLUMN LOAD by node state (R7, R8). -/
def takeColumnLoad (h : Header) (c count : Nat) (bins : List BinId) (s : State) : State :=
  match s.fire.node with
  | .homing | .resuming => refuseAt s 2 h .notReady
  | .shutdown => refuseAt s 2 h .fire
  | .survey | .joining | .run | .guarded | .safe =>
    match loadRefusal s c count bins with
    | some r => refuseAt s 2 h r
    | none =>
      respond s (acceptLoad c bins)
        (fun t => replyFrame h (.columnLoad c (column t c).suspect (column t c).bins) t)

def execColumnLoad (h : Header) (c count : Nat) (bins : List BinId) (s : State) :
    Host.Outcome State Fault Refusal :=
  .next (receive h (takeColumnLoad h c count bins) s)

/-! ### LOAD END (R21, R165) -/

/-- The strapped geometry and the valid mark are written, and the node enters JOINING (R165). -/
def acceptLoadEnd (s : State) : State :=
  enterJoining (s.withInv
    { s.inv with hdrW := s.board.w, hdrD := s.board.d, hdrC := s.board.c, valid := true })

/-- LOAD END, when addressed to the node (R165). -/
def takeLoadEnd (h : Header) (s : State) : State :=
  if addressed s h = false then s
  else
    match s.fire.node with
    | .homing | .resuming => refuseAt s 2 h .notReady
    | .shutdown => refuseAt s 2 h .fire
    | .survey =>
      respond s acceptLoadEnd (fun t =>
        replyFrame h
          (.loadEnd t.board.w t.board.d t.board.c (freePositions t) t.inv.away.length) t)
    | .joining | .run | .guarded | .safe => refuseAt s 2 h .setupLocked

def execLoadEnd (h : Header) (s : State) : Host.Outcome State Fault Refusal :=
  .next (receiveQuiet h (takeLoadEnd h) s)

/-! ### RECORD (R9, R91) -/

/-- The column and height at which a bin stands in the column lists. -/
def findBin (s : State) (b : BinId) : Option (Nat × Nat) :=
  (List.range (columnCount s)).findSome? (fun c =>
    ((column s c).bins.idxOf? b).map (fun h => (c, h)))

/-- The refusal of a survey RECORD (R9). -/
def surveyRefusal (s : State) (r : RawRecord) : Option RefuseReason :=
  if recordInRange r = false then some .malformed
  else if s.inv.overflow = some r.bin then some .binMoving
  else
    match residenceOf s r.bin with
    | some (.resident _ _) | some .away => none
    | some _ => some .binMoving
    | none => if (findBin s r.bin).isSome ∨ awayTotal s < 32 then none else some .tableFull

/-- Stores a survey RECORD, CLASH-marked: a known record keeps its residence, a new one takes it from
the column lists or joins the away list (R9, R122). -/
def storeSurvey (s : State) (r : RecordBody) : State :=
  let b := clashMark s r
  match recordOf s r.bin with
  | some old => putRecord s { old with body := b }
  | none =>
    match findBin s r.bin with
    | some (c, i) => putRecord s { body := b, residence := .resident c i }
    | none => joinAway (putRecord s { body := b, residence := .away }) r.bin

/-- A survey RECORD (R9); its REPLY holds the record as stored, CLASH marks included (assumption 56). -/
def takeSurvey (h : Header) (r : RawRecord) (s : State) : State :=
  match surveyRefusal s r with
  | some why => refuseAt s 2 h why
  | none =>
    respond s (fun t => storeSurvey t (bodyOf r)) (fun t =>
      replyFrame h (.record
        ((recordOf t r.bin).getD { body := bodyOf r, residence := .away })) t)

/-- A RECORD is a survey RECORD in SURVEY and a handover RECORD in every other state (R9, R91). -/
def recordFrame (h : Header) (r : RawRecord) (s : State) : State :=
  if s.fire.node = .survey then takeSurvey h r s else takeRecord s h.src h.tag (bodyOf r)

def execRecordSurvey (h : Header) (r : RawRecord) (s : State) : Host.Outcome State Fault Refusal :=
  .next (receiveQuiet h (recordFrame h r) s)

def execRecordHandover (h : Header) (r : RawRecord) (s : State) : Host.Outcome State Fault Refusal :=
  .next (receiveQuiet h (recordFrame h r) s)

/-! ### QUERY (R145, R169, R170) -/

/-- A bin-record query: answered when addressed to the node, or by a node that holds the record; an id
out of range is refused with MALFORMED when addressed (R169). -/
def queryBin (h : Header) (b : BinId) (s : State) : State :=
  if isBinId b = false then if addressed s h then refuseAt s 2 h .malformed else s
  else if addressed s h ∨ (recordOf s b).isSome then
    respond s id (fun t => replyFrame h (.binRecord (recordOf t b)) t)
  else s

def execQueryBinRecord (h : Header) (b : BinId) (s : State) : Host.Outcome State Fault Refusal :=
  .next (receiveQuiet h (queryBin h b) s)

/-- Up to fifteen entries of the away list from a start position (R17, R177). -/
def awayPage (s : State) (start : Nat) : List (BinId × Residence) :=
  ((s.inv.away.drop start).take 15).map (fun e => (e.bin, (residenceOf s e.bin).getD .away))

/-- A column query: the away list when the argument's high byte is 255 and its low byte 0 to 31, else a
column, or MALFORMED (R3, R17, R169, R177). -/
def queryCol (h : Header) (arg : Nat) (s : State) : State :=
  if addressed s h = false then s
  else if arg / 256 = 255 ∧ arg % 256 < 32 then
    respond s id (fun t =>
      replyFrame h (.awayList t.inv.away.length (arg % 256) (awayPage t (arg % 256))) t)
  else if arg < columnCount s then
    respond s id (fun t => replyFrame h (.column arg (column t arg).suspect (column t arg).bins) t)
  else refuseAt s 2 h .malformed

def execQueryColumn (h : Header) (arg : Nat) (s : State) : Host.Outcome State Fault Refusal :=
  .next (receiveQuiet h (queryCol h arg) s)

/-- The state and class of each context (R58). -/
def jobSummary (s : State) : List (CtxState × Option JobClass) :=
  s.sched.ctxs.map (fun c => (c.state, if c.state = .free then none else some c.cls))

def queryJobs (h : Header) (s : State) : State :=
  if addressed s h then respond s id (fun t => replyFrame h (.jobSummary (jobSummary t)) t) else s

def execQueryJobSummary (h : Header) (s : State) : Host.Outcome State Fault Refusal :=
  .next (receiveQuiet h (queryJobs h) s)

/-- An input's part of the detectors REPLY (R145). -/
def inputReport (p : DetInput × InputType) : InputReport :=
  { type := p.2, grade := p.1.grade, worst := p.1.worst, fault := p.1.fault, mean := p.1.mean,
    samples := p.1.count }

/-- Each input's worst-since-read becomes its current grade (R145). -/
def resetWorst (s : State) : State := s.withDet (s.det.map (fun i => { i with worst := i.grade }))

/-- A detectors query: the REPLY is built from the records as they stood, and the worst-since-read are
then reset (R145, R169). -/
def queryDets (h : Header) (s : State) : State :=
  if addressed s h then
    respond s resetWorst
      (replyFrame h
        (.detectors ((s.det.zip s.setup.types).map inputReport) s.setup.window (bayGrade s)))
  else s

def execQueryDetectors (h : Header) (s : State) : Host.Outcome State Fault Refusal :=
  .next (receiveQuiet h (queryDets h) s)

/-- A neighbour's time since heard in whole state periods (R101, R177): as many as expiries counted if it
began with the timer; that or one fewer, but no fewer than 0, if it began within a period; a free value
if the timer was restarted since, or if it does not fit its field (assumption 2). -/
def periodsHeard (s : State) (sd : Side) : Nat :=
  let n := nbr s sd
  if n.phase = .restarted ∨ 65535 < n.sinceHeard then
    Config.periodsSinceHeard s.free (sideCode sd) n.sinceHeard
  else if n.phase = .within ∧ Config.periodComplete s.free (sideCode sd) = false then
    n.sinceHeard - 1
  else n.sinceHeard

/-- A side's part of the neighbours REPLY (R101, R177). -/
def neighbourReport (s : State) (sd : Side) : NeighbourReport :=
  let n := nbr s sd
  { station := n.station, role := n.role, zone := n.zone, present := n.present, lost := n.lost,
    free := n.free, reserve := n.reserve, nodeState := n.nodeState,
    periods := periodsHeard s sd }

/-- Clears a side's lost-since-last-read flag (R101). -/
def clearLost (s : State) (sd : Side) : State := modNbr s sd (fun n => { n with lost := false })

/-- A neighbours query: both entries as they stand, and both lost flags cleared; a free value is drawn
(R101, R169). -/
def queryNbrs (h : Header) (s : State) : State :=
  if addressed s h then
    respond s (fun t => (sides.foldl clearLost t).withFree (t.free + 1))
      (replyFrame h (.neighbours (neighbourReport s .west) (neighbourReport s .east)))
  else s

def execQueryNeighbours (h : Header) (s : State) : Host.Outcome State Fault Refusal :=
  .next (receiveQuiet h (queryNbrs h) s)

/-- All five counters at 0 (R170). -/
def clearCounters (s : State) : State :=
  s.withBus
    { s.bus with counters := { sent := 0, received := 0, voids := 0, losses := 0, dropped := 0 } }

/-- A counters query: a snapshot, and the counters cleared (R170). -/
def queryCounts (h : Header) (s : State) : State :=
  if addressed s h then respond s clearCounters (replyFrame h (.counters s.bus.counters)) else s

def execQueryCounters (h : Header) (s : State) : Host.Outcome State Fault Refusal :=
  .next (receiveQuiet h (queryCounts h) s)

end Sys2Proof.Machine
end

