-- ==== Sys2Proof/Machine/JobCmds.lean ====
section
/-! DEFINITION. The commands of the context table: FETCH, VERIFY and CANCEL (chapter 4). -/

namespace Sys2Proof.Machine

open Sys2Proof

/-! ### Judging a request (R60 to R63) -/

/-- A request as FETCH and VERIFY share it: class, flags and bin list (R60, R63). -/
structure JobRequest where
  cls : JobClass
  level : Nat
  chain : Bool
  restore : Bool
  notify : Bool
  shortOk : Bool
  bins : List BinId
  deriving DecidableEq, Repr

/-- The listed bins the node holds, in request order (R60). -/
def heldBins (s : State) (bins : List BinId) : List BinId :=
  bins.filter (fun b => isBinId b ∧ (recordOf s b).isSome)

/-- Whether a held bin may be claimed: RESIDENT, in a column not SUSPECT, and no target of a context
(R61). -/
def claimable (s : State) (b : BinId) : Bool :=
  (match residenceOf s b with
    | some (.resident c _) => !(column s c).suspect
    | _ => false) && !isTargetBut s none b

/-- The order-6 reason that fits a held bin that may not be claimed (R62). -/
def heldReason (s : State) (b : BinId) : RefuseReason :=
  match residenceOf s b with
  | some .away | some (.atChute _) | some .arriving => .binAway
  | some .inHand | some (.inSlot _) | some (.handing _) => .binMoving
  | _ => if isTargetBut s none b then .binBusy else .columnSuspect

/-- The bins a claim takes: every claimable held bin with CHAIN, else the first (R61). -/
def claimedBins (s : State) (q : JobRequest) : List BinId :=
  let l := (heldBins s q.bins).filter (claimable s)
  if q.chain then l else l.take 1

/-- The first reason of R62 that applies to a well-formed request for which the node holds a bin, or
none when it is claimed. -/
def claimRefusal (s : State) (q : JobRequest) : Option RefuseReason :=
  if notReady s then some .notReady
  else if fireStopped s ∨ s.fire.latch then some .fire
  else if q.level = 0 then some .classOff
  else if (freeCtx? s).isNone then some .tableFull
  else if claimedBins s q = [] then some (heldReason s ((heldBins s q.bins).headD 0))
  else none

/-! ### The claim (R38, R61) -/

/-- A bin's depth at this moment, 0 where it is not RESIDENT (R61). -/
def binDepth (s : State) (b : BinId) : Nat :=
  match residenceOf s b with
  | some (.resident c h) => depthOf s c h
  | _ => 0

/-- The CLAIM's payload: a bitmap over the four request positions and the claimed bins' depths. -/
def claimPayload (s : State) (q : JobRequest) (bins : List BinId) : Payload :=
  let at4 := [0, 1, 2, 3].map (fun i => (q.bins[i]?).filter (fun b => b ∈ bins))
  .claim (at4.map Option.isSome) (at4.map (fun o => (o.map (binDepth s)).getD 0))

/-- The kind of job a request's class runs. -/
def requestKind (q : JobRequest) : JobKind := if q.cls = .verify then .verify else .fetch

/-- The context of a claim, its targets WAITING (R38, R61, R63). -/
def claimCtx (h : Header) (q : JobRequest) (bins : List BinId) : Ctx :=
  { Ctx.blank with
    kind := requestKind q, cls := q.cls, level := q.level, origin := h.src, tag := h.tag,
    chain := q.chain, restore := q.restore, notify := q.notify, shortOk := q.shortOk,
    targets := bins.map (fun b => { bin := b, status := .waiting }), claimed := bins.length }

/-- Creates a context's entry in the FREE context of lowest number, READY in RUN and PAUSED in GUARD
(R37, R38). -/
def createReady (c : Ctx) (s : State) : State :=
  match freeCtx? s with
  | none => s
  | some n => readied (setCtx s n c) n

/-- Claims or refuses a well-formed request for which the node holds a bin (R61, R62). -/
def judgeRequest (h : Header) (q : JobRequest) (s : State) : State :=
  match claimRefusal s q with
  | some r => refuseAt s q.level h r
  | none =>
    let bins := claimedBins s q
    let claim := claimPayload s q bins
    respond s (createReady (claimCtx h q bins))
      (fun t => frameOf t q.level 0 h.src h.tag claim)

/-- A malformed request: refused when it is addressed to the node, or when the node holds a listed id
(R60). -/
def malformedRequest (h : Header) (level : Nat) (bins : List BinId) (s : State) : State :=
  if addressed s h ∨ heldBins s bins ≠ [] then refuseAt s level h .malformed else s

/-! ### FETCH (R60 to R62) -/

/-- Whether a FETCH's list is malformed (R60). -/
def badFetchList (count : Nat) (bins : List BinId) : Bool :=
  count ≠ bins.length ∨ bins.length < 1 ∨ 4 < bins.length ∨ bins.any (fun b => !isBinId b) ∨
    hasTwice bins

/-- The request of a FETCH of a class, by its flags (R60, R177). -/
def fetchRequest (s : State) (k : JobClass) (flags : Byte) (bins : List BinId) : JobRequest :=
  { cls := k, level := classLevel s k, chain := flags.getLsbD 0, restore := flags.getLsbD 1,
    notify := flags.getLsbD 2, shortOk := flags.getLsbD 3, bins }

/-- A FETCH whose class code names no class a FETCH may carry: malformed. The level of its refusal is
that of the class the code names, and a free value where it names none (R60, R62; assumption 3). -/
def badClassFetch (h : Header) (cls : Nat) (bins : List BinId) (s : State) : State :=
  match jobClassOf cls with
  | some k => malformedRequest h (classLevel s k) bins s
  | none =>
    if addressed s h ∨ heldBins s bins ≠ [] then
      refuseAt (s.withFree (s.free + 1)) (Config.unclassedLevel s.free cls).val h .malformed
    else s

/-- FETCH (R60 to R62). -/
def takeFetch (h : Header) (cls : Nat) (flags : Byte) (count : Nat) (bins : List BinId) (s : State) :
    State :=
  match fetchClassOf cls with
  | none => badClassFetch h cls bins s
  | some k =>
    if badFetchList count bins then malformedRequest h (classLevel s k) bins s
    else if heldBins s bins = [] then s
    else judgeRequest h (fetchRequest s k flags bins) s

def execFetch (h : Header) (cls : Nat) (flags : Byte) (count : Nat) (bins : List BinId) (s : State) :
    Host.Outcome State Fault Refusal :=
  .next (receive h (takeFetch h cls flags count bins) s)

/-! ### VERIFY (R63) -/

/-- Whether a VERIFY is malformed (R63). -/
def badVerifyList (count : Nat) (bins : List BinId) : Bool :=
  count ≠ bins.length ∨ bins.length ≠ 1 ∨ bins.any (fun b => !isBinId b)

/-- The request of a VERIFY: RESTORE set, CHAIN and SHORT_OK clear whatever the frame carries (R63). -/
def verifyRequest (s : State) (flags : Byte) (bins : List BinId) : JobRequest :=
  { cls := .verify, level := s.setup.verify, chain := false, restore := true,
    notify := flags.getLsbD 2, shortOk := false, bins }

/-- VERIFY (R63). -/
def takeVerify (h : Header) (flags : Byte) (count : Nat) (bins : List BinId) (s : State) : State :=
  if badVerifyList count bins then malformedRequest h s.setup.verify bins s
  else if heldBins s bins = [] then s
  else judgeRequest h (verifyRequest s flags bins) s

def execVerify (h : Header) (flags : Byte) (count : Nat) (bins : List BinId) (s : State) :
    Host.Outcome State Fault Refusal :=
  .next (receive h (takeVerify h flags count bins) s)

/-! ### CANCEL (R77) -/

/-- Whether a CANCEL matches a context: a FETCH or VERIFY of that origin and tag (R77). -/
def cancelMatches (h : Header) (c : Ctx) : Bool :=
  (c.kind = .fetch ∨ c.kind = .verify) ∧ c.state ≠ .free ∧ c.origin = h.src ∧ c.tag = h.tag

/-- Whether the set-down carries a context's transfer (R77). -/
def setDownCarries (s : State) (n : Nat) : Bool :=
  s.motion.xfer.any (fun x => x.setDown ∧ x.owner = some n)

/-- Deals with a matching context by its state (R77). -/
def cancelCtx (s : State) (n : Nat) : State :=
  match (ctxOf s n).state with
  | .ready | .stalled => endCtx s n .halted 0
  | .paused =>
    if setDownCarries s n then modCtx s n (fun c => { c with halt := true })
    else endCtx s n .halted 0
  | .active => modCtx s n (fun c => { c with halt := true })
  | .free | .bidding | .awaiting | .ending => s

/-- CANCEL; several contexts it matches end in ascending order of their numbers (R77; assumption 58). -/
def cancelJobs (h : Header) (s : State) : State :=
  (ctxNumbers.filter (fun n => cancelMatches h (ctxOf s n))).foldl cancelCtx s

def execCancel (h : Header) (s : State) : Host.Outcome State Fault Refusal :=
  .next (receive h (cancelJobs h) s)

end Sys2Proof.Machine
end

