-- ==== Sys2Proof/Machine/StowCmds.lean ====
section
/-! DEFINITION. The commands of the stow agent and the chute's clearing: STOW READY, OFFER, BID, REFUSE
OFFER_CLOSED, ADOPTED (chapter 5) and CHUTE CLEAR (R97, R138). -/

namespace Sys2Proof.Machine

open Sys2Proof

/-! ### STOW READY (R82, R83) -/

/-- Opens the offer and posts its OFFER (R83). -/
def stowOffer (desk : Station) (r : RecordBody) (s : State) : State :=
  respond s (fun t => openOffer t r.bin desk) (fun t => offerFrame t s.stow.nextTag r desk)

/-- STOW READY: taken by a node that holds a record of the bin (R82). -/
def takeStowReady (h : Header) (b : BinId) (desk : Station) (s : State) : State :=
  match recordOf s b with
  | none => s
  | some r =>
    if notReady s then refuseAt s s.setup.stow h .notReady
    else if r.residence ≠ .away ∨ s.inv.overflow = some b ∨ isOffered s b then
      refuseAt s s.setup.stow h .binState
    else stowOffer desk r.body s

def execStowReady (h : Header) (b : BinId) (desk : Station) (s : State) :
    Host.Outcome State Fault Refusal :=
  .next (receiveQuiet h (takeStowReady h b desk) s)

/-! ### OFFER, BID, REFUSE OFFER_CLOSED, ADOPTED (R84 to R90) -/

def execOffer (h : Header) (f : OfferFrame) (s : State) : Host.Outcome State Fault Refusal :=
  .next (receiveQuiet h (fun t => takeOffer t f h.tag) s)

def execBid (h : Header) (holder : Station) (_b : BinId) (s : State) :
    Host.Outcome State Fault Refusal :=
  .next (receive h (fun t => takeBid t h.src holder h.tag) s)

def execRefuseOfferClosed (h : Header) (s : State) : Host.Outcome State Fault Refusal :=
  .next (receive h (fun t => takeOfferClosed t h.src h.tag) s)

def execAdopted (h : Header) (b : BinId) (s : State) : Host.Outcome State Fault Refusal :=
  .next (receive h (fun t => takeAdopted t h.src b) s)

/-! ### CHUTE CLEAR (R97, R138) -/

/-- The STOW contexts whose record stands AT_CHUTE IN (R97). -/
def chuteCtxs (s : State) : List Nat :=
  ctxNumbers.filter (fun n =>
    match (ctxOf s n).carried with
    | some (.own b) => (ctxOf s n).kind = .stow ∧ residenceOf s b = some (.atChute .inward)
    | _ => false)

/-- Whether the put-away of an AT_CHUTE IN record is in flight: its context is ACTIVE with a transfer from
the chute that has not picked (R97, R138; assumption 67). -/
def chuteJobActive (s : State) : Bool :=
  (currentXfer s).any (fun x =>
    x.src = .chute ∧ x.owner.any (fun n => (ctxOf s n).state = .active ∧ n ∈ chuteCtxs s))

/-- The STOW contexts of the AT_CHUTE IN records end REMOVED, and those records become AWAY (R97). -/
def clearInbound (s : State) : State :=
  (chuteCtxs s).foldl (fun t n => endCtx t n .removed 0) (chuteRecordsAway s .inward)

/-- The chute is emptied by its state (R138). -/
def clearChute (s : State) : State :=
  match s.motion.chute with
  | .empty => s
  | .outbound => chuteEmptied (chuteRecordsAway s .outward)
  | .inbound => chuteEmptied (clearInbound s)
  | .blocked => chuteEmptied (clearInbound (chuteRecordsAway s .outward))

/-- The blocked reason a CHUTE CLEAR reports cleared (R138). -/
def clearedReason (s : State) : BlockReason :=
  if s.motion.chute = .blocked then s.motion.reason else .none

/-- CHUTE CLEAR (R138). -/
def takeChuteClear (h : Header) (s : State) : State :=
  if notReady s then refuseAt s 2 h .notReady
  else if (s.motion.chute = .inbound ∨ s.motion.chute = .blocked) ∧ chuteJobActive s then
    refuseAt s 2 h .binMoving
  else
    respond s clearChute
      (fun t => replyFrame h (.chuteClear t.motion.chute (clearedReason s)) t)

def execChuteClear (h : Header) (s : State) : Host.Outcome State Fault Refusal :=
  .next (receive h (takeChuteClear h) s)

end Sys2Proof.Machine
end

