-- ==== Sys2Proof/Machine/ItemCmds.lean ====
section
/-! DEFINITION. The commands of the loan unit: LEND, REFILL, WITHDRAW, ACCESSION and RETURN QUERY
(chapter 7). -/

namespace Sys2Proof.Machine

open Sys2Proof

/-- An item slot of a record. -/
def itemSlot (r : RecordBody) (i : Nat) : ItemSlot := r.slots.getD i { state := .empty, item := 0 }

/-- A record with one item slot replaced. -/
def withItem (r : RecordBody) (i : Nat) (v : ItemSlot) : RecordBody :=
  { r with slots := r.slots.set i v }

/-- The refusal of an item operation by R115: `accepts` is the slot states it takes, and `mismatch`
the order-5 test with its reason. -/
def itemRefusal (s : State) (r : BinRecord) (slot : Nat) (item : ItemId)
    (accepts : ItemState → Bool) (mismatch : Option RefuseReason) : Option RefuseReason :=
  if 7 < slot ∨ item = 0 then some .malformed
  else if notReady s then some .notReady
  else if r.residence ≠ .away then some .notAway
  else if accepts (itemSlot r.body slot).state = false then some .slotState
  else mismatch

/-- WRONG_ITEM when the slot's item id differs from the frame's (R115). -/
def wrongItem (r : BinRecord) (slot : Nat) (item : ItemId) : Option RefuseReason :=
  if (itemSlot r.body slot).item = item then none else some .wrongItem

/-- Stores an item slot's new content in a bin's record (R114). -/
def setItem (b : BinId) (slot : Nat) (v : ItemSlot) (s : State) : State :=
  modRecord s b (fun r => { r with body := withItem r.body slot v })

/-- Answers an accepted item operation with the record as stored after it (R114). -/
def answerItem (h : Header) (b : BinId) (old : BinRecord) (act : State → State) (s : State) : State :=
  respond s act (fun t => replyFrame h (.record ((recordOf t b).getD old)) t)

/-- An item operation: silence where no record is held, as for an id that is no bin id, else its refusal or
its change (R10, R114, R115; assumption 40). -/
def itemOp (h : Header) (b : BinId) (slot : Nat) (v : ItemSlot)
    (refusal : State → BinRecord → Option RefuseReason) (s : State) : State :=
  match (recordOf s b).filter (fun _ => isBinId b) with
  | none => s
  | some r =>
    match refusal s r with
    | some why => refuseAt s 2 h why
    | none => answerItem h b r (setItem b slot v) s

/-! ### LEND and REFILL (R116) -/

def lendRefusal (slot : Nat) (item : ItemId) (s : State) (r : BinRecord) : Option RefuseReason :=
  itemRefusal s r slot item (· = .inBin) (wrongItem r slot item)

def execLend (h : Header) (b : BinId) (slot : Nat) (item : ItemId) (s : State) :
    Host.Outcome State Fault Refusal :=
  .next (receiveQuiet h (itemOp h b slot { state := .lentOut, item } (lendRefusal slot item)) s)

def refillRefusal (slot : Nat) (item : ItemId) (s : State) (r : BinRecord) : Option RefuseReason :=
  itemRefusal s r slot item (· = .lentOut) (wrongItem r slot item)

def execRefill (h : Header) (b : BinId) (slot : Nat) (item : ItemId) (s : State) :
    Host.Outcome State Fault Refusal :=
  .next (receiveQuiet h (itemOp h b slot { state := .inBin, item } (refillRefusal slot item)) s)

/-! ### WITHDRAW (R117) -/

def withdrawRefusal (slot : Nat) (item : ItemId) (s : State) (r : BinRecord) : Option RefuseReason :=
  itemRefusal s r slot item (fun i => i = .inBin ∨ i = .clash) (wrongItem r slot item)

def execWithdraw (h : Header) (b : BinId) (slot : Nat) (item : ItemId) (s : State) :
    Host.Outcome State Fault Refusal :=
  .next (receiveQuiet h
    (itemOp h b slot { state := .empty, item := 0 } (withdrawRefusal slot item)) s)

/-! ### ACCESSION (R118) -/

/-- DUPLICATE when the item id stands IN or OUT in any record the node holds (R118). -/
def accessionRefusal (slot : Nat) (item : ItemId) (s : State) (r : BinRecord) :
    Option RefuseReason :=
  itemRefusal s r slot item (· = .empty) (if itemHeld s none item then some .duplicate else none)

def execAccession (h : Header) (b : BinId) (slot : Nat) (item : ItemId) (s : State) :
    Host.Outcome State Fault Refusal :=
  .next (receiveQuiet h (itemOp h b slot { state := .inBin, item } (accessionRefusal slot item)) s)

/-! ### RETURN QUERY (R121) -/

/-- The record and the number of its item slot that is OUT with an item id (R121). -/
def findLoan (s : State) (item : ItemId) : Option (BinRecord × Nat) :=
  s.inv.records.findSome? (fun r =>
    (r.body.slots.findIdx? (fun i => i.state = .lentOut ∧ i.item = item)).map (fun k => (r, k)))

/-- RETURN QUERY: answered where an item slot is OUT with the item, in every node state (R121). -/
def takeReturnQuery (h : Header) (item : ItemId) (s : State) : State :=
  if item = 0 then s
  else
    match findLoan s item with
    | none => s
    | some (r, k) =>
      respond s id (fun t =>
        frameOf t 2 0 h.src h.tag (.returnClaim item r.body.bin k r.residence))

def execReturnQuery (h : Header) (item : ItemId) (s : State) : Host.Outcome State Fault Refusal :=
  .next (receiveQuiet h (takeReturnQuery h item) s)

end Sys2Proof.Machine
end

