-- ==== Sys2Proof/Machine/SlotCmds.lean ====
section
/-! DEFINITION. The commands of the slot agent: SLOT RECLAIM, SLOT CLAIM, SLOT GRANT, SLOT REFUSE, SLOT
LOADED and SLOT TAKEN (chapter 6). -/

namespace Sys2Proof.Machine

open Sys2Proof

/-! ### SLOT RECLAIM (R112) -/

/-- The refusal of a SLOT RECLAIM that names a side, by R112's orders 2 to 6. -/
def reclaimRefusal (s : State) (sd : Side) : Option RefuseReason :=
  if notReady s then some .notReady
  else if fireStopped s ∨ s.fire.latch then some .fire
  else if (view s sd).state ≠ .loadedOut then some .slotState
  else if reclaimOn s sd then some .binBusy
  else if (freeCtx? s).isNone then some .tableFull
  else none

/-- Withdraws a SLOT LOADED that waits or is pending on a side (R112). -/
def withdrawLoaded (s : State) (sd : Side) : State :=
  let t := modView s sd (fun v => { v with waiting := v.waiting.filter (fun w => w ≠ .loaded) })
  match (view t sd).pend with
  | none => t
  | some f =>
    if f.frame.payload.isSlotLoaded then slotFrameLeaves (withdrawTx t f.seq) sd else t

/-- The RECLAIM context of an accepted SLOT RECLAIM (R38, R112). -/
def reclaimCtx (h : Header) (sd : Side) (b : BinId) : Ctx :=
  { Ctx.blank with
    kind := .reclaim, cls := .reclaim, level := 10, origin := h.src, tag := h.tag,
    side := some sd, carried := some (.own b) }

/-- An accepted SLOT RECLAIM (R112). -/
def acceptReclaim (h : Header) (sd : Side) (s : State) : State :=
  match freeCtx? s, recordAt s (.inSlot sd) with
  | some n, some r =>
    let t := readied (setCtx s n (reclaimCtx h sd r.body.bin)) n
    modView (withdrawLoaded t sd) sd (fun v => { v with ctx := some n, resendOwed := false })
  | _, _ => s

/-- SLOT RECLAIM (R112). -/
def takeReclaim (h : Header) (side : Nat) (s : State) : State :=
  match sideOf side with
  | none => refuseAt s 10 h .malformed
  | some sd =>
    match reclaimRefusal s sd with
    | some r => refuseAt s 10 h r
    | none => acceptReclaim h sd s

def execSlotReclaim (h : Header) (side : Nat) (s : State) : Host.Outcome State Fault Refusal :=
  .next (receive h (takeReclaim h side) s)

/-! ### Frames from the neighbour on a side (R102) -/

/-- Takes a slot frame for the side its source gives; one from any other station is ignored and
counted with the requests dropped (R102). -/
def onSide (h : Header) (act : Side → State → State) (s : State) : State :=
  match sideOfStation s h.src with
  | none => countDropped s
  | some sd => act sd s

/-! ### SLOT CLAIM (R105, R106) -/

/-- The reason a SLOT CLAIM is refused, by R106's orders 3 to 7, or none when it is granted. -/
def claimReason (s : State) (sd : Side) (b : BinId) : Option SlotRefuseReason :=
  if s.fire.node ≠ .run ∨ gradeWarns s ∨ s.fire.latch ∨ (view s sd).fireClosed ∨ notBay s sd then
    some .hazard
  else if s.setup.spill = 0 then some .classOff
  else if canCommit s = false then some .tableFull
  else if freePositions s < s.setup.reserve + 1 then some .noRoom
  else if holdsBin s b then some .busy
  else none

/-- The own claim, still pending, is withdrawn for the neighbour's: the view becomes FREE, and its
context waits for the judgement; should that grant the neighbour's claim, the FREE passed through
wakes no NO_ROOM context (R46, R105; assumption 55). -/
def yieldClaim (s : State) (sd : Side) : State :=
  modView (unpostClaim s sd) sd (fun v =>
    { v with
      state := .free, tag := 0, ctx := none, bin := none, claimTimer := none, raced := v.ctx })

/-- The view stays FREE after a judgement: had a claim been withdrawn for it, that change to FREE wakes
NO_ROOM and the withdrawn claim counts as refused (R46, R105). -/
def judgedFree (s : State) (sd : Side) : State :=
  if (view s sd).raced.isNone then s
  else settleRace (if sideClosed s sd then s else wakeOn s .noRoom) sd

/-- The SPILL context of a grant (R38, R106). -/
def spillCtx (s : State) (h : Header) (sd : Side) : Ctx :=
  { Ctx.blank with
    state := .awaiting, kind := .spill, cls := .spill, level := s.setup.spill, origin := h.src,
    tag := h.tag, side := some sd }

/-- A grant: a SPILL context AWAITING, the side THEIRS, SLOT GRANT posted (R106 order 8). -/
def grantSide (s : State) (h : Header) (sd : Side) (b : BinId) (n : Nat) : State :=
  postSlot (modView (setCtx s n (spillCtx s h sd)) sd (fun v =>
    { v with state := .theirs, tag := h.tag, ctx := some n, bin := some b })) sd h.tag (.slotGrant b)

/-- Judges a SLOT CLAIM by R106's orders 3 to 8. A grant that cannot be posted leaves the side as it
is. -/
def judgeClaim (h : Header) (b : BinId) (sd : Side) (s : State) : State :=
  match claimReason s sd b with
  | some r => judgedFree (answerSlot s sd h.tag (.slotRefuse r)) sd
  | none =>
    match (view s sd).pend, freeCtx? s with
    | none, some n => grantSide s h sd b n
    | _, _ => judgedFree s sd

/-- SLOT CLAIM from the neighbour on a side (R106). -/
def takeClaim (h : Header) (b : BinId) (sd : Side) (s : State) : State :=
  match (view s sd).state with
  | .free => judgeClaim h b sd s
  | .theirs => judgeClaim h b sd (voidGrant s sd)
  | .claiming =>
    if claimPending s sd then judgeClaim h b sd (yieldClaim s sd)
    else answerSlot s sd h.tag (.slotRefuse .busy)
  | .mine | .loadedOut | .loadedIn => answerSlot s sd h.tag (.slotRefuse .busy)

def execSlotClaim (h : Header) (b : BinId) (s : State) : Host.Outcome State Fault Refusal :=
  .next (receive h (onSide h (takeClaim h b)) s)

/-! ### SLOT GRANT (R104) -/

/-- A grant of the side's claim: MINE, with the context woken to load it; with no context left, the
grant is released (R104, R107). -/
def grantTaken (s : State) (sd : Side) : State :=
  match (view s sd).ctx with
  | none => answerSlot (freeView s sd) sd (view s sd).tag (.slotRefuse .busy)
  | some n =>
    wakeWhere (modView s sd (fun v => { v with state := .mine, claimTimer := none }))
      (fun m w => m = n ∧ w.isSlotWait)

/-- SLOT GRANT from the neighbour on a side; a stale one is released (R104). -/
def takeGrant (h : Header) (sd : Side) (s : State) : State :=
  if (view s sd).state = .claiming ∧ (view s sd).tag = h.tag then grantTaken s sd
  else answerSlot s sd h.tag (.slotRefuse .busy)

def execSlotGrant (h : Header) (_b : BinId) (s : State) : Host.Outcome State Fault Refusal :=
  .next (receive h (onSide h (takeGrant h)) s)

/-! ### SLOT REFUSE (R104, R108, R111) -/

/-- SLOT REFUSE from the neighbour on a side, whatever its reason: with the view's tag it refuses a claim
or a load, or releases a grant; any other is stale (R104, R108, R111). -/
def takeSlotRefuse (h : Header) (sd : Side) (s : State) : State :=
  if (view s sd).tag = h.tag then
    match (view s sd).state with
    | .claiming => claimRefused s sd
    | .theirs => voidGrant s sd
    | .loadedOut => modView s sd (fun v => { v with loadRefused := true })
    | .free | .mine | .loadedIn => s
  else s

def execSlotRefuse (h : Header) (_reason : Nat) (s : State) : Host.Outcome State Fault Refusal :=
  .next (receive h (onSide h (takeSlotRefuse h)) s)

/-! ### SLOT LOADED (R108) -/

/-- Whether the node holds a bin RESIDENT or IN_HAND (R108 order 1). -/
def inBay (s : State) (b : BinId) : Bool :=
  match residenceOf s b with
  | some (.resident _ _) | some .inHand => true
  | _ => false

/-- The load of a granted side: LOADED_IN, the SPILL context carrying the record and READY, or PAUSED
outside RUN; a claim withdrawn for a race is settled (R105, R108 order 3). -/
def loadGranted (s : State) (sd : Side) (n : Nat) (r : RecordBody) : State :=
  let t := modView s sd (fun v => { v with state := .loadedIn })
  settleRace (readied (modCtx t n (fun c => { c with carried := some (.foreign r) })) n) sd

/-- A load without a grant that would be granted: a SPILL context carrying the record, READY, and the
view LOADED_IN (R108 order 4). -/
def loadUngranted (s : State) (h : Header) (sd : Side) (n : Nat) (r : RecordBody) : State :=
  let c := { spillCtx s h sd with carried := some (.foreign r) }
  modView (readied (setCtx s n c) n) sd (fun v =>
    { v with state := .loadedIn, tag := h.tag, ctx := some n, bin := some r.bin })

/-- A SLOT LOADED that reaches a FREE view (R108 orders 4 and 5). -/
def loadFree (h : Header) (r : RecordBody) (sd : Side) (s : State) : State :=
  match claimReason s sd r.bin, freeCtx? s with
  | none, some n => loadUngranted s h sd n r
  | some why, _ => answerSlot s sd h.tag (.slotRefuse why)
  | none, none => answerSlot s sd h.tag (.slotRefuse .tableFull)

/-- Whether a SLOT LOADED is the load a THEIRS view awaits (R108 order 3). -/
def loadAwaited (s : State) (h : Header) (sd : Side) (b : BinId) : Bool :=
  (view s sd).state = .theirs ∧ (view s sd).tag = h.tag ∧ (view s sd).bin = some b ∧
    (recordOf s b).isNone

/-- A SLOT LOADED that fits no exchange: SLOT REFUSE BUSY, and a THEIRS view is voided (R108 order 6,
R111). -/
def loadUnfit (h : Header) (sd : Side) (s : State) : State :=
  voidGrant (answerSlot s sd h.tag (.slotRefuse .busy)) sd

/-- SLOT LOADED from the neighbour on a side (R108). -/
def takeLoaded (h : Header) (r : RecordBody) (sd : Side) (s : State) : State :=
  if inBay s r.bin then postSlotData s sd (.taken r.bin h.tag)
  else if (view s sd).state = .loadedIn ∧ (view s sd).bin = some r.bin then
    modView s sd (fun v => { v with tag := h.tag })
  else if loadAwaited s h sd r.bin then
    match (view s sd).ctx with
    | some n => loadGranted s sd n r
    | none => loadUnfit h sd s
  else if (view s sd).state = .free then loadFree h r sd s
  else loadUnfit h sd s

def execSlotLoaded (h : Header) (r : RawRecord) (s : State) : Host.Outcome State Fault Refusal :=
  .next (receive h (onSide h (takeLoaded h (bodyOf r))) s)

/-! ### SLOT TAKEN (R110) -/

/-- The RECLAIM context of a side. -/
def reclaimOf (s : State) (sd : Side) : Option Nat :=
  ctxNumbers.find? (fun n =>
    let c := ctxOf s n
    c.state ≠ .free ∧ c.state ≠ .ending ∧ c.kind = .reclaim ∧ c.side = some sd)

/-- A context whose bin the other side has taken: an ACTIVE one waits for the drive's report, any other
ends REMOVED at once (R110). -/
def removeOrMark (s : State) (n : Nat) : State :=
  if (ctxOf s n).state = .active then modCtx s n (fun c => { c with takenAway := true })
  else endCtx s n .removed 0

/-- A sender's loaded bin is taken: its record leaves the node, the view becomes FREE, and a RECLAIM
context that has not picked ends REMOVED (R110). -/
def loadTaken (s : State) (sd : Side) : State :=
  let t := match recordAt s (.inSlot sd) with
    | none => s
    | some r => dropRecord s r.body.bin
  match reclaimOf s sd with
  | none => freeView t sd
  | some n => freeView (removeOrMark t n) sd

/-- The sender took its bin back from a LOADED_IN view (R110). -/
def reclaimedBySender (s : State) (sd : Side) : State :=
  match (view s sd).ctx with
  | none => freeView s sd
  | some n =>
    if (ctxOf s n).state = .active then removeOrMark s n else freeView (removeOrMark s n) sd

/-- SLOT TAKEN from the neighbour on a side (R110). -/
def takeTaken (h : Header) (b : BinId) (sd : Side) (s : State) : State :=
  match (view s sd).state with
  | .loadedOut => if (view s sd).tag = h.tag then loadTaken s sd else s
  | .theirs => if (view s sd).tag = h.tag ∨ (view s sd).bin = some b then voidGrant s sd else s
  | .loadedIn =>
    if (view s sd).tag = h.tag ∨ (view s sd).bin = some b then reclaimedBySender s sd else s
  | .free | .claiming | .mine => s

def execSlotTaken (h : Header) (b : BinId) (s : State) : Host.Outcome State Fault Refusal :=
  .next (receive h (onSide h (takeTaken h b)) s)

end Sys2Proof.Machine
end

