-- ==== Sys2Proof/Machine/FireCmds.lean ====
section
/-! DEFINITION. The commands of the fire controller and of the neighbour table: RESTART, FIRE, FIRE
CLEAR, ALARM, ANNOUNCE and STATE (chapters 10 and 11). -/

namespace Sys2Proof.Machine

open Sys2Proof

/-! ### RESTART (R134, R158) -/

/-- The restart from SAFE: the fire-stop mark and SAFE_WITH_FAULT are cleared, the node enters RESUMING,
POWER ON and the reconcile PARK are sent (R158). -/
def fireRestart (s : State) : State :=
  let s1 := s.withInv { s.inv with fireStop := false }
  let s2 := s1.withFire
    { s1.fire with node := .resuming, safeWithFault := false, opening := false }
  parkReconcile (powerOn (s2.withStartup { s2.startup with sense := none, homed := none }))

/-- The start of a drive recovery: POWER ON and the reconcile PARK (R134). -/
def driveRecovery (s : State) : State :=
  parkReconcile (powerOn (s.withMotion { s.motion with recovery := true }))

/-- The reason a RESTART is refused, by the node state and the gantry (R134, R158). -/
def restartRefusal (s : State) : Option RefuseReason :=
  match s.fire.node with
  | .homing | .survey | .joining | .resuming => some .notReady
  | .shutdown => some .fire
  | .safe => if s.fire.zones = 0 ∧ s.fire.latch = false then none else some .fireActive
  | .run | .guarded =>
    if s.motion.recovery then some .binBusy
    else if s.motion.gantry = .faulted then none
    else some .notSafe

/-- RESTART, when addressed to the node; an accepted one posts no answer (R134, R158). -/
def takeRestart (h : Header) (s : State) : State :=
  if addressed s h = false then s
  else
    match restartRefusal s with
    | some r => refuseAt s 2 h r
    | none => if s.fire.node = .safe then fireRestart s else driveRecovery s

def execRestart (h : Header) (s : State) : Host.Outcome State Fault Refusal :=
  .next (receive h (takeRestart h) s)

/-! ### FIRE, FIRE CLEAR, ALARM (R144, R149) -/

def execFire (h : Header) (zones : ZoneSet) (s : State) : Host.Outcome State Fault Refusal :=
  .next (receiveFire h (fun t => addZones t zones) s)

/-- The grader's part of a FIRE CLEAR naming the own zone: every input NORMAL with an empty window
(R144). -/
def clearGrades (s : State) : State :=
  s.withDet (s.det.map (fun i => emptyWindow { i with grade := .normal }))

/-- FIRE CLEAR: refused while the fire line latch is ACTIVE, else the zones leave the set, and a side that
they no longer keep closed in GUARD is asked OPEN (R144, R149, R153). -/
def takeFireClear (h : Header) (zones : ZoneSet) (s : State) : State :=
  if s.fire.latch then refuseAt s 2 h .fireActive
  else
    let t := s.withFire { s.fire with zones := s.fire.zones &&& ~~~zones }
    reopenLeft s (decideState (if zones.getLsbD s.board.zone.toNat then
      gradeChanged (bayGrade s) (clearGrades t) else t))

def execFireClear (h : Header) (zones : ZoneSet) (s : State) : Host.Outcome State Fault Refusal :=
  .next (receiveFire h (takeFireClear h zones) s)

/-- ALARM: the zone it carries joins the set; a number that is no zone is ignored (R149). -/
def takeAlarm (zone : Nat) (s : State) : State :=
  match zoneOf zone with
  | none => s
  | some z => addZones s (zoneSet z)

def execAlarm (h : Header) (zone : Nat) (s : State) : Host.Outcome State Fault Refusal :=
  .next (receiveFire h (takeAlarm zone) s)

/-! ### ANNOUNCE and STATE (R46, R101, R111) -/

/-- A neighbour entry after an ANNOUNCE: the role, the zone, the free positions and JOINING (R101). -/
def announceEntry (f : AnnounceFrame) (n : Neighbour) : Neighbour :=
  { n with
    role := (roleOf f.role).getD n.role
    zone := (zoneOf f.zone).or n.zone
    free := some f.free
    nodeState := some .joining }

/-- ANNOUNCE of a neighbour: its entry changes, a THEIRS view toward it is voided and a LOADED_OUT one is
marked resend owed; the node state is decided, and in GUARD a side whose zone is no longer afire is asked
OPEN (R101, R111, R152, R153). -/
def takeAnnounce (h : Header) (f : AnnounceFrame) (s : State) : State :=
  match sideOfStation s h.src with
  | none => s
  | some sd =>
    let t := changeOverlay sd (fun u => modNbr u sd (announceEntry f)) s
    reopenLeft s (decideState (voidGrant (oweResend t sd) sd))

def execAnnounce (h : Header) (f : AnnounceFrame) (s : State) : Host.Outcome State Fault Refusal :=
  .next (receive h (takeAnnounce h f) s)

/-- A neighbour entry after a STATE: role BAY and the values advertised (R101). -/
def stateEntry (f : StateFrame) (n : Neighbour) : Neighbour :=
  { n with
    role := .bay
    zone := (zoneOf f.zone).or n.zone
    free := some f.free
    reserve := some f.reserve
    nodeState := (nodeStateOf f.nodeState).or n.nodeState }

/-- Whether a STATE shows RUN and free positions of at least its reserve plus 1 (R46). -/
def showsRoom (f : StateFrame) : Bool := nodeStateOf f.nodeState = some .run ∧ f.reserve + 1 ≤ f.free

/-- STATE of a neighbour: its entry changes, NO_ROOM is woken when it shows room, the node state is decided,
and in GUARD a side whose zone is no longer afire is asked OPEN (R46, R101, R152, R153). -/
def takeState (h : Header) (f : StateFrame) (s : State) : State :=
  match sideOfStation s h.src with
  | none => s
  | some sd =>
    let t := changeOverlay sd (fun u => modNbr u sd (stateEntry f)) s
    reopenLeft s (decideState (if showsRoom f then wakeOn t .noRoom else t))

def execState (h : Header) (f : StateFrame) (s : State) : Host.Outcome State Fault Refusal :=
  .next (receive h (takeState h f) s)

end Sys2Proof.Machine
end

