-- ==== Sys2Proof/Machine/Dispatch.lean ====
section
/-! DEFINITION. One arm per command. -/

namespace Sys2Proof.Machine

open Sys2Proof

def exec (i : Instr) (s : State) : Host.Outcome State Fault Refusal :=
  match i with
  | .reset pins firePin => Sys2Proof.Machine.execReset pins firePin s
  | .fireLineChange level => Sys2Proof.Machine.execFireLineChange level s
  | .sensorSample input reading => Sys2Proof.Machine.execSensorSample input reading s
  | .storeUpdateComplete => Sys2Proof.Machine.execStoreUpdateComplete s
  | .picked tag => Sys2Proof.Machine.execPicked tag s
  | .placed pos => Sys2Proof.Machine.execPlaced pos s
  | .abandoned => Sys2Proof.Machine.execAbandoned s
  | .parked => Sys2Proof.Machine.execParked s
  | .homed hand => Sys2Proof.Machine.execHomed hand s
  | .shutterDone sh pos => Sys2Proof.Machine.execShutterDone sh pos s
  | .faultEmptyPick => Sys2Proof.Machine.execFaultEmptyPick s
  | .faultOccupiedPlace => Sys2Proof.Machine.execFaultOccupiedPlace s
  | .faultBlocked => Sys2Proof.Machine.execFaultBlocked s
  | .faultDrive => Sys2Proof.Machine.execFaultDrive s
  | .arrival tag => Sys2Proof.Machine.execArrival tag s
  | .chuteTaken => Sys2Proof.Machine.execChuteTaken s
  | .senseReport occupied => Sys2Proof.Machine.execSenseReport occupied s
  | .motionTimerExpiry => Sys2Proof.Machine.execMotionTimerExpiry s
  | .shutterTimerExpiry sh => Sys2Proof.Machine.execShutterTimerExpiry sh s
  | .decayTimerExpiry => Sys2Proof.Machine.execDecayTimerExpiry s
  | .statePeriodExpiry => Sys2Proof.Machine.execStatePeriodExpiry s
  | .neighbourAbsent side => Sys2Proof.Machine.execNeighbourAbsent side s
  | .claimTimerExpiry side => Sys2Proof.Machine.execClaimTimerExpiry side s
  | .bidTimerExpiry ctx => Sys2Proof.Machine.execBidTimerExpiry ctx s
  | .closeTimerExpiry tag => Sys2Proof.Machine.execCloseTimerExpiry tag s
  | .handoverTimerExpiry bin => Sys2Proof.Machine.execHandoverTimerExpiry bin s
  | .arrivalTimerExpiry ctx => Sys2Proof.Machine.execArrivalTimerExpiry ctx s
  | .transmitContend back => Sys2Proof.Machine.execTransmitContend back s
  | .ownFrameSent => Sys2Proof.Machine.execOwnFrameSent s
  | .frameVoided => Sys2Proof.Machine.execFrameVoided s
  | .receivedFrameIgnored h f => Sys2Proof.Machine.execReceivedFrameIgnored h f s
  | .setup h f => Sys2Proof.Machine.execSetup h f s
  | .columnLoad h column count bins => Sys2Proof.Machine.execColumnLoad h column count bins s
  | .loadEnd h => Sys2Proof.Machine.execLoadEnd h s
  | .fetch h cls flags count bins => Sys2Proof.Machine.execFetch h cls flags count bins s
  | .verify h flags count bins => Sys2Proof.Machine.execVerify h flags count bins s
  | .cancel h => Sys2Proof.Machine.execCancel h s
  | .stowReady h bin desk => Sys2Proof.Machine.execStowReady h bin desk s
  | .lend h bin slot item => Sys2Proof.Machine.execLend h bin slot item s
  | .refill h bin slot item => Sys2Proof.Machine.execRefill h bin slot item s
  | .withdraw h bin slot item => Sys2Proof.Machine.execWithdraw h bin slot item s
  | .accession h bin slot item => Sys2Proof.Machine.execAccession h bin slot item s
  | .returnQuery h item => Sys2Proof.Machine.execReturnQuery h item s
  | .chuteClear h => Sys2Proof.Machine.execChuteClear h s
  | .slotReclaim h side => Sys2Proof.Machine.execSlotReclaim h side s
  | .restart h => Sys2Proof.Machine.execRestart h s
  | .queryBinRecord h bin => Sys2Proof.Machine.execQueryBinRecord h bin s
  | .queryColumn h arg => Sys2Proof.Machine.execQueryColumn h arg s
  | .queryJobSummary h => Sys2Proof.Machine.execQueryJobSummary h s
  | .queryDetectors h => Sys2Proof.Machine.execQueryDetectors h s
  | .queryNeighbours h => Sys2Proof.Machine.execQueryNeighbours h s
  | .queryCounters h => Sys2Proof.Machine.execQueryCounters h s
  | .fire h zones => Sys2Proof.Machine.execFire h zones s
  | .fireClear h zones => Sys2Proof.Machine.execFireClear h zones s
  | .alarm h zone => Sys2Proof.Machine.execAlarm h zone s
  | .announce h f => Sys2Proof.Machine.execAnnounce h f s
  | .state h f => Sys2Proof.Machine.execState h f s
  | .offer h f => Sys2Proof.Machine.execOffer h f s
  | .bid h holder bin => Sys2Proof.Machine.execBid h holder bin s
  | .refuseOfferClosed h => Sys2Proof.Machine.execRefuseOfferClosed h s
  | .recordHandover h r => Sys2Proof.Machine.execRecordHandover h r s
  | .recordSurvey h r => Sys2Proof.Machine.execRecordSurvey h r s
  | .adopted h bin => Sys2Proof.Machine.execAdopted h bin s
  | .slotClaim h bin => Sys2Proof.Machine.execSlotClaim h bin s
  | .slotGrant h bin => Sys2Proof.Machine.execSlotGrant h bin s
  | .slotRefuse h reason => Sys2Proof.Machine.execSlotRefuse h reason s
  | .slotLoaded h r => Sys2Proof.Machine.execSlotLoaded h r s
  | .slotTaken h bin => Sys2Proof.Machine.execSlotTaken h bin s
  | .receiveFilterDiscard h => Sys2Proof.Machine.execReceiveFilterDiscard h s

end Sys2Proof.Machine
end

