-- ==== Sys2Proof/Safety.lean ====
section
/-! DEFINITION. The laws of the device that every step keeps, and the words the statements use: blocks left
alone, events whose end settles nothing, frames taken, answers posted. -/

namespace Sys2Proof.Machine

open Sys2Proof

/-! ### Laws every step keeps -/

/-- The bin records of the picture, of the retained image and of every update being written stand in the
canonical form. -/
abbrev RecordsSorted (s : State) : Prop :=
  sortedRecords s.inv.records ∧ sortedRecords s.store.image.records ∧
    ∀ u ∈ s.store.queue, sortedRecords u.image.records

/-- R144, R152: an input at ALARM has put the own zone into the zones-afire set, and a node whose own zone
is in the set is in SHUTDOWN or SAFE. -/
abbrev FireLaw (s : State) : Prop :=
  ((∃ i ∈ s.det, i.grade = .alarm) → zoneAfire s s.board.zone = true) ∧
    (zoneAfire s s.board.zone = true → s.fire.node = .shutdown ∨ s.fire.node = .safe)

/-- Every shutter was last asked CLOSE. -/
abbrev AllAskedClosed (s : State) : Prop := ∀ sh ∈ shutterIds, (shutter s sh).asked = some .closed

/-- R22, R156, R157: the fire-stop mark is set in SHUTDOWN and SAFE; a shutdown sequence that has reached the
shutters has asked them CLOSE; in SAFE drive power is off and every shutter has been asked CLOSE. -/
abbrev SafeLaw (s : State) : Prop :=
  (s.fire.node = .shutdown ∨ s.fire.node = .safe → s.inv.fireStop = true) ∧
    (s.fire.node = .shutdown ∧ s.fire.closing = true → AllAskedClosed s) ∧
    (s.fire.node = .safe → s.motion.power = false ∧ AllAskedClosed s)

/-- R163, R164: in HOMING no homing put-away is pending. R20, R153: in HOMING and GUARD, where no step begins,
no transfer is held back for a store update. -/
abbrev MotionLaw (s : State) : Prop :=
  (s.fire.node = .homing → s.motion.putAway = none) ∧
    (s.fire.node = .homing ∨ s.fire.node = .guarded → s.motion.held = none)

/-- The tables have the sizes the manual gives them: sixteen contexts (R37), ten ready lists (R40), four
detector inputs (R141), four input types (R167), a bay of at most 64 columns, and in the picture, the
retained image and every update being written the 64 columns of the largest bay (R1). -/
abbrev TablesSized (s : State) : Prop :=
  columnCount s ≤ 64 ∧ s.sched.ctxs.length = 16 ∧ s.sched.ready.length = 10 ∧ s.det.length = 4 ∧
    s.setup.types.length = 4 ∧ s.inv.columns.length = 64 ∧ s.store.image.columns.length = 64 ∧
    ∀ u ∈ s.store.queue, u.image.columns.length = 64

/-! ### Blocks left alone -/

/-- The blocks of the state. -/
inductive Block where
  | board | inv | store | sched | stow | slots | motion | det | fire | bus | setup | startup | free
  | pending
  deriving DecidableEq, Repr

/-- Whether a block is the same in two states. -/
abbrev Block.same (s t : State) (b : Block) : Prop :=
  match b with
  | .board => t.board = s.board
  | .inv => t.inv = s.inv
  | .store => t.store = s.store
  | .sched => t.sched = s.sched
  | .stow => t.stow = s.stow
  | .slots => t.slots = s.slots
  | .motion => t.motion = s.motion
  | .det => t.det = s.det
  | .fire => t.fire = s.fire
  | .bus => t.bus = s.bus
  | .setup => t.setup = s.setup
  | .startup => t.startup = s.startup
  | .free => t.free = s.free
  | .pending => t.pending = s.pending

/-- Every block but the listed ones is the same in two states. -/
abbrev Untouched (bs : List Block) (s t : State) : Prop := ∀ b : Block, b ∉ bs → b.same s t

/-- The motion port with the commands of the event before forgotten. -/
def portQuiet (s : State) : Motion := { s.motion with out := [] }

/-- The scheduler with the marks of the event before forgotten: the step it ended and the contexts it woke. -/
def schedQuiet (s : State) : Sched := { s.sched with stepEnded := none, woken := [] }

/-- With no transfer held for a store update, the event's end changes nothing of the motion port and the
scheduler but to forget the commands and marks of the event before. -/
abbrev PortsQuiet (s t : State) : Prop :=
  s.motion.held = none → t.motion = portQuiet s ∧ t.sched = schedQuiet s

/-- The state an event leaves that changes nothing: the commands and marks of the event before are
forgotten. -/
def settled (s : State) : State := { s with motion := portQuiet s, sched := schedQuiet s }

/-- The event makes one store update, holding the picture it leaves (R20): `step` is the context whose step
it ended. -/
def OneUpdate (s t : State) (step : Option Nat) : Prop :=
  t.store = { s.store with queue := s.store.queue ++ [{ storeUpdate s t with stepCtx := step }] }

/-! ### Events whose end settles nothing -/

/-- The node is in RUN with the gantry busy, and nothing is left over that an event's end would settle: no
overflow record, no held transfer, no side closed for fire, no SLOT LOADED owed. -/
abbrev Calm (s : State) : Prop :=
  s.fire.node = .run ∧ s.motion.gantry ≠ .idle ∧ s.inv.overflow = none ∧ s.motion.held = none ∧
    ∀ sd ∈ sides, (view s sd).fireClosed = false ∧ (view s sd).resendOwed = false

/-- Nothing at an event's end moves a shutter or a context: the node is calm, or it is in a state in which the
gantry serves no context, short of RESUMING's end. -/
abbrev Resting (s : State) : Prop :=
  Calm s ∨ s.fire.node ∈ [.homing, .survey, .joining, .safe] ∨
    s.fire.node = .shutdown ∧ s.fire.closing = true ∨ s.fire.node = .resuming ∧ s.fire.opening = false

/-- The away list in order, with the record in the overflow place behind it (R17, R19). -/
def awayLine (s : State) : List AwayEntry :=
  s.inv.away ++ (s.inv.overflow.map (fun b => { bin := b, winner := none })).toList

/-- Whether a zone set holds the zone of a side's neighbour, a BAY (R152). -/
abbrev BurnsBeside (s : State) (zones : ZoneSet) (sd : Side) : Prop :=
  (nbr s sd).role = .bay ∧ ∃ z, (nbr s sd).zone = some z ∧ zones.getLsbD z.toNat = true

/-! ### Frames taken and answered -/

/-- A carried frame passes the receive filter of a node that posts frames, and no CLOSED overlay is lifted
by hearing its sender. -/
abbrev Passes (s : State) (h : Header) : Prop :=
  accepts s h = true ∧ posts s = true ∧ hearingLifts s h.src = false

/-- A neighbour entry once a frame from a station has been heard (R101). -/
def heardNbr (s : State) (src : Station) (sd : Side) : Neighbour :=
  if sideOfStation s src = some sd then
    { nbr s sd with present := true, sinceHeard := 0, phase := .within }
  else nbr s sd

/-- A pending frame just posted. -/
def posted (seq : Nat) (f : Frame) : PFrame := { frame := f, seq, voids := 0 }

/-- The one change of the bus block but for its counters: a frame joins the reply list, and the sender has
been heard. -/
abbrev Answered (s t : State) (h : Header) (f : Frame) : Prop :=
  t.bus.replies = s.bus.replies ++ [posted s.bus.seq f] ∧ t.bus.seq = s.bus.seq + 1 ∧
    t.bus.turns = s.bus.turns ∧ t.bus.state = s.bus.state ∧ t.bus.announce = s.bus.announce ∧ t.bus.tx = s.bus.tx ∧
    ∀ sd ∈ sides, nbr t sd = heardNbr s h.src sd

/-- The bus block but for its counters when nothing is posted: the sender has been heard. -/
abbrev HeardOnly (s t : State) (h : Header) : Prop :=
  t.bus.replies = s.bus.replies ∧ t.bus.seq = s.bus.seq ∧ t.bus.turns = s.bus.turns ∧
    t.bus.state = s.bus.state ∧ t.bus.announce = s.bus.announce ∧ t.bus.tx = s.bus.tx ∧
    ∀ sd ∈ sides, nbr t sd = heardNbr s h.src sd

/-- The counters with one more frame received (R170). -/
def oneReceived (c : Counters) : Counters := { c with received := count16 c.received }

/-- The counters with one more frame received and one more request dropped (R170). -/
def oneDropped (c : Counters) : Counters :=
  { c with received := count16 c.received, dropped := count16 c.dropped }

/-- A REFUSE as the node sends it (R177). -/
def refusal (s : State) (level : Nat) (h : Header) (r : RefuseReason) : Frame :=
  frameOf s level 0 h.src h.tag (.refuse r)

/-- A REPLY as the node sends it: at level 2 and rank 0, to the source with its tag (R169). -/
def replyTo (s : State) (h : Header) (r : Reply) : Frame := frameOf s 2 0 h.src h.tag (.reply r)

/-! ### What commands can reach -/

/-- The commands that may change the stow agent's entries (R82 to R93). -/
def movesStow : Instr → Bool
  | .reset _ _ | .closeTimerExpiry _ | .handoverTimerExpiry _ | .ownFrameSent | .frameVoided
  | .stowReady _ _ _ | .bid _ _ _ | .recordHandover _ _ | .recordSurvey _ _ | .adopted _ _ => true
  | _ => false

/-- Commands that move no bin and report none moved. -/
def leavesInventory : Instr → Bool
  | .fireLineChange _ | .sensorSample _ _ | .storeUpdateComplete | .abandoned | .parked
  | .shutterDone _ _ | .faultBlocked | .faultDrive | .motionTimerExpiry | .shutterTimerExpiry _
  | .statePeriodExpiry | .neighbourAbsent _ | .claimTimerExpiry _ | .bidTimerExpiry _
  | .closeTimerExpiry _ | .transmitContend _ | .frameVoided | .receivedFrameIgnored _ _
  | .setup _ _ | .loadEnd _ | .fetch _ _ _ _ _ | .verify _ _ _ _ | .cancel _ | .stowReady _ _ _
  | .returnQuery _ _ | .slotReclaim _ _ | .restart _ | .queryBinRecord _ _ | .queryColumn _ _
  | .queryJobSummary _ | .queryDetectors _ | .queryNeighbours _ | .queryCounters _ | .fire _ _
  | .fireClear _ _ | .alarm _ _ | .announce _ _ | .state _ _ | .offer _ _ | .refuseOfferClosed _
  | .slotClaim _ _ | .slotGrant _ _ | .slotRefuse _ _ | .slotLoaded _ _ | .receiveFilterDiscard _ =>
    true
  | _ => false

/-! ### Items and jobs -/

/-- The record an item operation leaves: one item slot replaced. -/
def withSlot (r : BinRecord) (i : Nat) (v : ItemSlot) : BinRecord :=
  { r with body := { r.body with slots := r.body.slots.set i v } }

/-- What an accepted item operation on a record does (R114): the slot's new content, a REPLY with the record as
stored, one store update, and nothing else. -/
def ItemDone (s : State) (c : Instr) (h : Header) (r : BinRecord) (i : Nat) (v : ItemSlot) :
    Prop :=
  ∃ t, exec c s = .next t ∧
    t.inv = { s.inv with
      records := s.inv.records.map (fun q =>
        if q.body.bin = r.body.bin then withSlot q i v else q) } ∧
    Answered s t h (replyTo s h (.record (withSlot r i v))) ∧
    t.bus.counters = oneReceived s.bus.counters ∧
    OneUpdate s t s.sched.stepEnded ∧ t.motion = portQuiet s ∧ t.sched = schedQuiet s ∧
    Untouched [.inv, .store, .bus, .motion, .sched] s t

/-- What a refused request does: the REFUSE and the counters, and nothing else. -/
def Refused (s : State) (c : Instr) (h : Header) (level : Nat) (r : RefuseReason) : Prop :=
  ∃ t, exec c s = .next t ∧ Answered s t h (refusal s level h r) ∧
    t.bus.counters = oneReceived s.bus.counters ∧ Untouched [.bus, .motion, .sched] s t ∧
    PortsQuiet s t

/-- The state of an item operation that R115 judges past its first three orders: an AWAY record of eight
slots is held under an id from 1 to 65,534, the slot and the item are in range, the node is past start-up,
and the reply list has room. -/
abbrev ItemOpReady (s : State) (h : Header) (r : BinRecord) (i : Nat) (item : ItemId) :
    Prop :=
  Passes s h ∧ s.bus.replies.length < 8 ∧ isBinId r.body.bin = true ∧
    recordOf s r.body.bin = some r ∧ r.residence = .away ∧
    r.body.slots.length = 8 ∧ i < 8 ∧ item ≠ 0 ∧ notReady s = false

/-- The job context a claimed request creates: every claimed bin a WAITING target, with the request's class,
flags, origin and tag, and a new age stamp (R38, R41, R61, R63). -/
def JobMade (s t : State) (h : Header) (q : JobRequest) (kind : JobKind) (n : Nat) : Prop :=
  let c := ctxOf t n
  c.kind = kind ∧ c.cls = q.cls ∧ c.level = q.level ∧ c.origin = h.src ∧ c.tag = h.tag ∧
    c.chain = q.chain ∧ c.restore = q.restore ∧ c.notify = q.notify ∧ c.shortOk = q.shortOk ∧
    c.targets = (claimedBins s q).map (fun b => { bin := b, status := .waiting }) ∧
    c.claimed = (claimedBins s q).length ∧ c.delivered = 0 ∧ c.stamp = s.sched.nextStamp

/-- The job context a claimed request creates in RUN: READY at the tail of its class's list (R38, R40). -/
def JobCreated (s t : State) (h : Header) (q : JobRequest) (kind : JobKind) (n : Nat) : Prop :=
  JobMade s t h q kind n ∧ (ctxOf t n).state = .ready ∧
    t.sched.ready = s.sched.ready.modify (q.level - 1) (· ++ [n])

/-! ### Why a request is refused -/

/-- The reason a RESTART addressed to a node that is not in SAFE is refused with (R134, R158). -/
abbrev RestartRefused (s : State) (r : RefuseReason) : Prop :=
  r = .notReady ∧ notReady s = true ∨ r = .fire ∧ s.fire.node = .shutdown ∨
    (s.fire.node = .run ∨ s.fire.node = .guarded) ∧
      (r = .binBusy ∧ s.motion.recovery = true ∨
        r = .notSafe ∧ s.motion.recovery = false ∧ s.motion.gantry ≠ .faulted)

/-- The order-6 reason of R62 that fits a held bin, when none of the request's bins may be claimed. -/
abbrev BinRefused (s : State) (b : BinId) (r : RefuseReason) : Prop :=
  r = .binAway ∧ (residenceOf s b = some .away ∨ residenceOf s b = some .arriving ∨
      ∃ d, residenceOf s b = some (.atChute d)) ∨
    r = .binMoving ∧ (residenceOf s b = some .inHand ∨ (∃ sd, residenceOf s b = some (.inSlot sd)) ∨
      ∃ w, residenceOf s b = some (.handing w)) ∨
    ∃ c i, residenceOf s b = some (.resident c i) ∧
      (r = .binBusy ∧ isTargetBut s none b = true ∨
        r = .columnSuspect ∧ isTargetBut s none b = false ∧ (column s c).suspect = true)

/-- The reason of R62's orders 2 to 6 that a well-formed FETCH or VERIFY is refused with first. -/
abbrev RequestRefused (s : State) (q : JobRequest) (r : RefuseReason) : Prop :=
  r = .notReady ∧ notReady s = true ∨
    notReady s = false ∧
      (r = .fire ∧ (fireStopped s = true ∨ s.fire.latch = true) ∨
        fireStopped s = false ∧ s.fire.latch = false ∧
          (r = .classOff ∧ q.level = 0 ∨
            q.level ≠ 0 ∧
              (r = .tableFull ∧ freeCtx? s = none ∨
                (freeCtx? s).isSome ∧ (∀ b ∈ heldBins s q.bins, claimable s b = false) ∧
                  ∃ b, (heldBins s q.bins).head? = some b ∧ BinRefused s b r)))

/-- A job request that is refused: its REFUSE joins the reply list at the class's level, and no context
changes where nothing else at the event's end moves one (R62). -/
def RequestTurnedDown (s : State) (c : Instr) (h : Header) (level : Nat) (r : RefuseReason) : Prop :=
  ∃ t q, exec c s = .next t ∧ t.bus.replies = s.bus.replies ++ [posted q (refusal s level h r)] ∧
    (Resting s → t.sched.ctxs = s.sched.ctxs)

/-- The reason of R7's checks that a COLUMN LOAD is refused with first, where its content is checked. -/
abbrev LoadRefused (s : State) (c count : Nat) (bins : List BinId) (r : RefuseReason) : Prop :=
  let bad := columnCount s ≤ c ∨ count ≠ bins.length ∨ s.board.c < bins.length ∨
    (∃ b ∈ bins, b = 0 ∨ 65534 < b) ∨ ¬ bins.Nodup
  let elsewhere := ∃ b ∈ bins, ∃ k i, residenceOf s b = some (.resident k i) ∧ k ≠ c
  let moving := ∃ b ∈ bins, s.inv.overflow = some b ∨ isCarried s b = true ∨
    residenceOf s b = some .inHand ∨ residenceOf s b = some .arriving ∨
    (∃ sd, residenceOf s b = some (.inSlot sd)) ∨ (∃ d, residenceOf s b = some (.atChute d)) ∨
    ∃ w, residenceOf s b = some (.handing w)
  let busy := columnAwaitsBin s c = true ∨ s.fire.node ≠ .survey ∧
    (columnInXfer s c = true ∨ (∃ n ∈ ctxNumbers, (ctxOf s n).lock = some c) ∨
      (∃ b ∈ (column s c).bins, isTargetBut s none b = true) ∨
      ∃ b ∈ bins, residenceOf s b = some .away ∧ ∃ e ∈ s.stow.offers, e.bin = b)
  r = .malformed ∧ (bad ∨ elsewhere) ∨
    ¬ bad ∧ ¬ elsewhere ∧
      (r = .binMoving ∧ moving ∨
        ¬ moving ∧ (r = .binBusy ∧ busy ∨ ¬ busy ∧ r = .tableFull ∧ loadFits s c bins = false))

/-- The reason of R112's orders 1 to 6 that a SLOT RECLAIM is refused with first. -/
abbrev ReclaimRefused (s : State) (side : Nat) (r : RefuseReason) : Prop :=
  r = .malformed ∧ 1 < side ∨
    side ≤ 1 ∧
      (r = .notReady ∧ notReady s = true ∨
        notReady s = false ∧
          (r = .fire ∧ (fireStopped s = true ∨ s.fire.latch = true) ∨
            fireStopped s = false ∧ s.fire.latch = false ∧
              (r = .slotState ∧ (view s (if side = 0 then .west else .east)).state ≠ .loadedOut ∨
                (view s (if side = 0 then .west else .east)).state = .loadedOut ∧
                  (r = .binBusy ∧ reclaimOn s (if side = 0 then .west else .east) = true ∨
                    reclaimOn s (if side = 0 then .west else .east) = false ∧
                      r = .tableFull ∧ freeCtx? s = none))))

/-- A record as a COLUMN LOAD leaves a bin it places: the travelling part it had with SUSPECT_TAG cleared, or
that of a new record, demand 0 and eight EMPTY slots (R8). -/
def loadedBody (old : Option BinRecord) (b : BinId) : RecordBody :=
  match old with
  | some r => { r.body with suspectTag := false }
  | none =>
    { bin := b, demand := 0, suspectTag := false
      slots := List.replicate 8 { state := .empty, item := 0 } }

/-- Whether a SLOT CLAIM on an unclosed side meets the hazard of R106's order 3 in RUN. -/
abbrev SideHazard (s : State) (sd : Side) : Prop :=
  2 ≤ gradeNum (bayGrade s) ∨ s.fire.latch = true ∨ notBay s sd = true

/-- The reason of R106's orders 3 to 7 that a SLOT CLAIM is refused with first, in RUN. -/
abbrev ClaimRefused (s : State) (sd : Side) (b : BinId) (why : SlotRefuseReason) : Prop :=
  why = .hazard ∧ SideHazard s sd ∨
    ¬ SideHazard s sd ∧
      (why = .classOff ∧ s.setup.spill = 0 ∨
        s.setup.spill ≠ 0 ∧
          (why = .tableFull ∧ (freeCtx? s = none ∨ 8 ≤ committed s) ∨
            (freeCtx? s).isSome ∧ committed s < 8 ∧
              (why = .noRoom ∧ freePositions s < s.setup.reserve + 1 ∨
                s.setup.reserve + 1 ≤ freePositions s ∧ why = .busy ∧ holdsBin s b = true)))

/-- The conditions of R106's order 8 in RUN, with the context a grant takes: none of orders 3 to 7 applies. -/
abbrev ClaimGranted (s : State) (sd : Side) (b : BinId) (n : Nat) : Prop :=
  ¬ SideHazard s sd ∧ s.setup.spill ≠ 0 ∧ freeCtx? s = some n ∧ committed s < 8 ∧
    s.setup.reserve + 1 ≤ freePositions s ∧ holdsBin s b = false

/-- The SPILL context a SLOT CLAIM or an ungranted SLOT LOADED creates on a side (R38). -/
def newSpill (s : State) (h : Header) (sd : Side) : Ctx :=
  { Ctx.blank with
    kind := .spill, cls := .spill, level := s.setup.spill, origin := h.src, tag := h.tag
    side := some sd }

/-- The slot frame a side sends its neighbour (R102). -/
def slotFrame (s : State) (sd : Side) (tag : Tag) (p : Payload) : Frame :=
  frameOf s 12 0 ((nbr s sd).station.getD 0) tag p

/-- Where a refused claim of a side leaves its context `n`, STALLED with SLOT_WAIT for the answer: the east
side is claimed after the west if it qualifies, else the wait reason becomes NO_ROOM (R47, R104). -/
def RefusalPathTaken (s t : State) (sd : Side) (n : Nat) : Prop :=
  if sd = .west ∧ qualifies s .east = true then
    ctxOf t n = ctxOf s n ∧ ∃ q,
      view t .east = { view s .east with
        state := .claiming, tag := s.slots.nextTag, ctx := some n, bin := some (spillBin s n)
        claimTimer := none
        pend := some (posted q
          (slotFrame s .east s.slots.nextTag (.slotClaim (spillBin s n)))) }
  else ctxOf t n = { ctxOf s n with wait := some .noRoom }

/-- The SPILL context of a side's exchange ends REMOVED, claimed 1 and delivered 0 (R110, R111); the view is
FREE, and the inventory as it was. -/
def SpillRemoved (s t : State) (sd : Side) (n : Nat) : Prop :=
  (view t sd).state = .free ∧ (view t sd).ctx = none ∧ ctxOf t n = Ctx.blank ∧
    (∃ e ∈ t.sched.doneQ, e.body.outcome = .removed ∧ e.body.ctx = n ∧ e.body.claimed = 1 ∧
      e.body.delivered = 0 ∧ e.body.origin = (ctxOf s n).origin ∧ e.body.tag = (ctxOf s n).tag) ∧
    t.inv = s.inv

/-- How far two numbers are apart. -/
def apart (a b : Nat) : Nat := (a - b) + (b - a)

/-- Thresholds taken from a SETUP's: each to no more than 1,022, and the hysteresis to no more than T1 as
taken (R167). -/
abbrev ThresholdsInRange (f : RawThresholds) (v : Thresholds) : Prop :=
  v.t1 = min 1022 f.t1 ∧ v.t2 = min 1022 f.t2 ∧ v.t3 = min 1022 f.t3 ∧ v.h = min v.t1 f.h

/-- The values a SETUP is taken with, by R167's table of ranges. -/
abbrev SetupInRange (f : SetupFrame) (v : Setup) : Prop :=
  (v.loanFetch = min 10 f.loanFetch ∧ v.staffFetch = min 10 f.staffFetch ∧
    v.returnFetch = min 10 f.returnFetch ∧ v.verify = min 10 f.verify ∧ v.stow = min 10 f.stow ∧
    v.spill = min 10 f.spill ∧ v.reserve = min 63 f.reserve) ∧
  (v.statePeriod = max 1 (min 10 f.statePeriod) ∧ v.claimWindow = max 10 (min 250 f.claimWindow) ∧
    v.bidWindow = max 10 (min 250 f.bidWindow) ∧
    v.handoverWindow = max 50 (min 1000 f.handoverWindow) ∧
    v.motionTimeout = max 5 (min 120 f.motionTimeout) ∧
    v.arrivalWindow = max 30 (min 900 f.arrivalWindow) ∧ v.decayPeriod = min 255 f.decayPeriod) ∧
  (v.window ∈ [8, 16, 32, 64] ∧ ∀ w ∈ [8, 16, 32, 64],
    apart f.window v.window < apart f.window w ∨
      apart f.window v.window = apart f.window w ∧ v.window ≤ w) ∧
  (ThresholdsInRange f.heat v.heat ∧ ThresholdsInRange f.smoke v.smoke) ∧
  v.types = [0, 1, 2, 3].map (fun i =>
    match f.types.getD i 0 with
    | 1 => .heat
    | 2 => .smoke
    | _ => .unfitted)

/-- The frame in transmission is the pending one, sound and not withdrawn, of a place of the pending set. -/
abbrev OnTheBus (s : State) (x : Tx) (k : TxKey) (f : PFrame) : Prop :=
  s.bus.tx = some x ∧ x.withdrawn = false ∧ x.key = k ∧ f.seq = x.pf.seq

end Sys2Proof.Machine
end

