-- ==== Sys2Proof/WellFormed.lean ====
section
/-! DEFINITION. Which commands can reach a BN-64: every operand fits the field that carries it (R172,
R177), and every event names something the node has. -/

namespace Sys2Proof

/-- Fits one payload byte. -/
def fits8 (n : Nat) : Bool := n < 256

/-- Fits two payload bytes. -/
def fits16 (n : Nat) : Bool := n < 65536

/-- Fits four payload bytes. -/
def fits32 (n : Nat) : Bool := n < 4294967296

/-- A header's fields fit: source 1 to 31, destination 0 to 31, tag 0 to 255 (R172). -/
def Header.wf (h : Header) : Bool := 1 ≤ h.src ∧ h.src < 32 ∧ h.dst < 32 ∧ fits8 h.tag

/-- A bin record of 44 bytes: eight item slots (R10, R177). -/
def RawRecord.wf (r : RawRecord) : Bool :=
  fits16 r.bin && fits8 r.demand && r.slots.length == 8 &&
    r.slots.all (fun i => fits8 i.state && fits32 i.item)

/-- Thresholds as a SETUP carries them. -/
def RawThresholds.wf (t : RawThresholds) : Bool :=
  fits16 t.t1 && fits16 t.t2 && fits16 t.t3 && fits16 t.h

/-- A SETUP of 37 bytes (R177). -/
def SetupFrame.wf (f : SetupFrame) : Bool :=
  [f.loanFetch, f.staffFetch, f.returnFetch, f.verify, f.stow, f.spill, f.reserve, f.statePeriod,
    f.claimWindow, f.bidWindow, f.motionTimeout, f.decayPeriod, f.window].all fits8 &&
    fits16 f.handoverWindow && fits16 f.arrivalWindow && f.heat.wf && f.smoke.wf &&
    f.types.length == 4 && f.types.all fits8

/-- A STATE's fields (R177). -/
def StateFrame.wf (f : StateFrame) : Bool :=
  fits8 f.nodeState && fits16 f.free && fits8 f.reserve && fits8 f.zone

/-- An ANNOUNCE's fields (R177). -/
def AnnounceFrame.wf (f : AnnounceFrame) : Bool :=
  [f.role, f.station, f.zone, f.w, f.d, f.c].all fits8 && fits16 f.free

/-- An OFFER's fields (R177). -/
def OfferFrame.wf (f : OfferFrame) : Bool :=
  [f.holder, f.demand, f.loans, f.desk].all fits8 && fits16 f.bin

/-- An arbitration word of 21 bits (R172). -/
def ArbWord.wf (a : ArbWord) : Bool := a.level < 16 ∧ a.rank < 4096 ∧ 1 ≤ a.source ∧ a.source < 32

/-- The fields of a carried frame beside its header fit their bits (R172). -/
def RawBody.wf (f : RawBody) : Bool :=
  f.level < 16 ∧ f.rank < 4096 ∧ f.kind < 64 ∧ f.payload.length ≤ 48

/-- A list of bin ids that fits the payload of its kind: `fixed` bytes stand before it (R172, R177). -/
def binsFit (fixed : Nat) (bins : List BinId) : Bool :=
  bins.all fits16 && fixed + 2 * bins.length ≤ 48

/-- An item operation's fields (R177). -/
def itemFits (bin : BinId) (slot : Nat) (item : ItemId) : Bool :=
  fits16 bin && fits8 slot && fits32 item

/-- Whether a command is one that can reach the node. -/
def Instr.wf : Instr → Bool
  | .reset _ _ => true
  | .fireLineChange _ => true
  | .sensorSample input reading => input < 4 ∧ reading < 1024
  | .storeUpdateComplete => true
  | .picked tag => tag.all fits16
  | .placed p => match p with | .column c => fits8 c | _ => true
  | .abandoned => true
  | .parked => true
  | .homed hand => match hand with | .loaded (some t) => fits16 t | _ => true
  | .shutterDone _ _ => true
  | .faultEmptyPick => true
  | .faultOccupiedPlace => true
  | .faultBlocked => true
  | .faultDrive => true
  | .arrival tag => tag.all fits16
  | .chuteTaken => true
  | .senseReport _ => true
  | .motionTimerExpiry => true
  | .shutterTimerExpiry _ => true
  | .decayTimerExpiry => true
  | .statePeriodExpiry => true
  | .neighbourAbsent _ => true
  | .claimTimerExpiry _ => true
  | .bidTimerExpiry n => n < 16
  | .closeTimerExpiry t => fits8 t
  | .handoverTimerExpiry b => fits16 b
  | .arrivalTimerExpiry n => n < 16
  | .transmitContend back => back.rival.all ArbWord.wf
  | .ownFrameSent => true
  | .frameVoided => true
  | .receivedFrameIgnored h f => h.wf && f.wf
  | .setup h f => h.wf && f.wf
  | .columnLoad h c count bins => h.wf && fits8 c && fits8 count && binsFit 2 bins
  | .loadEnd h => h.wf
  | .fetch h cls _ count bins => h.wf && fits8 cls && fits8 count && binsFit 3 bins
  | .verify h _ count bins => h.wf && fits8 count && binsFit 2 bins
  | .cancel h => h.wf
  | .stowReady h b desk => h.wf && fits16 b && fits8 desk
  | .lend h b i it => h.wf && itemFits b i it
  | .refill h b i it => h.wf && itemFits b i it
  | .withdraw h b i it => h.wf && itemFits b i it
  | .accession h b i it => h.wf && itemFits b i it
  | .returnQuery h it => h.wf && fits32 it
  | .chuteClear h => h.wf
  | .slotReclaim h side => h.wf && fits8 side
  | .restart h => h.wf
  | .queryBinRecord h b => h.wf && fits16 b
  | .queryColumn h arg => h.wf && fits16 arg
  | .queryJobSummary h => h.wf
  | .queryDetectors h => h.wf
  | .queryNeighbours h => h.wf
  | .queryCounters h => h.wf
  | .fire h _ => h.wf
  | .fireClear h _ => h.wf
  | .alarm h z => h.wf && fits8 z
  | .announce h f => h.wf && f.wf
  | .state h f => h.wf && f.wf
  | .offer h f => h.wf && f.wf
  | .bid h holder b => h.wf && fits8 holder && fits16 b
  | .refuseOfferClosed h => h.wf
  | .recordHandover h r => h.wf && r.wf
  | .recordSurvey h r => h.wf && r.wf
  | .adopted h b => h.wf && fits16 b
  | .slotClaim h b => h.wf && fits16 b
  | .slotGrant h b => h.wf && fits16 b
  | .slotRefuse h r => h.wf && fits8 r
  | .slotLoaded h r => h.wf && r.wf
  | .slotTaken h b => h.wf && fits16 b
  | .receiveFilterDiscard h => h.wf

end Sys2Proof
end

