-- ==== Sys2Proof/Certificates/Slice0/Obligations.lean ====
section
/-! DEFINITION. The statements for the provers. -/

open Sys2Proof Sys2Proof.Machine

/-! ### The machine -/

/-- Tier 1. The model's form of a step: the command at the front of the queue is run by `exec` with the
queue's rest; on an empty queue the node idles (assumption 4). No command stops the node: `exec` answers
a next state for every command in every state. -/
def Obligations.StepTakesTheFront : Prop :=
  (∀ (s : State) (c : Instr) (rest : List Instr), s.pending = c :: rest →
    step s = exec c (s.withPending rest)) ∧
  (∀ s : State, s.pending = [] → step s = .next s) ∧
  ∀ (c : Instr) (s : State), ∃ t, exec c s = .next t

/-- Tier 3. What only some commands change, in every state: the waiting commands by none; the retained
image only by STORE_UPDATE_COMPLETE (R20); the board's straps only by RESET (R162); the SETUP values
only by RESET and SETUP (R167); the input records only by RESET, SETUP, samples, FIRE CLEAR and the
detectors query (R142 to R148); the fire line latch only by RESET and the line itself (R150); the
zones-afire set only by these, the fire frames, samples, SETUP and the node's own ALARM (R149); the stow
agent only by its own commands and the transmitter (R82 to R93). Outside HOMING and RESUMING the
commands that `leavesInventory` lists change no bin record, no column and no chute state. -/
def Obligations.OnlyTheseCommandsChange : Prop :=
  ∀ (s t : State) (c : Instr), exec c s = .next t →
    t.pending = s.pending ∧
    (c ≠ .storeUpdateComplete → t.store.image = s.store.image) ∧
    ((∀ p b, c ≠ .reset p b) →
      t.board = s.board ∧
      ((∀ h f, c ≠ .setup h f) → t.setup = s.setup) ∧
      ((∀ h f, c ≠ .setup h f) → (∀ n x, c ≠ .sensorSample n x) → (∀ h z, c ≠ .fireClear h z) →
        (∀ h, c ≠ .queryDetectors h) → t.det = s.det) ∧
      ((∀ l, c ≠ .fireLineChange l) → t.fire.latch = s.fire.latch) ∧
      ((∀ l, c ≠ .fireLineChange l) → (∀ h f, c ≠ .setup h f) → (∀ n x, c ≠ .sensorSample n x) →
        (∀ h z, c ≠ .fire h z) → (∀ h z, c ≠ .fireClear h z) → (∀ h z, c ≠ .alarm h z) →
        c ≠ .ownFrameSent → t.fire.zones = s.fire.zones) ∧
      (movesStow c = false → t.stow = s.stow) ∧
      (leavesInventory c = true → s.fire.node ≠ .homing → s.fire.node ≠ .resuming →
        t.inv.records = s.inv.records ∧ t.inv.columns = s.inv.columns ∧
          t.motion.chute = s.motion.chute ∧ t.motion.reason = s.motion.reason))

/-- Tier 1. The state after reset meets the laws that every step keeps. -/
def Obligations.LawsHoldAtReset : Prop :=
  RecordsSorted State.reset ∧ FireLaw State.reset ∧ SafeLaw State.reset ∧
    TablesSized State.reset ∧ MotionLaw State.reset

/-- Tier 3. Every step keeps the canonical form of the bin records, in the picture, in the retained
image and in the updates being written (the model's form of R10's "one record per bin"). -/
def Obligations.RecordsStaySorted : Prop :=
  ∀ s t : State, RecordsSorted s → step s = .next t → RecordsSorted t

/-- Tier 3. Every step keeps the law of R144 and R152: while any input's grade is ALARM the own zone is
in the zones-afire set, and while the own zone is in the set the node is in SHUTDOWN or SAFE. -/
def Obligations.FireLawKept : Prop :=
  ∀ s t : State, FireLaw s → step s = .next t → FireLaw t

/-- Tier 3. Every step keeps the law of R157: in SAFE drive power is off, every shutter has been asked
CLOSE and the fire-stop mark is set; the mark is set from SHUTDOWN on (R154), and the shutters are asked
when the shutdown sequence reaches them (R156). -/
def Obligations.SafeLawKept : Prop :=
  ∀ s t : State, SafeLaw s → step s = .next t → SafeLaw t

/-- Tier 3. Every step keeps the sizes of the tables (R37, R40, R141, R167), and the law of the motion
interface: in HOMING no homing put-away is pending (R163, R164), and in HOMING and GUARD no transfer is held
back for a store update (R20, R153). -/
def Obligations.TablesKeepTheirSizes : Prop :=
  (∀ s t : State, TablesSized s → step s = .next t → TablesSized t) ∧
  ∀ s t : State, MotionLaw s → step s = .next t → MotionLaw t

/-- Tier 2. R144's second law, under the first: an input's grade leaves ALARM only at a RESET or at a
FIRE CLEAR that names the own zone. -/
def Obligations.AlarmIsLatched : Prop :=
  ∀ (s t : State) (c : Instr) (n : Nat) (i : DetInput), FireLaw s → s.det[n]? = some i →
    i.grade = .alarm → (∀ p b, c ≠ .reset p b) →
    (∀ h z, c = .fireClear h z → z.getLsbD s.board.zone.toNat = false) →
    exec c s = .next t → ∃ j, t.det[n]? = some j ∧ j.grade = .alarm

/-! ### RESET -/

/-- Tier 2. What every RESET leaves, whatever the straps, the pin and the state before: the straps' values,
the geometry of R1 and the fire line's polarity among them (R162), the SETUP defaults, cleared input
records, FREE contexts and empty lists, no offer, no handover, empty replies, counters at 0, blank neighbour
entries, and the retained columns and records. Each slot view is FREE and cleared, or, where a record stands
IN_SLOT on its side, LOADED_OUT with a fresh claim tag and resend owed (R99). The chute is OUTBOUND with an
AT_CHUTE OUT record, else INBOUND with an AT_CHUTE IN one, else EMPTY (R136). Which node state a RESET
enters (R161, R163): SAFE with the fire-stop mark retained or, with the line at its active level, by way of
SHUTDOWN, POWER OFF sent and every shutter asked CLOSE; otherwise HOMING, where a node with a station sends
POWER ON and the reconcile PARK. SAFE_WITH_FAULT is clear. The model's own choices among these: the waiting
commands stay (assumption 5), the fresh claim tags are 0 and 1, west before east (assumption 26), POWER OFF
is sent with the mark set (assumption 23), and the sides of a node that enters SAFE carry the FIRE cause
(assumption 49). -/
def Obligations.ResetClearsAndStarts : Prop :=
  (∀ (s : State) (p : StrapPins) (pin : Bool), ∃ t, exec (.reset p pin) s = .next t ∧
    t.board =
      { station := p.stn.toNat, zone := p.zn
        w := if p.wd = 0 then 2 else p.wd.toNat + 1
        d := if p.dp = 0 then 2 else p.dp.toNat + 1
        c := [8, 10, 12, 16].getD p.ht.toNat 8, activeHigh := p.fpol } ∧
    t.setup = Setup.default ∧
    t.det = List.replicate 4 DetInput.blank ∧ t.sched.ctxs = List.replicate 16 Ctx.blank ∧
    t.sched.ready = List.replicate 10 [] ∧ t.sched.doneQ = [] ∧ t.sched.notice = [] ∧
    t.stow = Stow.blank ∧ t.bus.replies = [] ∧ t.bus.tx = none ∧
    t.bus.counters = { sent := 0, received := 0, voids := 0, losses := 0, dropped := 0 } ∧
    t.bus.nbWest = Neighbour.blank (if 1 < p.stn.toNat then some (p.stn.toNat - 1) else none) ∧
    t.bus.nbEast = Neighbour.blank (if p.stn.toNat < 31 then some (p.stn.toNat + 1) else none) ∧
    t.inv.columns = s.store.image.columns ∧ t.inv.records = s.store.image.records ∧
    t.pending = s.pending) ∧
  (∀ (s : State) (p : StrapPins) (pin : Bool), ∃ t, exec (.reset p pin) s = .next t ∧
    (∀ sd ∈ sides, view t sd =
      if ∃ r ∈ s.store.image.records, r.residence = .inSlot sd then
        { SlotView.blank with
          state := .loadedOut, resendOwed := true
          tag := if sd = .east ∧ ∃ r ∈ s.store.image.records, r.residence = .inSlot .west then 1
            else 0
          fireClosed := s.store.image.fireStop || pin == p.fpol }
      else { SlotView.blank with fireClosed := s.store.image.fireStop || pin == p.fpol }) ∧
    (t.motion.chute = if ∃ r ∈ s.store.image.records, r.residence = .atChute .outward then .outbound
      else if ∃ r ∈ s.store.image.records, r.residence = .atChute .inward then .inbound
      else .empty) ∧
    t.motion.reason = .none) ∧
  (∀ (s : State) (p : StrapPins) (pin : Bool), ∃ t, exec (.reset p pin) s = .next t ∧
    t.fire.safeWithFault = false ∧
    (t.fire.zones = if pin = p.fpol then allZones else 0) ∧
    (if s.store.image.fireStop = true ∨ pin = p.fpol then
      t.fire.node = .safe ∧ t.motion.power = false ∧ t.motion.out = [.power false] ∧
        t.fire.chuteHold = true ∧
        t.inv.fireStop = true ∧ ∀ sh ∈ shutterIds, (shutter t sh).state = .closing ∧ (shutter t sh).asked = some .closed
    else
      t.fire.node = .homing ∧
        (p.stn ≠ 0 → t.motion.gantry = .homing ∧ t.motion.power = true ∧
          t.motion.out = [.power true, .park true] ∧ t.bus.state.length = 1) ∧
        (p.stn = 0 → t.motion.gantry = .off ∧ t.motion.out = [] ∧ t.bus.state = [])))

/-! ### The fire controller -/

/-- Tier 2. R149, R150: FIRE adds the zones it names, ALARM the zone it carries, and the fire line's
change to its active level all sixteen; the line's return adds and removes none. The latch follows the
pin. -/
def Obligations.ZonesAdded : Prop :=
  (∀ (s : State) (h : Header) (z : ZoneSet), accepts s h = true →
    ∃ t, exec (.fire h z) s = .next t ∧ t.fire.zones = s.fire.zones ||| z ∧
      t.fire.latch = s.fire.latch) ∧
  (∀ (s : State) (h : Header) (z : Zone), accepts s h = true →
    ∃ t, exec (.alarm h z.toNat) s = .next t ∧ t.fire.zones = s.fire.zones ||| (1#16 <<< z.toNat) ∧
      t.fire.latch = s.fire.latch) ∧
  (∀ s : State, s.fire.latch = false →
    ∃ t, exec (.fireLineChange s.board.activeHigh) s = .next t ∧ t.fire.latch = true ∧
      t.fire.zones = s.fire.zones ||| 0xFFFF#16) ∧
  ∀ s : State, ∃ t, exec (.fireLineChange (!s.board.activeHigh)) s = .next t ∧ t.fire.latch = false ∧
    t.fire.zones = s.fire.zones

/-- Tier 2. R152, R154: a FIRE that names the own zone stops the bay from any state but SHUTDOWN and
SAFE: in its event the node is in SHUTDOWN or already in SAFE, the fire-stop mark is set, both sides
carry the FIRE cause, no bid is left, and no context is READY, ACTIVE or STALLED. R146, R151: a sample
that brings the bay grade to ALARM posts an ALARM of the node's zone, unless one is pending, and stops
the bay. A sample of an input of type NONE is discarded. -/
def Obligations.FireStopsTheBay : Prop :=
  (∀ (s : State) (h : Header) (z : ZoneSet), accepts s h = true → TablesSized s →
    fireStopped s = false → z.getLsbD s.board.zone.toNat = true →
    ∃ t, exec (.fire h z) s = .next t ∧ (t.fire.node = .shutdown ∨ t.fire.node = .safe) ∧
      t.inv.fireStop = true ∧ t.fire.chuteHold = true ∧
      (∀ sd ∈ sides, (view t sd).fireClosed = true) ∧
      ∀ n ∈ ctxNumbers, (ctxOf t n).state = .free ∨ (ctxOf t n).state = .awaiting ∨
        (ctxOf t n).state = .paused ∨ (ctxOf t n).state = .ending) ∧
  ((∀ (s : State) (n x : Nat), bayGrade s ≠ .alarm → posts s = true →
    ∀ t, exec (.sensorSample n x) s = .next t → bayGrade t = .alarm →
      zoneAfire t s.board.zone = true ∧ (t.fire.node = .shutdown ∨ t.fire.node = .safe) ∧
      (s.fire.alarm = none → t.fire.alarm.map (·.frame) =
        some { level := 15, rank := 0, src := s.board.station, dst := 0, tag := 0, payload := .alarm s.board.zone })) ∧
  ∀ (s : State) (n x : Nat), s.setup.types[n]? = some .unfitted →
    ∃ t, exec (.sensorSample n x) s = .next t ∧ t.det = s.det ∧ t.fire.zones = s.fire.zones)

/-- Tier 2. R144, R149: FIRE CLEAR removes the zones it names and, naming the own zone, brings every
input to NORMAL with an empty window and leaves its FAULT flag, last mean and worst-since-read; while
the latch is ACTIVE it is refused with FIRE_ACTIVE at level 2 and changes neither. -/
def Obligations.FireClearRemovesZones : Prop :=
  (∀ (s : State) (h : Header) (z : ZoneSet), accepts s h = true → s.fire.latch = false →
    ∃ t, exec (.fireClear h z) s = .next t ∧
      t.det = (if z.getLsbD s.board.zone.toNat then
          s.det.map (fun i =>
            { i with grade := .normal, acc := 0, count := 0, faultSeen := false })
        else s.det) ∧
      t.fire.zones = s.fire.zones &&& ~~~z) ∧
  ∀ (s : State) (h : Header) (z : ZoneSet), Passes s h → s.fire.latch = true →
    s.bus.replies.length < 8 →
    ∃ t q, exec (.fireClear h z) s = .next t ∧ t.det = s.det ∧ t.fire.zones = s.fire.zones ∧
      t.bus.replies = s.bus.replies ++ [posted q (refusal s 2 h .fireActive)]

/-- Tier 2. R158: a RESTART addressed to a node in SAFE (of which the law of R157 holds, `SafeLawKept`).
With the zones-afire set empty and the latch INACTIVE it is accepted without an answer frame: the
fire-stop mark is cleared as one store update, SAFE_WITH_FAULT is cleared, the node enters RESUMING,
POWER ON and then the reconcile PARK are sent, and the gantry becomes HOMING. Otherwise it is refused
with FIRE_ACTIVE at level 2 and changes nothing; the last clause says so of every block, in a state
where the event's end has nothing of its own to settle. -/
def Obligations.RestartLeavesSafe : Prop :=
  (∀ (s : State) (h : Header), SafeLaw s → h.dst = s.board.station → posts s = true →
    s.fire.node = .safe → s.fire.zones = 0 → s.fire.latch = false →
    ∃ t l, exec (.restart h) s = .next t ∧ t.inv.fireStop = false ∧
      OneUpdate s t s.sched.stepEnded ∧
      t.fire.safeWithFault = false ∧ t.fire.node = .resuming ∧ t.motion.power = true ∧
      t.motion.gantry = .homing ∧ t.motion.out = .power true :: (l ++ [.park true]) ∧
      t.bus.replies = s.bus.replies) ∧
  (∀ (s : State) (h : Header), h.dst = s.board.station → Passes s h → s.fire.node = .safe →
    ¬ (s.fire.zones = 0 ∧ s.fire.latch = false) → s.bus.replies.length < 8 →
    ∃ t q, exec (.restart h) s = .next t ∧
      t.bus.replies = s.bus.replies ++ [posted q (refusal s 2 h .fireActive)] ∧ t.fire = s.fire ∧
      t.inv.fireStop = s.inv.fireStop ∧ t.inv.records = s.inv.records ∧
      t.inv.columns = s.inv.columns ∧ t.stow = s.stow ∧ t.det = s.det ∧ t.setup = s.setup) ∧
  ∀ (s : State) (h : Header), h.dst = s.board.station → Passes s h → s.fire.node = .safe →
    ¬ (s.fire.zones = 0 ∧ s.fire.latch = false) → s.bus.replies.length < 8 →
    s.inv.overflow = none → (∀ sd ∈ sides, (view s sd).resendOwed = false) →
    ∃ t, exec (.restart h) s = .next t ∧ Answered s t h (refusal s 2 h .fireActive) ∧
      Untouched [.bus, .motion, .sched] s t ∧ PortsQuiet s t

/-- Tier 2. R134: a RESTART in RUN starts a drive recovery when the gantry is FAULTED; it is refused
with NOT_SAFE when it is not, with BIN_BUSY during a recovery, with NOT_READY in the start-up states and
RESUMING, and with FIRE in SHUTDOWN. R134, R135: HOMED LOADED in RUN with a record in hand makes a
homing put-away pending for it, a wrong tag or NO_TAG setting SUSPECT_TAG; with no record in hand the
gantry becomes FAULTED; HOMED EMPTY with no record in hand ends the recovery. A RESTART in GUARD starts one
in the same way. HOMED EMPTY with a record in hand makes the record AWAY: in its context's reserved entry or
at the tail of the away list, or, with neither to be had, in the overflow place; the gantry is IDLE and the
recovery ends. A STOW, SPILL or RECLAIM whose step it was ends POSITION_FAULT with delivered 0, and a dug bin
costs a context with RESTORE its RESTORE_PARTIAL. With the overflow place occupied too the record stays
IN_HAND and the gantry is FAULTED. What the gantry and the contexts do next is stated for GUARD, where nothing
is scheduled. -/
def Obligations.DriveRecoveryRuns : Prop :=
  ((∀ (s : State) (h : Header), h.dst = s.board.station → Passes s h → Calm s →
    s.motion.gantry = .faulted → s.motion.recovery = false →
    ∃ t, exec (.restart h) s = .next t ∧ t.motion.recovery = true ∧ t.motion.gantry = .homing ∧
      t.motion.power = true ∧ t.motion.timer = some s.setup.motionTimeout ∧
      t.bus.replies = s.bus.replies ∧ t.inv = s.inv ∧ t.sched.ctxs = s.sched.ctxs) ∧
  ∀ (s : State) (h : Header) (r : RefuseReason), h.dst = s.board.station → Passes s h →
    s.bus.replies.length < 8 →
    RestartRefused s r →
    ∃ t q, exec (.restart h) s = .next t ∧
      t.bus.replies = s.bus.replies ++ [posted q (refusal s 2 h r)]) ∧
  ((∀ (s : State) (tag : Option BinId) (r : BinRecord), s.fire.node = .run → s.motion.gantry = .homing →
    inHand s = some r → recordOf s r.body.bin = some r →
    ∃ t, exec (.homed (.loaded tag)) s = .next t ∧ t.motion.putAway = some r.body.bin ∧
      recordOf t r.body.bin = some
        { r with
          body := { r.body with
            suspectTag := r.body.suspectTag || decide (tag ≠ some r.body.bin) } } ∧
      t.inv.columns = s.inv.columns) ∧
  (∀ (s : State) (tag : Option BinId), Calm s → s.motion.gantry = .homing → inHand s = none →
    ∃ t, exec (.homed (.loaded tag)) s = .next t ∧ t.motion.gantry = .faulted ∧
      t.motion.recovery = false ∧ t.inv = s.inv) ∧
  ∀ s : State, s.fire.node = .run → s.motion.gantry = .homing → inHand s = none →
    ∃ t, exec (.homed .empty) s = .next t ∧ t.motion.putAway = none ∧ t.motion.recovery = false ∧
      t.inv.records = s.inv.records ∧ t.inv.columns = s.inv.columns) ∧
  (∀ (s : State) (h : Header), h.dst = s.board.station → Passes s h → s.fire.node = .guarded →
    s.motion.held = none → s.motion.gantry = .faulted → s.motion.recovery = false →
    ∃ t, exec (.restart h) s = .next t ∧ t.motion.recovery = true ∧ t.motion.gantry = .homing ∧
      t.motion.power = true ∧ t.motion.timer = some s.setup.motionTimeout ∧
      t.bus.replies = s.bus.replies ∧ t.inv.records = s.inv.records ∧
      t.inv.columns = s.inv.columns) ∧
  ∀ (s : State) (r : BinRecord), s.fire.node = .run ∨ s.fire.node = .guarded → TablesSized s →
    s.motion.held = none → s.motion.gantry = .homing → inHand s = some r →
    recordOf s r.body.bin = some r →
    let entry : AwayEntry := { bin := r.body.bin, winner := none }
    let overflow : List AwayEntry := (s.inv.overflow.map (fun b => { bin := b, winner := none })).toList
    let reserved := ∃ n, jobOf s r.body.bin = some n ∧ (ctxOf s n).reserved = true
    ((reserved ∨ awayTotal s < 32 ∨ s.inv.overflow = none) →
      ∃ t, exec (.homed .empty) s = .next t ∧
        recordOf t r.body.bin = some { r with residence := .away } ∧
        (∀ k, k ≠ r.body.bin → recordOf t k = recordOf s k) ∧ t.inv.columns = s.inv.columns ∧
        awayLine t = s.inv.away ++ [entry] ++ overflow ∧ t.motion.putAway = none ∧
        t.motion.recovery = false ∧
        (s.fire.node = .guarded → t.motion.gantry = .idle ∧
          (¬ reserved → 32 ≤ awayTotal s → jobOf s r.body.bin = none →
            t.inv.overflow = some r.body.bin) ∧
          ∀ n, jobOf s r.body.bin = some n → (ctxOf s n).state = .paused →
            ((ctxOf s n).kind = .stow ∨ (ctxOf s n).kind = .spill ∨ (ctxOf s n).kind = .reclaim →
              s.sched.doneQ.length < 8 →
              ctxOf t n = Ctx.blank ∧ ∃ e ∈ t.sched.doneQ, e.body.outcome = .positionFault ∧
                e.body.ctx = n ∧ e.body.delivered = 0) ∧
            ((ctxOf s n).kind = .fetch ∨ (ctxOf s n).kind = .verify →
              (ctxOf s n).step.map (·.kind) = some .dig → (ctxOf s n).restore = true →
              (ctxOf t n).restorePartial = true))) ∧
    (¬ reserved → 32 ≤ awayTotal s → s.inv.overflow.isSome →
      ∃ t, exec (.homed .empty) s = .next t ∧ recordOf t r.body.bin = some r ∧
        awayLine t = awayLine s ∧ t.motion.gantry = .faulted ∧ t.motion.recovery = false ∧
        t.inv.columns = s.inv.columns)

/-! ### The detector grader -/

/-- Tier 2. R142: a sample of a fitted input that does not complete its window: a measurement is added
to the accumulator, 1,023 sets fault-seen, and either is counted; nothing else of any input changes.
R142, R143, R145: the sample that completes a window of good readings. With m the mean rounded down and
up the highest k with m ≥ Tk: a grade below up becomes up; otherwise WATCH falls below T1 − h, WARN
falls below T2 − h and on below T1 − h, and ALARM stays. The worst-since-read follows a rise, and FAULT
clears. A window with a fault reading in it sets FAULT and leaves the grade. -/
def Obligations.WindowGradesInput : Prop :=
  (∀ (s : State) (n x : Nat) (i : DetInput), s.det[n]? = some i → x < 1024 →
    (∃ k, s.setup.types[n]? = some k ∧ k ≠ .unfitted) → i.count + 1 < s.setup.window →
    ∃ t, exec (.sensorSample n x) s = .next t ∧
      t.det = s.det.set n
        (if x < 1023 then { i with acc := i.acc + x, count := i.count + 1 }
          else { i with faultSeen := true, count := i.count + 1 })) ∧
  (∀ (s : State) (n x : Nat) (i : DetInput) (k : InputType) (v : Thresholds), s.det[n]? = some i →
    s.setup.types[n]? = some k → (k = .heat ∧ v = s.setup.heat ∨ k = .smoke ∧ v = s.setup.smoke) →
    v.t1 < v.t2 → v.t2 < v.t3 → s.setup.window = i.count + 1 →
    (i.faultSeen = false → x < 1023 →
      ∃ t j, exec (.sensorSample n x) s = .next t ∧ t.det = s.det.set n j ∧
        j.mean = some ((i.acc + x) / s.setup.window) ∧ j.fault = false ∧ j.acc = 0 ∧ j.count = 0 ∧
        j.faultSeen = false ∧
        gradeNum j.worst = max (gradeNum i.worst) (gradeNum j.grade) ∧
        (let m := (i.acc + x) / s.setup.window
         let up := if v.t3 ≤ m then 3 else if v.t2 ≤ m then 2 else if v.t1 ≤ m then 1 else 0
         if gradeNum i.grade < up then gradeNum j.grade = up
         else if i.grade = .warn ∧ m < v.t2 - v.h then
           j.grade = if m < v.t1 - v.h then .normal else .watch
         else if i.grade = .watch ∧ m < v.t1 - v.h then j.grade = .normal
         else j.grade = i.grade)) ∧
    (i.faultSeen = true ∨ 1023 ≤ x →
      ∃ t, exec (.sensorSample n x) s = .next t ∧
        t.det = s.det.set n { i with fault := true, acc := 0, count := 0, faultSeen := false }))

/-! ### The retained store and the periodic timers -/

/-- Tier 2. R20: the oldest update being written becomes the retained image; a transfer held for the
store is commanded once no update still being written was that of its context's last step. A frame
posted in an event whose update is still being written is not one the transmitter may send, unless it is
an ALARM: that every frame of the event depends on it is the model's reading (assumption 8). R114, R165: an
answer that waited for the update alone joins the reply list's tail as it completes, behind the answers posted
meanwhile; the pending answer is the first that waits for no update, so one that waits holds none of those up.
That its room is taken when the request is acted on is the model's choice (assumption 72). -/
def Obligations.StoreUpdateCompletes : Prop :=
  (∀ (s : State) (u : StoreUpdate) (us : List StoreUpdate), s.store.queue = u :: us →
    ∃ t, exec .storeUpdateComplete s = .next t ∧ t.store = { image := u.image, queue := us } ∧
      Untouched [.store, .bus, .motion, .sched] s t ∧ PortsQuiet s t ∧
      t.bus.replies =
        s.bus.replies.filter (fun f => !(unposted s f && !unposted t f)) ++
          s.bus.replies.filter (fun f => unposted s f && !unposted t f) ∧
      t.bus = { s.bus with
        seq := s.bus.seq + 1, turns := t.bus.turns, replies := t.bus.replies } ∧
      (∀ f ∈ s.bus.replies, unposted s f = true → unposted t f = false → turnOf t f = s.bus.seq ∨
        ∃ p ∈ s.bus.turns, p.1 = f.seq) ∧
      (∀ x n, s.motion.held = some x → x.owner = some n → us.all (fun v => v.stepCtx ≠ some n) →
        t.motion.xfer = some x ∧ t.motion.held = none ∧ t.motion.out = [.transfer x.src x.dst])) ∧
  (∀ (s : State) (k : TxKey) (f : PFrame) (u : StoreUpdate), u ∈ s.store.queue →
    u.start ≤ f.seq → f.seq < u.stop → k ≠ .alarm → (k, f) ∉ sendable s) ∧
  ∀ (s : State) (f : PFrame) (l r : List PFrame), s.bus.replies = l ++ f :: r →
    (∀ g ∈ l, ∃ u ∈ s.store.queue, u.start ≤ g.seq ∧ g.seq < u.stop) →
    (∀ u ∈ s.store.queue, u.start ≤ f.seq ∧ u.stop ≤ f.seq ∧
      ∀ before, contentReads before u f.frame.payload = false) →
    (TxKey.reply, f) ∈ pendingSet s ∧ (TxKey.reply, f) ∈ sendable s

/-- Tier 2. R34, the decay timer. After reset it runs with 60 minutes; an accepted SETUP restarts it
with the SETUP's period, and a period of 0 stops it. At each expiry, in every node state, every record's
demand falls by 1 to a floor of 0, as one store update that is written only if some demand changed; the
timer restarts with the period, F, the away list and the motion port do not change, and no STATE is
posted. While it is stopped no decay occurs. -/
def Obligations.DecayLowersDemand : Prop :=
  (∀ (s : State) (p : StrapPins) (pin : Bool), ∃ t, exec (.reset p pin) s = .next t ∧
    t.startup.decayTimer = some 60) ∧
  (∀ (s : State) (h : Header) (f : SetupFrame), Passes s h → s.bus.replies.length < 8 →
    s.fire.node = .joining → (setupOf f).heat.ascends = true → (setupOf f).smoke.ascends = true →
    ∃ t, exec (.setup h f) s = .next t ∧
      t.startup.decayTimer = if min 255 f.decayPeriod = 0 then none else some (min 255 f.decayPeriod)) ∧
  (∀ s : State, s.startup.decayTimer.isSome →
    ∃ t, exec .decayTimerExpiry s = .next t ∧
      t.inv = { s.inv with
        records := s.inv.records.map (fun r =>
          { r with body := { r.body with demand := r.body.demand - 1 } }) } ∧
      t.startup = { s.startup with decayTimer := some s.setup.decayPeriod } ∧
      t.store.image = s.store.image ∧
      (s.inv.records.all (fun r => r.body.demand = 0) → t.store.queue = s.store.queue) ∧
      (s.inv.records.any (fun r => r.body.demand ≠ 0) → OneUpdate s t s.sched.stepEnded) ∧
      freePositions t = freePositions s ∧
      Untouched [.inv, .startup, .store, .motion, .sched] s t ∧ PortsQuiet s t) ∧
  ∀ s : State, s.startup.decayTimer = none →
    ∃ t, exec .decayTimerExpiry s = .next t ∧ Untouched [.motion, .sched] s t ∧ PortsQuiet s t

/-- Tier 2. R168, R174: at each expiry of the state period a STATE built then is pending in place of any
other that has not started, behind one in transmission, and the period starts again. Both neighbour
entries grow older by one period. R160: in RUN, at an expiry of the state period, OPEN is asked again of
a CLOSED or UNKNOWN shutter that has no fire reason to be closed. The chute's is shown. The count of
periods since a neighbour was heard is the model's own (assumption 6). -/
def Obligations.StatePeriodRuns : Prop :=
  (∀ s : State, Calm s → posts s = true → (∀ sh ∈ shutterIds, (shutter s sh).state = .opened) →
    (∀ sd ∈ sides, (view s sd).takenOwed = none) →
    ∃ t, exec .statePeriodExpiry s = .next t ∧
      t.bus.state = s.bus.state.filter (fun f => (s.bus.tx.map (·.pf.seq)) = some f.seq) ++
        [posted s.bus.seq
          { level := 11, rank := 0, src := s.board.station, dst := 0, tag := 0,
            payload := .state (stateReport s) }] ∧
      t.startup = { s.startup with stateTimer := s.setup.statePeriod } ∧
      (∀ sd ∈ sides, nbr t sd = { nbr s sd with sinceHeard := (nbr s sd).sinceHeard + 1 }) ∧
      t.bus.replies = s.bus.replies ∧ t.bus.counters = s.bus.counters ∧
      Untouched [.startup, .bus, .motion, .sched] s t ∧ PortsQuiet s t) ∧
  (∀ s : State, Calm s → s.motion.power = true →
    ((shutter s .chute).state = .closed ∨ (shutter s .chute).state = .unknown) →
    ∃ t, exec .statePeriodExpiry s = .next t ∧ (shutter t .chute).state = .opening ∧
      (shutter t .chute).asked = some .opened ∧
      (shutter t .chute).timer = some s.setup.motionTimeout ∧
      .shutter .chute .opened ∈ t.motion.out)

/-! ### The neighbour table -/

/-- Tier 2. R101: three state periods of silence make a PRESENT entry ABSENT with its lost flag set,
and a LOADED_OUT view on that side is owed a resend (R111, R113). R101: an ANNOUNCE of a neighbour
gives its entry the role, the zone, the free positions and the node state JOINING, and a STATE gives
it the role BAY and what it advertises; either makes it PRESENT and restarts its time since heard. How
that time is kept is the model's own (assumptions 2 and 6). -/
def Obligations.NeighbourEntryFollows : Prop :=
  (∀ (s : State) (sd : Side), (nbr s sd).station.isSome → (nbr s sd).present = true →
    ∃ t, exec (.neighbourAbsent sd) s = .next t ∧
      nbr t sd = { nbr s sd with present := false, lost := true } ∧
      (∀ e, e ≠ sd → nbr t e = nbr s e) ∧
      (Calm s → (nbr s sd).role = .bay → (view s sd).state = .loadedOut →
        (view t sd).state = .loadedOut ∧ (view t sd).resendOwed = true)) ∧
  ((∀ (s : State) (h : Header) (f : AnnounceFrame) (sd : Side) (z : Zone), accepts s h = true →
    posts s = true → sideOfStation s h.src = some sd → f.role < 2 → f.zone = z.toNat →
    ∃ t, exec (.announce h f) s = .next t ∧
      nbr t sd = { nbr s sd with
        role := if f.role = 0 then .bay else .other, zone := some z, free := some f.free,
        nodeState := some .joining, present := true, sinceHeard := 0, phase := .within }) ∧
  ∀ (s : State) (h : Header) (f : StateFrame) (sd : Side) (z : Zone) (n : NodeState),
    accepts s h = true → posts s = true → sideOfStation s h.src = some sd → f.zone = z.toNat →
    nodeStateOf f.nodeState = some n →
    ∃ t, exec (.state h f) s = .next t ∧
      nbr t sd = { nbr s sd with
        role := .bay, zone := some z, free := some f.free, reserve := some f.reserve,
        nodeState := some n, present := true, sinceHeard := 0, phase := .within })

/-- Tier 2. R101, R176: a frame that the filter discards is only heard: its sender's entry becomes
PRESENT with its time since heard at 0, no counter moves and nothing is posted. R169, R170, R176, R177: a
passed frame that no owner takes. One of a kind not in the catalogue, or of a length its kind does not
allow (the kinds of one length are listed), is counted with the requests dropped; CLAIM, PROGRESS, DONE,
RETURN CLAIM and a REFUSE of another reason than OFFER_CLOSED are only received; a QUERY of none of the
six query kinds, addressed to the node, is refused with MALFORMED at level 2. R145, R169, R176: a query
whose REPLY would not fit the full reply list is not acted on: it is counted with the requests dropped
and has none of its side effects. R102: a slot frame of any station that is not a neighbour is ignored
and counted with the requests dropped. -/
def Obligations.FramesNotTaken : Prop :=
  (∀ (s : State) (h : Header), hearingLifts s h.src = false →
    ∃ t, exec (.receiveFilterDiscard h) s = .next t ∧ HeardOnly s t h ∧
      t.bus.counters = s.bus.counters ∧ Untouched [.bus, .motion, .sched] s t ∧ PortsQuiet s t) ∧
  ((∀ (s : State) (h : Header) (f : RawBody), Passes s h →
    (f.kind = 0 ∨ 36 < f.kind ∨
      ∃ p ∈ [(1, 37), (3, 0), (6, 0), (7, 3), (8, 7), (9, 7), (10, 7), (11, 7), (12, 4), (13, 0),
          (14, 1), (15, 0), (16, 3), (17, 2), (18, 2), (19, 8), (20, 10), (21, 5), (22, 1), (23, 5),
          (24, 9), (25, 6), (26, 3), (27, 44), (28, 2), (29, 2), (30, 2), (31, 1), (32, 44), (33, 2),
          (34, 10), (35, 1)], f.kind = p.1 ∧ f.payload.length ≠ p.2) →
    ∃ t, exec (.receivedFrameIgnored h f) s = .next t ∧ HeardOnly s t h ∧
      t.bus.counters = oneDropped s.bus.counters ∧ Untouched [.bus, .motion, .sched] s t ∧
      PortsQuiet s t) ∧
  (∀ (s : State) (h : Header) (f : RawBody), Passes s h →
    ((∃ p ∈ [(21, 5), (23, 5), (24, 9), (34, 10)], f.kind = p.1 ∧ f.payload.length = p.2) ∨
      f.kind = 22 ∧ ∃ b, f.payload = [b] ∧ b ≠ 17) →
    ∃ t, exec (.receivedFrameIgnored h f) s = .next t ∧ HeardOnly s t h ∧
      t.bus.counters = oneReceived s.bus.counters ∧ Untouched [.bus, .motion, .sched] s t ∧
      PortsQuiet s t) ∧
  ∀ (s : State) (h : Header) (f : RawBody) (q a b : Byte), Passes s h → h.dst = s.board.station →
    s.bus.replies.length < 8 → f.kind = 16 → f.payload = [q, a, b] → 5 < q.toNat →
    ∃ t, exec (.receivedFrameIgnored h f) s = .next t ∧
      Answered s t h (refusal s 2 h .malformed) ∧ t.bus.counters = oneReceived s.bus.counters ∧
      Untouched [.bus, .motion, .sched] s t ∧ PortsQuiet s t) ∧
  (∀ (s : State) (h : Header) (c : Instr), Passes s h → h.dst = s.board.station →
    8 ≤ s.bus.replies.length →
    (c = .queryJobSummary h ∨ c = .queryDetectors h ∨ c = .queryNeighbours h ∨ c = .queryCounters h ∨
      (∃ b, c = .queryBinRecord h b) ∨ ∃ k, c = .queryColumn h k) →
    ∃ t, exec c s = .next t ∧ HeardOnly s t h ∧ t.bus.counters = oneDropped s.bus.counters ∧
      Untouched [.bus, .motion, .sched] s t ∧ PortsQuiet s t) ∧
  (∀ (s : State) (h : Header) (c : Instr), Calm s → Passes s h → sideOfStation s h.src = none →
      ((∃ b, c = .slotClaim h b) ∨ (∃ b, c = .slotGrant h b) ∨ (∃ r, c = .slotRefuse h r) ∨
        (∃ r, c = .slotLoaded h r) ∨ ∃ b, c = .slotTaken h b) →
      ∃ t, exec c s = .next t ∧ HeardOnly s t h ∧ t.bus.counters = oneDropped s.bus.counters ∧
        Untouched [.bus, .motion, .sched] s t ∧ PortsQuiet s t)

/-! ### Queries -/

/-- Tier 2. R169: the bin-record, column and job-summary queries addressed to the node are answered
with a REPLY at level 2 to the source with its tag, and change nothing else but the counters and the
sender's time since heard. Which arguments ask for the away list is the model's reading (assumption
33). -/
def Obligations.InventoryQueriesAnswered : Prop :=
  ∀ (s : State) (h : Header), Passes s h → h.dst = s.board.station → s.bus.replies.length < 8 →
    (∀ b, 1 ≤ b → b ≤ 65534 →
      ∃ t, exec (.queryBinRecord h b) s = .next t ∧
        Answered s t h (replyTo s h (.binRecord (recordOf s b))) ∧
        t.bus.counters = oneReceived s.bus.counters ∧ Untouched [.bus, .motion, .sched] s t ∧
        PortsQuiet s t) ∧
    (∀ c, c < columnCount s → c < 65280 →
      ∃ t, exec (.queryColumn h c) s = .next t ∧
        Answered s t h (replyTo s h (.column c (column s c).suspect (column s c).bins)) ∧
        t.bus.counters = oneReceived s.bus.counters ∧ Untouched [.bus, .motion, .sched] s t ∧
        PortsQuiet s t) ∧
    (∀ k, k < 32 →
      ∃ t, exec (.queryColumn h (65280 + k)) s = .next t ∧
        Answered s t h (replyTo s h (.awayList s.inv.away.length k
          (((s.inv.away.drop k).take 15).map (fun e => (e.bin, (residenceOf s e.bin).getD .away))))) ∧
        t.bus.counters = oneReceived s.bus.counters ∧ Untouched [.bus, .motion, .sched] s t ∧
        PortsQuiet s t) ∧
    ∃ t, exec (.queryJobSummary h) s = .next t ∧
      Answered s t h (replyTo s h (.jobSummary (s.sched.ctxs.map (fun c =>
        (c.state, if c.state = .free then none else some c.cls))))) ∧
      t.bus.counters = oneReceived s.bus.counters ∧ Untouched [.bus, .motion, .sched] s t ∧
      PortsQuiet s t

/-- Tier 2. R145: a detectors query is answered with the input records as they stand, and sets each
worst-since-read to the input's grade. R101: a neighbours query returns both entries, the query's
own sender heard, and clears both lost flags; the time since heard is the count of state periods where
it began with the timer, that or one fewer where it began within a period, so 0 for a sender just heard
(how it is kept is the model's own, assumption 2). R170: a counters query answers with the five counters
as they stand, the query itself received, and sets all five to 0. That the reported counters include
the query itself is the model's choice (assumption 43). -/
def Obligations.ReadsThatClear : Prop :=
  (∀ (s : State) (h : Header), Passes s h → h.dst = s.board.station → s.bus.replies.length < 8 →
    ∃ t, exec (.queryDetectors h) s = .next t ∧
      Answered s t h (replyTo s h (.detectors
        ((s.det.zip s.setup.types).map (fun p =>
          { type := p.2, grade := p.1.grade, worst := p.1.worst, fault := p.1.fault,
            mean := p.1.mean, samples := p.1.count }))
        s.setup.window (bayGrade s))) ∧
      t.det = s.det.map (fun i => { i with worst := i.grade }) ∧
      t.bus.counters = oneReceived s.bus.counters ∧ Untouched [.det, .bus, .motion, .sched] s t ∧
      PortsQuiet s t) ∧
  (∀ (s : State) (h : Header), Passes s h → h.dst = s.board.station → s.bus.replies.length < 8 →
    ∃ t w e, exec (.queryNeighbours h) s = .next t ∧
      t.bus.replies = s.bus.replies ++ [posted s.bus.seq (replyTo s h (.neighbours w e))] ∧
      (∀ p ∈ [(Side.west, w), (Side.east, e)],
        p.2.station = (heardNbr s h.src p.1).station ∧ p.2.role = (heardNbr s h.src p.1).role ∧
        p.2.zone = (heardNbr s h.src p.1).zone ∧ p.2.present = (heardNbr s h.src p.1).present ∧
        p.2.lost = (heardNbr s h.src p.1).lost ∧ p.2.free = (heardNbr s h.src p.1).free ∧
        p.2.reserve = (heardNbr s h.src p.1).reserve ∧
        p.2.nodeState = (heardNbr s h.src p.1).nodeState ∧
        ((heardNbr s h.src p.1).sinceHeard ≤ 65535 →
          ((heardNbr s h.src p.1).phase = .aligned →
            p.2.periods = (heardNbr s h.src p.1).sinceHeard) ∧
          ((heardNbr s h.src p.1).phase = .within →
            p.2.periods = (heardNbr s h.src p.1).sinceHeard ∨
              p.2.periods + 1 = (heardNbr s h.src p.1).sinceHeard))) ∧
      (∀ sd ∈ sides, nbr t sd = { heardNbr s h.src sd with lost := false }) ∧
      t.bus.counters = oneReceived s.bus.counters ∧
      Untouched [.bus, .free, .motion, .sched] s t ∧ PortsQuiet s t) ∧
  (∀ (s : State) (h : Header), Passes s h → h.dst = s.board.station → s.bus.replies.length < 8 →
    ∃ t, exec (.queryCounters h) s = .next t ∧
      Answered s t h (replyTo s h (.counters (oneReceived s.bus.counters))) ∧
      t.bus.counters = { sent := 0, received := 0, voids := 0, losses := 0, dropped := 0 } ∧
      Untouched [.bus, .motion, .sched] s t ∧ PortsQuiet s t)

/-! ### Item operations -/

/-- Tier 2. R116: LEND turns an IN slot with the item's id OUT, and REFILL an OUT slot IN, keeping the
id, so that the loan count rises or falls by 1; any other slot state is refused with SLOT_STATE, and a
wrong item id with WRONG_ITEM. Nothing of residence, demand, column or away list changes and no STATE is
posted. R117: WITHDRAW empties an IN or CLASH slot with the item's id and leaves the loan count; an OUT
or EMPTY slot is refused with SLOT_STATE, and a wrong item id with WRONG_ITEM. -/
def Obligations.LendRefillWithdraw : Prop :=
  (∀ (s : State) (h : Header) (r : BinRecord) (i : Nat) (item : ItemId) (k : ItemSlot),
    ItemOpReady s h r i item → r.body.slots[i]? = some k →
    (k.state = .inBin → k.item = item →
      ItemDone s (.lend h r.body.bin i item) h r i { state := .lentOut, item } ∧
      loanCount (withSlot r i { state := .lentOut, item }).body = loanCount r.body + 1) ∧
    (k.state = .lentOut → k.item = item →
      ItemDone s (.refill h r.body.bin i item) h r i { state := .inBin, item } ∧
      loanCount (withSlot r i { state := .inBin, item }).body + 1 = loanCount r.body) ∧
    (k.state ≠ .inBin → Refused s (.lend h r.body.bin i item) h 2 .slotState) ∧
    (k.state ≠ .lentOut → Refused s (.refill h r.body.bin i item) h 2 .slotState) ∧
    (k.state = .inBin → k.item ≠ item →
      Refused s (.lend h r.body.bin i item) h 2 .wrongItem) ∧
    (k.state = .lentOut → k.item ≠ item →
      Refused s (.refill h r.body.bin i item) h 2 .wrongItem)) ∧
  (∀ (s : State) (h : Header) (r : BinRecord) (i : Nat) (item : ItemId) (k : ItemSlot),
    ItemOpReady s h r i item → r.body.slots[i]? = some k →
    (k.state = .inBin ∨ k.state = .clash → k.item = item →
      ItemDone s (.withdraw h r.body.bin i item) h r i { state := .empty, item := 0 } ∧
      loanCount (withSlot r i { state := .empty, item := 0 }).body = loanCount r.body) ∧
    (k.state = .inBin ∨ k.state = .clash → k.item ≠ item →
      Refused s (.withdraw h r.body.bin i item) h 2 .wrongItem) ∧
    (k.state = .lentOut ∨ k.state = .empty →
      Refused s (.withdraw h r.body.bin i item) h 2 .slotState))

/-- Tier 2. R118: ACCESSION puts an item IN an EMPTY slot, unless its id stands IN or OUT in any item
slot of any record the node holds, which is refused with DUPLICATE; any other slot state is refused with
SLOT_STATE. Slots in state CLASH are not scanned. -/
def Obligations.AccessionAddsANewItem : Prop :=
  ∀ (s : State) (h : Header) (r : BinRecord) (i : Nat) (item : ItemId) (k : ItemSlot),
    ItemOpReady s h r i item → r.body.slots[i]? = some k →
    (k.state = .empty →
      (∀ q ∈ s.inv.records, ∀ j ∈ q.body.slots,
        ¬ ((j.state = .inBin ∨ j.state = .lentOut) ∧ j.item = item)) →
      ItemDone s (.accession h r.body.bin i item) h r i { state := .inBin, item }) ∧
    (k.state = .empty →
      (∃ q ∈ s.inv.records, ∃ j ∈ q.body.slots,
        (j.state = .inBin ∨ j.state = .lentOut) ∧ j.item = item) →
      Refused s (.accession h r.body.bin i item) h 2 .duplicate) ∧
    (k.state ≠ .empty → Refused s (.accession h r.body.bin i item) h 2 .slotState)

/-- Tier 2. R114, R115: an item operation for a bin the node holds no record of, or for an id of 0 or above
65,534 (assumption 40), leaves it silent; with a record it is refused with MALFORMED for a slot above 7 or
an item of 0, then with NOT_READY in the start-up states and RESUMING, then with NOT_AWAY for a record that
is not AWAY. -/
def Obligations.ItemOpsRefusedInOrder : Prop :=
  ∀ (s : State) (h : Header) (b : BinId) (i : Nat) (item : ItemId) (c : Instr), Passes s h →
    (c = .lend h b i item ∨ c = .refill h b i item ∨ c = .withdraw h b i item ∨
      c = .accession h b i item) →
    (recordOf s b = none ∨ isBinId b = false →
      ∃ t, exec c s = .next t ∧ HeardOnly s t h ∧ t.bus.counters = oneReceived s.bus.counters ∧
        Untouched [.bus, .motion, .sched] s t ∧ PortsQuiet s t) ∧
    ∀ r, recordOf s b = some r → isBinId b = true → s.bus.replies.length < 8 →
      (7 < i ∨ item = 0 → Refused s c h 2 .malformed) ∧
      (i ≤ 7 → item ≠ 0 → notReady s = true → Refused s c h 2 .notReady) ∧
      (i ≤ 7 → item ≠ 0 → notReady s = false → r.residence ≠ .away →
        Refused s c h 2 .notAway)

/-- Tier 2. R121: a RETURN QUERY for an item that is OUT in a record of the node is answered with a
RETURN CLAIM at level 2 naming that bin, slot and residence, in every node state; one for an item OUT
nowhere draws no answer. -/
def Obligations.ReturnQueryFindsTheLoan : Prop :=
  ∀ (s : State) (h : Header) (item : ItemId), Passes s h → item ≠ 0 →
    ((∃ r ∈ s.inv.records, ∃ k ∈ r.body.slots, k.state = .lentOut ∧ k.item = item) →
      s.bus.replies.length < 8 →
      ∃ t, ∃ r ∈ s.inv.records, ∃ i, exec (.returnQuery h item) s = .next t ∧
        r.body.slots[i]? = some { state := .lentOut, item } ∧
        Answered s t h (frameOf s 2 0 h.src h.tag (.returnClaim item r.body.bin i r.residence)) ∧
        t.bus.counters = oneReceived s.bus.counters ∧ Untouched [.bus, .motion, .sched] s t ∧
        PortsQuiet s t) ∧
    ((∀ r ∈ s.inv.records, ∀ k ∈ r.body.slots, ¬ (k.state = .lentOut ∧ k.item = item)) →
      ∃ t, exec (.returnQuery h item) s = .next t ∧ HeardOnly s t h ∧
        t.bus.counters = oneReceived s.bus.counters ∧ Untouched [.bus, .motion, .sched] s t ∧
        PortsQuiet s t)

/-! ### Configuration and inventory load -/

/-- Tier 2. R167: outside JOINING a SETUP is refused with SETUP_LOCKED; in JOINING it is refused
with SETUP_INVALID when the thresholds of a type, brought into range, do not ascend, and otherwise
taken: every value in range, every window restarted, both timers restarted, a REPLY with the values,
and RUN, or GUARD when a neighbour zone is afire. The values are those of R167's table: the levels to 10, the
reserve to 63, the periods, windows and timeouts into their ranges, the detector window to the nearest of 8,
16, 32 and 64, the lower on a tie, the thresholds to 1,022, a hysteresis to T1 as clamped, and a type code
that names neither HEAT nor SMOKE to NONE. R148: an input typed NONE is cleared; any other keeps its grade,
worst-since-read, FAULT flag and last mean. That the entry into RUN with a neighbour zone
afire is one into GUARD is the model's reading (assumption 35). -/
def Obligations.SetupTakenOrRefused : Prop :=
  ∀ (s : State) (h : Header) (f : SetupFrame), Passes s h → s.bus.replies.length < 8 →
    (s.fire.node ≠ .joining →
      ∃ t q, exec (.setup h f) s = .next t ∧ t.setup = s.setup ∧ t.det = s.det ∧
        t.bus.replies = s.bus.replies ++ [posted q (refusal s 2 h .setupLocked)]) ∧
    (s.fire.node = .joining →
      ((setupOf f).heat.ascends = false ∨ (setupOf f).smoke.ascends = false) →
      ∃ t q, exec (.setup h f) s = .next t ∧ t.setup = s.setup ∧ t.fire.node = .joining ∧
        t.bus.replies = s.bus.replies ++ [posted q (refusal s 2 h .setupInvalid)]) ∧
    (s.fire.node = .joining → FireLaw s → (setupOf f).heat.ascends = true →
      (setupOf f).smoke.ascends = true →
      ∃ t q, exec (.setup h f) s = .next t ∧ t.setup = setupOf f ∧ SetupInRange f t.setup ∧
        (∀ i ∈ t.det, i.acc = 0 ∧ i.count = 0 ∧ i.faultSeen = false) ∧
        (∀ n i, n < 4 → s.det[n]? = some i → t.det[n]? = some
          (if f.types.getD n 0 = 1 ∨ f.types.getD n 0 = 2 then
            { i with acc := 0, count := 0, faultSeen := false }
          else
            { grade := .normal, worst := .normal, fault := false, mean := none, acc := 0
              count := 0, faultSeen := false })) ∧
        t.startup.stateTimer = (setupOf f).statePeriod ∧
        (t.startup.decayTimer =
          if (setupOf f).decayPeriod = 0 then none else some (setupOf f).decayPeriod) ∧
        (t.fire.node = if neighbourAfire s then .guarded else .run) ∧ t.bus.announce = [] ∧
        t.bus.replies = s.bus.replies ++ [posted q (replyTo s h (.setup (setupOf f)))])

/-- Tier 2. R7, R8: an accepted COLUMN LOAD replaces the column's list, clears its SUSPECT mark, makes every
listed bin RESIDENT at its place in the list, its record kept but for a cleared SUSPECT_TAG, or new with
demand 0 and eight EMPTY slots, makes every bin it takes off the column AWAY, and is answered with a REPLY.
Placed bins leave the away list, and the bins taken off join its tail from the bottom up; the list is told
with the overflow record behind it (R19). Every other column is as it was. A refused one leaves every
column: in HOMING and RESUMING the refusal is NOT_READY, in SHUTDOWN FIRE; in the other states the first
check of R7 that fails names it. A column index of W·D or above, a count that is not the number of ids, more
ids than C, an id out of range or twice, or an id RESIDENT in another column is MALFORMED; a listed bin on
the move, in the overflow place or with a SPILL context is BIN_MOVING; outside SURVEY a column that a
transfer uses, that is dig-locked or that holds a target, or a listed AWAY bin that is offered, is BIN_BUSY;
too few away entries are TABLE_FULL. In SURVEY too the column a homing put-away is on its way to is BIN_BUSY:
that R5 holds there is the model's reading (assumption 74). RESUMING is stated short of its end, which may empty the columns (R21).
That a transfer held for the store uses its columns is the model's reading of R7 (assumption 20). -/
def Obligations.ColumnLoadTakenOrRefused : Prop :=
  (∀ (s : State) (h : Header) (c : Nat) (bins : List BinId), Passes s h → TablesSized s →
    s.bus.replies.length < 8 → s.fire.node ∈ [.survey, .joining, .run, .guarded, .safe] →
    loadRefusal s c bins.length bins = none →
    ∃ t q, exec (.columnLoad h c bins.length bins) s = .next t ∧
      column t c = { bins, suspect := false } ∧ (∀ k, k ≠ c → column t k = column s k) ∧
      (∀ i b, bins[i]? = some b →
        recordOf t b = some { body := loadedBody (recordOf s b) b, residence := .resident c i }) ∧
      awayLine t = s.inv.away.filter (fun e => e.bin ∉ bins ∨ (recordOf s e.bin).isNone) ++
        ((column s c).bins.filter (fun b => b ∉ bins)).map (fun b => { bin := b, winner := none }) ++
        (s.inv.overflow.map (fun b => { bin := b, winner := none })).toList ∧
      (∀ b ∈ (column s c).bins, b ∉ bins → (recordOf s b).isSome → residenceOf t b = some .away) ∧
      t.bus.replies = s.bus.replies ++ [posted q (replyTo s h (.columnLoad c false bins))]) ∧
  (∀ (s : State) (h : Header) (c count : Nat) (bins : List BinId), Passes s h →
    s.bus.replies.length < 8 →
    (s.fire.node = .homing →
      ∃ t q, exec (.columnLoad h c count bins) s = .next t ∧ t.inv.columns = s.inv.columns ∧
        t.bus.replies = s.bus.replies ++ [posted q (refusal s 2 h .notReady)]) ∧
    (s.fire.node = .resuming →
      ∃ t q, exec (.columnLoad h c count bins) s = .next t ∧
        (s.fire.opening = false → t.inv.columns = s.inv.columns ∧ t.inv.records = s.inv.records) ∧
        t.bus.replies = s.bus.replies ++ [posted q (refusal s 2 h .notReady)]) ∧
    (s.fire.node = .shutdown →
      ∃ t q, exec (.columnLoad h c count bins) s = .next t ∧ t.inv.columns = s.inv.columns ∧
        t.bus.replies = s.bus.replies ++ [posted q (refusal s 2 h .fire)]) ∧
    (s.fire.node ∈ [.survey, .joining, .run, .guarded, .safe] →
      ∀ r, LoadRefused s c count bins r →
      ∃ t q, exec (.columnLoad h c count bins) s = .next t ∧ t.inv.columns = s.inv.columns ∧
        t.inv.records = s.inv.records ∧
        t.bus.replies = s.bus.replies ++ [posted q (refusal s 2 h r)]))

/-- Tier 2. R165, R166: a LOAD END addressed to a node in SURVEY writes the strapped geometry and the
valid mark, and the node enters JOINING with an ANNOUNCE pending, behind one in transmission; it answers
with a REPLY. Addressed to the node in HOMING or RESUMING it is refused with NOT_READY, in SHUTDOWN with FIRE
and in every other state with SETUP_LOCKED; one that is not addressed to it is not taken. -/
def Obligations.LoadEndEntersJoining : Prop :=
  (∀ (s : State) (h : Header), Passes s h →
    (h.dst = s.board.station → s.bus.replies.length < 8 →
      (s.fire.node = .homing ∨ s.fire.node = .resuming → Refused s (.loadEnd h) h 2 .notReady) ∧
      (s.fire.node = .shutdown → Refused s (.loadEnd h) h 2 .fire) ∧
      (s.fire.node ∈ [.joining, .run, .guarded, .safe] →
        Refused s (.loadEnd h) h 2 .setupLocked)) ∧
    (h.dst = 0 →
      ∃ t, exec (.loadEnd h) s = .next t ∧ HeardOnly s t h ∧
        t.bus.counters = oneReceived s.bus.counters ∧ Untouched [.bus, .motion, .sched] s t ∧
        PortsQuiet s t)) ∧
  ∀ (s : State) (h : Header), Passes s h → h.dst = s.board.station → s.bus.replies.length < 8 →
    s.fire.node = .survey →
    ∃ t q a, exec (.loadEnd h) s = .next t ∧ t.fire = { s.fire with node := .joining } ∧
      t.inv = { s.inv with hdrW := s.board.w, hdrD := s.board.d, hdrC := s.board.c, valid := true } ∧
      t.bus.announce = s.bus.announce.filter (fun f => (s.bus.tx.map (·.pf.seq)) = some f.seq) ++
        [posted a (frameOf s 11 0 0 0
          (.announce s.board.station s.board.zone s.board.w s.board.d s.board.c (freePositions s)))] ∧
      t.bus.replies = s.bus.replies ++ [posted q (replyTo s h
        (.loadEnd s.board.w s.board.d s.board.c (freePositions s) s.inv.away.length))] ∧
      Untouched [.fire, .inv, .bus, .store, .motion, .sched] s t

/-- Tier 2. R122: the CLASH marking of a record from outside makes CLASH every IN or OUT slot whose item id
stands IN or OUT in another record of the node, or in an earlier slot of its own that stays IN or OUT, and
changes nothing else of it. R9, R122: a survey RECORD in range is stored, CLASH-marked: a bin already
recorded RESIDENT or AWAY keeps its residence and its place in the away list, one with no record that stands
in a column list becomes RESIDENT there, any other becomes AWAY at the tail of the away list. A record out
of range is refused with MALFORMED, one for a bin on the move or in the overflow place with BIN_MOVING, and
one that would need an away entry with none free with TABLE_FULL. That the REPLY holds the marks of the
CLASH marking is the model's choice (assumption 56). -/
def Obligations.SurveyRecordStored : Prop :=
  (∀ (s : State) (r : RecordBody),
    (clashMark s r).bin = r.bin ∧ (clashMark s r).demand = r.demand ∧
      (clashMark s r).suspectTag = r.suspectTag ∧ (clashMark s r).slots.length = r.slots.length ∧
      ∀ i k, r.slots[i]? = some k →
        (clashMark s r).slots[i]? = some
          (if (k.state = .inBin ∨ k.state = .lentOut) ∧
              ((∃ q ∈ s.inv.records, q.body.bin ≠ r.bin ∧ ∃ j ∈ q.body.slots,
                  (j.state = .inBin ∨ j.state = .lentOut) ∧ j.item = k.item) ∨
                ∃ j ∈ (clashMark s r).slots.take i,
                  (j.state = .inBin ∨ j.state = .lentOut) ∧ j.item = k.item) then
            { k with state := .clash }
          else k)) ∧
  ∀ (s : State) (h : Header) (r : RawRecord), Passes s h → s.bus.replies.length < 8 →
    s.fire.node = .survey →
    (recordInRange r = false → Refused s (.recordSurvey h r) h 2 .malformed) ∧
    (recordInRange r = true →
      (s.inv.overflow = some r.bin ∨ ∃ p, residenceOf s r.bin = some p ∧ p ≠ .away ∧
        ∀ c i, p ≠ .resident c i) →
      Refused s (.recordSurvey h r) h 2 .binMoving) ∧
    (recordInRange r = true → s.inv.overflow ≠ some r.bin → recordOf s r.bin = none →
      findBin s r.bin = none → 32 ≤ awayTotal s →
      Refused s (.recordSurvey h r) h 2 .tableFull) ∧
    (recordInRange r = true → s.inv.overflow ≠ some r.bin →
      ∀ p, residenceOf s r.bin = some p → (p = .away ∨ ∃ c i, p = .resident c i) →
      ∃ t q, exec (.recordSurvey h r) s = .next t ∧
        recordOf t r.bin = some { body := clashMark s (bodyOf r), residence := p } ∧
        (∀ b, b ≠ r.bin → recordOf t b = recordOf s b) ∧ t.inv.away = s.inv.away ∧
        t.bus.replies = s.bus.replies ++
          [posted q (replyTo s h (.record { body := clashMark s (bodyOf r), residence := p }))]) ∧
    (recordInRange r = true → s.inv.overflow ≠ some r.bin → recordOf s r.bin = none →
      ∀ c i, findBin s r.bin = some (c, i) →
      ∃ t q, exec (.recordSurvey h r) s = .next t ∧
        recordOf t r.bin = some { body := clashMark s (bodyOf r), residence := .resident c i } ∧
        (∀ b, b ≠ r.bin → recordOf t b = recordOf s b) ∧ t.inv.away = s.inv.away ∧
        t.bus.replies = s.bus.replies ++
          [posted q (replyTo s h
            (.record { body := clashMark s (bodyOf r), residence := .resident c i }))]) ∧
    (recordInRange r = true → s.inv.overflow ≠ some r.bin → recordOf s r.bin = none →
      findBin s r.bin = none → awayTotal s < 32 →
      ∃ t q, exec (.recordSurvey h r) s = .next t ∧
        recordOf t r.bin = some { body := clashMark s (bodyOf r), residence := .away } ∧
        t.inv.away = s.inv.away ++ [{ bin := r.bin, winner := none }] ∧
        t.bus.replies = s.bus.replies ++
          [posted q (replyTo s h (.record { body := clashMark s (bodyOf r), residence := .away }))])

/-! ### Jobs -/

/-- Tier 2. R60 to R63: in RUN, a well-formed FETCH or VERIFY for which the node holds a claimable bin
takes the lowest-numbered FREE context, READY at the tail of its level's list, or PAUSED in GUARD, with the
request's flags, and is answered with a CLAIM at the class's level: the request positions it claims, and
the depth of each. R42, R44: with the gantry IDLE and no other job, the context of a VERIFY of a top bin is
chosen in that event, takes the dig lock and commands its transfer. R60, R62: a request for which the node
holds no listed bin draws no answer; for one it holds, the first of NOT_READY, FIRE, CLASS_OFF, TABLE_FULL
and, with no bin to be claimed, the reason that fits the first held bin is answered at the class's level. A
malformed one is refused with MALFORMED where it is addressed to the node or lists a bin the node holds; that a
FETCH of class codes 3 to 6 goes at the level of the class its code names is the model's choice (assumption
3). No
refused request takes a context; that is stated where the event's end moves none by itself. -/
def Obligations.JobRequestsJudged : Prop :=
  ((∀ (s : State) (h : Header) (cls : Nat) (k : JobClass) (flags : Byte) (bins : List BinId) (n : Nat),
    Calm s → Passes s h → TablesSized s → s.bus.replies.length < 8 → fetchClassOf cls = some k →
    badFetchList bins.length bins = false → heldBins s bins ≠ [] →
    claimRefusal s (fetchRequest s k flags bins) = none → freeCtx? s = some n →
    ∃ t q, exec (.fetch h cls flags bins.length bins) s = .next t ∧
      JobCreated s t h (fetchRequest s k flags bins) .fetch n ∧
      (∀ m, m ≠ n → ctxOf t m = ctxOf s m) ∧
      t.bus.replies = s.bus.replies ++ [posted q (frameOf s (classLevel s k) 0 h.src h.tag
        (.claim
          ([0, 1, 2, 3].map (fun i =>
            (bins[i]?).any (fun b => b ∈ claimedBins s (fetchRequest s k flags bins))))
          ([0, 1, 2, 3].map (fun i =>
            if (bins[i]?).any (fun b => b ∈ claimedBins s (fetchRequest s k flags bins)) then
              binDepth s (bins.getD i 0) else 0))))] ∧ t.inv = s.inv) ∧
  (∀ (s : State) (h : Header) (cls : Nat) (k : JobClass) (flags : Byte) (bins : List BinId) (n : Nat),
    s.fire.node = .guarded → s.motion.held = none → Passes s h → TablesSized s →
    s.bus.replies.length < 8 → fetchClassOf cls = some k → badFetchList bins.length bins = false →
    heldBins s bins ≠ [] → claimRefusal s (fetchRequest s k flags bins) = none →
    freeCtx? s = some n →
    ∃ t, exec (.fetch h cls flags bins.length bins) s = .next t ∧
      JobMade s t h (fetchRequest s k flags bins) .fetch n ∧ (ctxOf t n).state = .paused) ∧
  (∀ (s : State) (h : Header) (flags : Byte) (b : BinId) (n : Nat), Calm s → Passes s h →
    TablesSized s → s.bus.replies.length < 8 → heldBins s [b] = [b] →
    claimRefusal s (verifyRequest s flags [b]) = none → freeCtx? s = some n →
    ∃ t q, exec (.verify h flags 1 [b]) s = .next t ∧
      JobCreated s t h (verifyRequest s flags [b]) .verify n ∧
      (ctxOf t n).restore = true ∧ (ctxOf t n).chain = false ∧ (ctxOf t n).shortOk = false ∧
      (∀ m, m ≠ n → ctxOf t m = ctxOf s m) ∧
      t.bus.replies = s.bus.replies ++ [posted q (frameOf s s.setup.verify 0 h.src h.tag
        (.claim [true, false, false, false] [binDepth s b, 0, 0, 0]))] ∧ t.inv = s.inv) ∧
  ∀ (s : State) (h : Header) (flags : Byte) (b : BinId) (n c i : Nat), s.fire.node = .run →
    s.motion.gantry = .idle → s.motion.held = none → s.motion.putAway = none →
    s.motion.recovery = false → s.inv.overflow = none →
    (∀ sd ∈ sides, (view s sd).fireClosed = false) → activeCtx? s = none →
    (∀ l ∈ s.sched.ready, l = []) → s.sched.stepEnded = none →
    (∀ u ∈ s.store.queue, u.stepCtx ≠ some n) → TablesSized s → Passes s h →
    s.bus.replies.length < 8 → s.setup.verify ≤ 10 → heldBins s [b] = [b] →
    claimRefusal s (verifyRequest s flags [b]) = none → freeCtx? s = some n →
    residenceOf s b = some (.resident c i) → depthOf s c i = 0 →
    (∀ m ∈ ctxNumbers, (ctxOf s m).lock ≠ some c) →
    ∃ t, exec (.verify h flags 1 [b]) s = .next t ∧ (ctxOf t n).state = .active ∧
      (ctxOf t n).lock = some c ∧ t.sched.ready = s.sched.ready ∧ t.motion.gantry = .movingEmpty ∧
      t.motion.timer = some s.setup.motionTimeout ∧
      t.motion.out = [.transfer (.column c) (.column c)]) ∧
  ((∀ (s : State) (h : Header) (cls : Nat) (k : JobClass) (flags : Byte) (bins : List BinId), Passes s h →
    fetchClassOf cls = some k → badFetchList bins.length bins = false →
    (heldBins s bins = [] →
      ∃ t, exec (.fetch h cls flags bins.length bins) s = .next t ∧ t.bus.replies = s.bus.replies ∧
        (Resting s → t.sched.ctxs = s.sched.ctxs)) ∧
    ∀ r : RefuseReason, heldBins s bins ≠ [] → s.bus.replies.length < 8 →
      RequestRefused s (fetchRequest s k flags bins) r →
      RequestTurnedDown s (.fetch h cls flags bins.length bins) h (classLevel s k) r) ∧
  (∀ (s : State) (h : Header) (flags : Byte) (b : BinId) (r : RefuseReason), Passes s h →
    heldBins s [b] = [b] → s.bus.replies.length < 8 → RequestRefused s (verifyRequest s flags [b]) r →
    RequestTurnedDown s (.verify h flags 1 [b]) h s.setup.verify r) ∧
  ∀ (s : State) (h : Header) (flags : Byte) (count : Nat) (bins : List BinId), Passes s h →
    s.bus.replies.length < 8 → (h.dst = s.board.station ∨ heldBins s bins ≠ []) →
    (∀ cls k, jobClassOf cls = some k →
      (2 < cls ∨ count ≠ bins.length ∨ bins = [] ∨ 4 < bins.length ∨
        (∃ b ∈ bins, b = 0 ∨ 65534 < b) ∨ ¬ bins.Nodup) →
      RequestTurnedDown s (.fetch h cls flags count bins) h (classLevel s k) .malformed) ∧
    ((count ≠ bins.length ∨ bins.length ≠ 1 ∨ ∃ b ∈ bins, b = 0 ∨ 65534 < b) →
      RequestTurnedDown s (.verify h flags count bins) h s.setup.verify .malformed))

/-- Tier 2. R77, R53, R54: a CANCEL that matches one READY or STALLED context ends it HALTED: its
completion record joins the queue and the context is FREE. A CANCEL that matches an ACTIVE context sets
its HALT flag. A PAUSED context ends HALTED at once, unless the set-down carries its transfer, which then sets
its HALT flag. One that is ENDING is left alone. -/
def Obligations.CancelHaltsTheJob : Prop :=
  (∀ (s : State) (h : Header) (n : Nat), Passes s h → TablesSized s → s.motion.held = none →
    (s.fire.node ∈ [.guarded, .shutdown, .safe] ∨
      s.fire.node = .resuming ∧ s.fire.opening = false) →
    ctxNumbers.filter (fun m => cancelMatches h (ctxOf s m)) = [n] → s.sched.doneQ.length < 8 →
    ((ctxOf s n).state = .paused →
      (∀ x, s.motion.xfer = some x → ¬ (x.setDown = true ∧ x.owner = some n)) →
      ∃ t e, exec (.cancel h) s = .next t ∧ ctxOf t n = Ctx.blank ∧
        t.sched.doneQ = s.sched.doneQ ++ [e] ∧ e.body.outcome = .halted ∧ e.body.ctx = n ∧
        e.body.origin = h.src ∧ e.body.tag = h.tag ∧ e.body.cls = (ctxOf s n).cls ∧
        e.body.claimed = (ctxOf s n).claimed ∧ e.body.delivered = (ctxOf s n).delivered) ∧
    (∀ x, (ctxOf s n).state = .paused → s.motion.xfer = some x → x.setDown = true →
      x.owner = some n →
      ∃ t, exec (.cancel h) s = .next t ∧ ctxOf t n = { ctxOf s n with halt := true } ∧
        t.sched.doneQ = s.sched.doneQ) ∧
    ((ctxOf s n).state = .ending →
      ∃ t, exec (.cancel h) s = .next t ∧ ctxOf t n = ctxOf s n ∧
        t.sched.doneQ = s.sched.doneQ)) ∧
  ∀ (s : State) (h : Header) (n : Nat), Calm s → Passes s h → TablesSized s →
    ctxNumbers.filter (fun m => cancelMatches h (ctxOf s m)) = [n] → s.sched.doneQ.length < 8 →
    ((ctxOf s n).state = .ready ∨ (ctxOf s n).state = .stalled →
      ∃ t e, exec (.cancel h) s = .next t ∧ ctxOf t n = Ctx.blank ∧
        t.sched.doneQ = s.sched.doneQ ++ [e] ∧ e.body.outcome = .halted ∧ e.body.ctx = n ∧
        e.body.origin = h.src ∧ e.body.tag = h.tag ∧ e.body.cls = (ctxOf s n).cls ∧
        e.body.claimed = (ctxOf s n).claimed ∧ e.body.delivered = (ctxOf s n).delivered) ∧
    ((ctxOf s n).state = .active →
      ∃ t, exec (.cancel h) s = .next t ∧ ctxOf t n = { ctxOf s n with halt := true } ∧
        t.sched.doneQ = s.sched.doneQ)

/-- Tier 2. R24 to R27: the scorer answers the eligible column with the lowest S = (2 + d)·t + 4·f + 2·B
+ 64·P, the lowest index among equals, and none exactly when no column is eligible. -/
def Obligations.ScorerPicksLowest : Prop :=
  ∀ (s : State) (d : Nat) (ref : Pos) (who src : Option Nat),
    (∀ c v, choose s d ref who src = some (c, v) →
      c < columnCount s ∧ eligible s who src c = true ∧
      v = (2 + d) * distance s.board ref (.column c) + 4 * (column s c).bins.length +
        2 * burial s c + 64 * pendingTargets s c ∧
      ∀ k, k < columnCount s → eligible s who src k = true →
        v ≤ score s d ref k ∧ (k < c → v < score s d ref k)) ∧
    (choose s d ref who src = none ↔
      ∀ k, k < columnCount s → eligible s who src k = false)

/-! ### The gantry -/

/-- Tier 2. R4, R11, R128: a PICKED for a transfer from a column pops the column: its top bin's record
becomes IN_HAND, the gantry LOADED, and a tag that differs, or NO_TAG, sets SUSPECT_TAG on the record and
TAG_FAULT on the context. No other column and no other record changes. R95, R14: from the chute, the
AT_CHUTE IN record becomes IN_HAND, its away entry turns into the context's reservation, and an INBOUND
chute becomes EMPTY; that a BLOCKED one stays BLOCKED is the model's reading (assumption 18). R109, R122:
from a slot, the record a SPILL context carries becomes a record of the node, CLASH-marked and IN_HAND;
R112: the IN_SLOT record of a RECLAIM becomes IN_HAND; either way the view becomes FREE and SLOT TAKEN is
pending under its tag. -/
def Obligations.PickPopsTheColumn : Prop :=
  (∀ (s : State) (x : Xfer) (n c : Nat) (bs : List BinId) (b : BinId) (r : BinRecord)
    (tag : Option BinId), Calm s → TablesSized s → n < 16 → s.motion.gantry = .movingEmpty →
    s.motion.xfer = some x → x.owner = some n → x.src = .column c → x.setDown = false →
    c < s.inv.columns.length → (column s c).bins = bs ++ [b] → recordOf s b = some r →
    ∃ t, exec (.picked tag) s = .next t ∧ t.motion.gantry = .loaded ∧
      column t c = { column s c with bins := bs } ∧ (∀ k, k ≠ c → column t k = column s k) ∧
      recordOf t b = some
        { r with
          body := { r.body with suspectTag := r.body.suspectTag || decide (tag ≠ some b) }
          residence := .inHand } ∧
      (∀ k, k ≠ b → recordOf t k = recordOf s k) ∧
      (tag ≠ some b → (ctxOf t n).tagFault = true)) ∧
  (∀ (s : State) (x : Xfer) (n : Nat) (r : BinRecord) (tag : Option BinId), Calm s → TablesSized s →
    n < 16 → s.motion.gantry = .movingEmpty → s.motion.xfer = some x → x.owner = some n →
    x.src = .chute → x.setDown = false → chuteRecord s .inward = some r →
    recordOf s r.body.bin = some r →
    ∃ t, exec (.picked tag) s = .next t ∧ t.motion.gantry = .loaded ∧
      recordOf t r.body.bin = some
        { r with
          body := { r.body with suspectTag := r.body.suspectTag || decide (tag ≠ some r.body.bin) }
          residence := .inHand } ∧
      (∀ k, k ≠ r.body.bin → recordOf t k = recordOf s k) ∧ t.inv.columns = s.inv.columns ∧
      t.inv.away = s.inv.away.filter (fun e => e.bin ≠ r.body.bin) ∧
      (ctxOf t n).reserved = true ∧
      t.motion.chute = (if s.motion.chute = .inbound then .empty else s.motion.chute) ∧
      (tag ≠ some r.body.bin → (ctxOf t n).tagFault = true)) ∧
  ∀ (s : State) (x : Xfer) (n : Nat) (sd : Side) (b : BinId) (tag : Option BinId), Calm s →
    TablesSized s → n < 16 → s.motion.gantry = .movingEmpty → s.motion.xfer = some x →
    x.owner = some n → x.src = .slot sd → x.setDown = false → (view s sd).pend = none →
    (view s sd).raced = none →
    ((∃ r, (ctxOf s n).carried = some (.foreign r) ∧ r.bin = b) ∨
      (ctxOf s n).carried = some (.own b) ∧ ∃ q, recordAt s (.inSlot sd) = some q ∧ q.body.bin = b ∧
        recordOf s b = some q) →
    ∃ t, exec (.picked tag) s = .next t ∧ t.motion.gantry = .loaded ∧
      (∀ r, (ctxOf s n).carried = some (.foreign r) → recordOf t b = some
        { body := { clashMark s r with
            suspectTag := (clashMark s r).suspectTag || decide (tag ≠ some b) }
          residence := .inHand }) ∧
      (∀ q, (ctxOf s n).carried = some (.own b) → recordOf s b = some q → recordOf t b = some
        { q with
          body := { q.body with suspectTag := q.body.suspectTag || decide (tag ≠ some b) }
          residence := .inHand }) ∧
      (∀ k, k ≠ b → recordOf t k = recordOf s k) ∧ t.inv.columns = s.inv.columns ∧
      (ctxOf t n).carried = some (.own b) ∧ (view t sd).state = .free ∧
      (view t sd).pend = some (posted s.bus.seq
        (frameOf s 12 0 ((nbr s sd).station.getD 0) (view s sd).tag (.slotTaken b))) ∧
      (tag ≠ some b → (ctxOf t n).tagFault = true)

/-- Tier 2. R5: a PLACED at a column that is the transfer's destination, or its latest RETARGET's,
appends the bin in hand to the column: its record becomes RESIDENT at the bin count before the push. No
other column and no other record changes. R33, R69: the PLACED on the chute that completes a delivery
raises the bin's demand by 1, to no more than 7, as it makes the record AT_CHUTE OUT and the chute
OUTBOUND. A PLACED on a column leaves the demand. R107, R67: a PLACED in a slot makes the record IN_SLOT and
the view LOADED_OUT under its tag, with SLOT LOADED pending; in GUARD the FETCH whose dig it was is PAUSED
with the bin's entry spilled, and in RUN a put-away ends COMPLETE with delivered 0 (R96). R43, R42: at the
PLACED of a dig on a column, a READY STOW of higher level that stands first preempts: the FETCH enters the
head of its list with its age stamp, and the put-away's transfer is commanded. -/
def Obligations.PlacedEndsTheCarry : Prop :=
  (∀ (s : State) (x : Xfer) (c : Nat) (r : BinRecord), s.fire.node ≠ .resuming →
    s.motion.gantry = .loaded → s.motion.xfer = some x →
    (x.dst = .column c ∨ x.retarget = some (.column c)) → c < s.inv.columns.length →
    inHand s = some r →
    ∃ t, exec (.placed (.column c)) s = .next t ∧
      column t c = { column s c with bins := (column s c).bins ++ [r.body.bin] } ∧
      (∀ k, k ≠ c → column t k = column s k) ∧
      residenceOf t r.body.bin = some (.resident c (column s c).bins.length) ∧
      ∀ b, b ≠ r.body.bin → recordOf t b = recordOf s b) ∧
  ((∀ (s : State) (x : Xfer) (n : Nat) (r : BinRecord), s.fire.node ≠ .resuming →
    s.motion.gantry = .loaded → s.motion.xfer = some x → x.owner = some n → x.dst = .chute →
    s.motion.chute = .empty → inHand s = some r → recordOf s r.body.bin = some r →
    ∃ t, exec (.placed .chute) s = .next t ∧ t.motion.chute = .outbound ∧
      recordOf t r.body.bin = some
        { r with
          body := { r.body with demand := min 7 (r.body.demand + 1) }
          residence := .atChute .outward } ∧
      (∀ b, b ≠ r.body.bin → recordOf t b = recordOf s b) ∧ t.inv.columns = s.inv.columns) ∧
  ∀ (s : State) (x : Xfer) (c : Nat) (r : BinRecord), s.fire.node ≠ .resuming →
    s.motion.gantry = .loaded → s.motion.xfer = some x → x.dst = .column c → inHand s = some r →
    recordOf s r.body.bin = some r →
    ∃ t q, exec (.placed (.column c)) s = .next t ∧ recordOf t r.body.bin = some q ∧ q.body = r.body) ∧
  (∀ (s : State) (x : Xfer) (n : Nat) (sd : Side) (r : BinRecord), TablesSized s → n < 16 →
    s.motion.gantry = .loaded → s.motion.xfer = some x → s.motion.held = none → x.owner = some n →
    (x.dst = .slot sd ∨ x.retarget = some (.slot sd)) → inHand s = some r →
    recordOf s r.body.bin = some r → recordAt s (.inSlot sd) = none → (view s sd).pend = none →
    (s.fire.node = .guarded ∨ s.fire.node = .run ∧ ((ctxOf s n).kind = .stow ∨ (ctxOf s n).kind = .spill) ∧
      (∀ l ∈ s.sched.ready, l = []) ∧ ∀ m ∈ ctxNumbers, (ctxOf s m).state ≠ .stalled) →
    ∃ t, exec (.placed (.slot sd)) s = .next t ∧
      recordOf t r.body.bin = some { r with residence := .inSlot sd } ∧
      (∀ b, b ≠ r.body.bin → recordOf t b = recordOf s b) ∧ t.inv.columns = s.inv.columns ∧
      (view t sd).state = .loadedOut ∧ (view t sd).tag = (view s sd).tag ∧
      (view t sd).loadRefused = false ∧
      (view t sd).pend = some (posted s.bus.seq
        (frameOf s 12 0 ((nbr s sd).station.getD 0) (view s sd).tag (.slotLoaded r.body))) ∧
      (s.fire.node = .guarded → (ctxOf s n).kind = .fetch → (ctxOf s n).state = .active →
        (ctxOf s n).step.map (·.kind) = some .dig → (ctxOf s n).halt = false →
        (∃ k ∈ (ctxOf s n).targets, k.status = .waiting) →
        (ctxOf t n).state = .paused ∧ (ctxOf t n).spilled = (ctxOf s n).spilled + 1 ∧
          (ctxOf t n).reloc = (ctxOf s n).reloc ++ [{ bin := r.body.bin, place := .spilled sd }]) ∧
      (s.fire.node = .run → s.sched.doneQ.length < 8 → (ctxOf s n).state = .active →
        ctxOf t n = Ctx.blank ∧ ∃ e, t.sched.doneQ = s.sched.doneQ ++ [e] ∧
          e.body.outcome = .complete ∧ e.body.ctx = n ∧ e.body.delivered = 0 ∧
          e.body.spilled = (ctxOf s n).spilled + 1)) ∧
  ∀ (s : State) (x : Xfer) (n m c k : Nat) (b : BinId) (r : BinRecord), TablesSized s → n < 16 → m < 16 →
    s.fire.node = .run → (∀ sd ∈ sides, (view s sd).fireClosed = false) → s.inv.overflow = none →
    s.motion.gantry = .loaded → s.motion.xfer = some x → s.motion.held = none →
    s.motion.putAway = none → s.motion.recovery = false → x.owner = some n → x.dst = .column c →
    inHand s = some r → (ctxOf s n).kind = .fetch → (ctxOf s n).state = .active →
    (ctxOf s n).step.map (·.kind) = some .dig → (ctxOf s n).halt = false →
    (ctxOf s n).restoring = false → (∃ j ∈ (ctxOf s n).targets, j.status = .waiting) →
    1 ≤ (ctxOf s n).level → (ctxOf s n).level < (ctxOf s m).level → (ctxOf s m).level ≤ 10 →
    (∀ j ∈ ctxNumbers, (ctxOf s j).state = .active → j = n) →
    (∀ j ∈ ctxNumbers, (ctxOf s j).state ≠ .stalled) → (ctxOf s m).state = .ready →
    (readyList s (ctxOf s m).level).head? = some m →
    (∀ j, (ctxOf s m).level < j → j ≤ 10 → readyList s j = []) →
    (∀ l ∈ s.sched.ready, n ∉ l) → (ctxOf s m).kind = .stow → (ctxOf s m).carried = some (.own b) →
    s.motion.chute ≠ .blocked → (∀ sd ∈ sides, (view s sd).ctx ≠ some m) →
    (∀ u ∈ s.store.queue, u.stepCtx ≠ some m) → k < columnCount s → k ≠ c →
    eligible s (some m) none k = true →
    ∃ t j, exec (.placed (.column c)) s = .next t ∧ (ctxOf t n).state = .ready ∧
      (ctxOf t n).stamp = (ctxOf s n).stamp ∧
      (readyList t (ctxOf s n).level).head? = some n ∧ (ctxOf t m).state = .active ∧
      t.motion.gantry = .movingEmpty ∧ t.motion.out = [.transfer .chute (.column j)] ∧
      j < columnCount s

/-- Tier 2. R131, R6: an EMPTY_PICK at a column marks it SUSPECT and leaves its list and every record as
they were. R132: an OCCUPIED_PLACE at a column marks it SUSPECT, and RETARGET is sent to the retarget
choice, made from the tables so marked; with no choice the event is taken as FAULT DRIVE. The bin stays
in hand. -/
def Obligations.ReportedColumnsAreMarked : Prop :=
  (∀ (s : State) (x : Xfer) (n c : Nat), s.fire.node ≠ .resuming → s.motion.gantry = .movingEmpty →
    s.motion.xfer = some x → x.owner = some n → (ctxOf s n).state ≠ .free → x.src = .column c →
    c < s.inv.columns.length →
    ∃ t, exec .faultEmptyPick s = .next t ∧
      column t c = { bins := (column s c).bins, suspect := true } ∧
      (∀ k, k ≠ c → column t k = column s k) ∧ t.inv.records = s.inv.records) ∧
  (∀ (s : State) (x : Xfer) (n c : Nat), Calm s → s.motion.gantry = .loaded →
    s.motion.xfer = some x → x.owner = some n → x.setDown = false →
    (ctxOf s n).step.map (·.kind) ≠ some .restore → (ctxOf s n).state = .active →
    x.retarget.getD x.dst = .column c → c < s.inv.columns.length →
    ∃ t, exec .faultOccupiedPlace s = .next t ∧
      column t c = { bins := (column s c).bins, suspect := true } ∧
      t.inv.records = s.inv.records ∧
      (∀ k, retargetChoice (markSuspect s c) x = some k →
        t.motion.gantry = .loaded ∧ t.motion.xfer = some { x with retarget := some (.column k) } ∧
        t.motion.timer = some s.setup.motionTimeout ∧ t.motion.out = [.retarget (.column k)]) ∧
      (retargetChoice (markSuspect s c) x = none →
        t.motion.gantry = .faulted ∧ t.motion.xfer = none ∧ t.motion.timer = none))

/-- Tier 2. R133, R127, R45: FAULT BLOCKED, FAULT DRIVE and an expiry of the motion timer leave the
gantry FAULTED with no transfer and no timer, and stall the ACTIVE context with DRIVE; the first two are
ignored while the gantry is OFF or FAULTED. -/
def Obligations.DriveFaultStallsTheJob : Prop :=
  (∀ (s : State) (c : Instr) (x : Xfer) (n : Nat), Calm s → TablesSized s → n < 16 →
    (c = .faultBlocked ∨ c = .faultDrive ∨ c = .motionTimerExpiry ∧ s.motion.timer.isSome) →
    (s.motion.gantry = .movingEmpty ∨ s.motion.gantry = .loaded) → s.motion.xfer = some x →
    x.owner = some n → activeCtx? s = some n →
    ∃ t, exec c s = .next t ∧ t.motion.gantry = .faulted ∧ t.motion.xfer = none ∧
      t.motion.timer = none ∧ (ctxOf t n).state = .stalled ∧ (ctxOf t n).wait = some .drive ∧
      t.inv = s.inv) ∧
  ∀ (s : State) (c : Instr), Calm s → c = .faultBlocked ∨ c = .faultDrive →
    s.motion.gantry = .off ∨ s.motion.gantry = .faulted → exec c s = .next (settled s)

/-- Tier 2. R130, R155, R156: an ABANDONED of the transfer that the set-down abandoned leaves the hand
empty, every column and record as it was and the step undone, and the shutdown sequence goes on with
PARK. R156: at PARKED in SHUTDOWN the gantry's part is over and CLOSE is asked of all three shutters;
when all three stand CLOSED already, POWER OFF is sent and the node enters SAFE in that event. -/
def Obligations.ShutdownSequenceGoesOn : Prop :=
  (∀ (s : State) (x : Xfer) (n : Nat), TablesSized s → n < 16 → s.fire.node = .shutdown →
    s.fire.closing = false → s.motion.gantry = .movingEmpty → s.motion.xfer = some x →
    x.abandonSent = true → x.owner = some n → (ctxOf s n).halt = false → s.motion.held = none →
    ∃ t, exec .abandoned s = .next t ∧ t.motion.gantry = .parking ∧ t.motion.xfer = none ∧
      t.motion.out = [.park false] ∧ t.motion.timer = some s.setup.motionTimeout ∧
      t.inv.columns = s.inv.columns ∧ t.inv.records = s.inv.records ∧ (ctxOf t n).step = none ∧
      (ctxOf t n).state = (ctxOf s n).state) ∧
  (∀ s : State, s.fire.node = .shutdown → s.motion.gantry = .parking → s.motion.held = none →
    ∃ t, exec .parked s = .next t ∧ AllAskedClosed t ∧ t.motion.timer = none ∧
      (t.fire.node = .safe ∨ t.fire.node = .shutdown ∧ t.fire.closing = true) ∧
      ((∀ sh ∈ shutterIds, (shutter s sh).state = .closed) →
        t.fire.node = .safe ∧ t.motion.power = false ∧ t.motion.gantry = .off ∧
        .power false ∈ t.motion.out))

/-! ### Shutters and chute -/

/-- Tier 2. R139: SHUTTER_DONE gives the shutter the reported state and stops its timer; where that is
not what it was last asked, the command is sent again with the timer restarted: an OPEN in RUN that ends
CLOSED, and a CLOSE that ends OPEN in GUARD, on a side next to a zone afire, and in SHUTDOWN (R156). An
expiry of a running shutter timer leaves the shutter UNKNOWN, and sets SAFE_WITH_FAULT in the shutdown
sequence. Events whose end moves shutters by itself are left out. -/
def Obligations.ShutterFollowsItsReports : Prop :=
  (∀ (s : State) (sh : ShutterId) (p : ShutterPos), Resting s →
    ((shutter s sh).asked = none ∨ (shutter s sh).asked = some p) →
    ∃ t, exec (.shutterDone sh p) s = .next t ∧
      (shutter t sh).state = (match p with | .opened => .opened | .closed => .closed) ∧
      (shutter t sh).timer = none ∧ (shutter t sh).asked = (shutter s sh).asked ∧
      ∀ k, k ≠ sh → shutter t k = shutter s k) ∧
  (∀ (s : State) (sh : ShutterId) (a p : ShutterPos), s.motion.power = true →
    (shutter s sh).asked = some a → a ≠ p →
    (Calm s ∧ a = .opened ∨
      s.fire.node = .guarded ∧ a = .closed ∧ (∃ sd, sideShutter sd = sh ∧ sideAfire s sd = true) ∨
      s.fire.node = .shutdown ∧ a = .closed) →
    ∃ t, exec (.shutterDone sh p) s = .next t ∧
      (shutter t sh).state = (match a with | .opened => .opening | .closed => .closing) ∧
      (shutter t sh).asked = some a ∧ (shutter t sh).timer = some s.setup.motionTimeout ∧
      .shutter sh a ∈ t.motion.out) ∧
  ∀ (s : State) (sh : ShutterId), Resting s → (shutter s sh).timer.isSome →
    ∃ t, exec (.shutterTimerExpiry sh) s = .next t ∧ (shutter t sh).state = .unknown ∧
      (shutter t sh).timer = none ∧ (shutter t sh).asked = (shutter s sh).asked ∧
      (∀ k, k ≠ sh → shutter t k = shutter s k) ∧
      t.fire.safeWithFault = (s.fire.safeWithFault || s.fire.node = .shutdown) ∧
      (s.fire.node ≠ .shutdown → t.fire = s.fire)

/-- Tier 2. R94, R137: an ARRIVAL on a chute that is not EMPTY blocks it with CHUTE_CONFLICT; on an
EMPTY chute one that no AWAITING context expects blocks it with UNMATCHED, one whose context holds the
record makes that record AT_CHUTE IN and the chute INBOUND, and one whose context holds no record ends it
NO_RECORD and blocks the chute with NO_RECORD. Of several contexts that await a bin, the choice is the
model's (assumption 54). What becomes of that context is stated where no transfer is held for a store
update in GUARD, as in a run none ever is (`MotionLaw`). R14, R137: a TAKEN empties an OUTBOUND
chute and its AT_CHUTE OUT records become AWAY; it blocks an INBOUND chute with CHUTE_CONFLICT, leaves a
BLOCKED chute BLOCKED with those records AWAY, and does nothing at an EMPTY one. -/
def Obligations.ChuteFollowsItsReports : Prop :=
  (∀ (s : State) (tag : Option BinId), s.fire.node ≠ .resuming →
    (s.motion.chute ≠ .empty →
      ∃ t, exec (.arrival tag) s = .next t ∧ t.motion.chute = .blocked ∧
        t.motion.reason = .chuteConflict ∧ t.inv.records = s.inv.records) ∧
    (s.motion.chute = .empty → (∀ b, tag = some b → awaitingBin s b = none) →
      ∃ t, exec (.arrival tag) s = .next t ∧ t.motion.chute = .blocked ∧
        t.motion.reason = .unmatched ∧ t.inv.records = s.inv.records) ∧
    (∀ b n r, s.motion.chute = .empty → tag = some b → awaitingBin s b = some n →
      (ctxOf s n).carried = some (.own b) → recordOf s b = some r →
      ∃ t, exec (.arrival tag) s = .next t ∧ t.motion.chute = .inbound ∧
        recordOf t b = some { r with residence := .atChute .inward } ∧
        ∀ k, k ≠ b → recordOf t k = recordOf s k) ∧
    (∀ b n, TablesSized s → s.motion.chute = .empty → tag = some b → awaitingBin s b = some n →
      (ctxOf s n).carried = none →
      ∃ t, exec (.arrival tag) s = .next t ∧ t.motion.chute = .blocked ∧
        t.motion.reason = .noRecord ∧ t.inv.records = s.inv.records ∧
        (s.sched.doneQ.length < 8 → (s.fire.node = .guarded → s.motion.held = none) →
          ctxOf t n = Ctx.blank ∧ ∃ e ∈ t.sched.doneQ,
          e.body.outcome = .noRecord ∧ e.body.ctx = n ∧ e.body.origin = (ctxOf s n).origin ∧
          e.body.tag = (ctxOf s n).tag ∧ e.body.delivered = 0))) ∧
  (∀ s : State, s.fire.node ≠ .resuming →
    ∃ t, exec .chuteTaken s = .next t ∧
      (t.motion.chute = match s.motion.chute with
        | .empty | .outbound => .empty
        | .inbound | .blocked => .blocked) ∧
      (s.motion.chute = .inbound → t.motion.reason = .chuteConflict) ∧
      (t.inv.records = if s.motion.chute = .outbound ∨ s.motion.chute = .blocked then
          s.inv.records.map (fun r =>
            if r.residence = .atChute .outward then { r with residence := .away } else r)
        else s.inv.records) ∧
      t.inv.columns = s.inv.columns)

/-- Tier 2. R138, R14: an accepted CHUTE CLEAR makes AWAY the AT_CHUTE OUT record of an OUTBOUND chute, the
AT_CHUTE IN record of an INBOUND one, and both of a BLOCKED one, leaves the chute EMPTY, and answers with
the chute state and the blocked reason it cleared. No other record and no column changes. R97: the STOW
context whose record stood AT_CHUTE IN ends REMOVED. In the start-up states and RESUMING it is refused with
NOT_READY; with the put-away's transfer from an INBOUND or BLOCKED chute in flight it is refused with
BIN_MOVING and changes nothing there. That a BLOCKED chute may be cleared once the put-away has picked is
the model's choice (assumption 67). -/
def Obligations.ChuteClearEmptiesTheChute : Prop :=
  (∀ (s : State) (h : Header), Passes s h → s.bus.replies.length < 8 →
    (notReady s = true →
      ∃ t q, exec (.chuteClear h) s = .next t ∧ t.motion.chute = s.motion.chute ∧
        t.bus.replies = s.bus.replies ++ [posted q (refusal s 2 h .notReady)]) ∧
    (notReady s = false → (s.motion.chute = .inbound ∨ s.motion.chute = .blocked) →
      chuteJobActive s = true →
      ∃ t q, exec (.chuteClear h) s = .next t ∧ t.motion.chute = s.motion.chute ∧
        t.motion.reason = s.motion.reason ∧ t.inv.records = s.inv.records ∧
        t.bus.replies = s.bus.replies ++ [posted q (refusal s 2 h .binMoving)]) ∧
    (notReady s = false →
      ¬ ((s.motion.chute = .inbound ∨ s.motion.chute = .blocked) ∧ chuteJobActive s = true) →
      ∃ t q, exec (.chuteClear h) s = .next t ∧ t.motion.chute = .empty ∧
        (s.motion.chute ≠ .empty → t.motion.reason = .none) ∧
        t.inv.columns = s.inv.columns ∧
        t.inv.records = s.inv.records.map (fun r =>
          if r.residence = .atChute .outward ∧
                (s.motion.chute = .outbound ∨ s.motion.chute = .blocked) ∨
              r.residence = .atChute .inward ∧
                (s.motion.chute = .inbound ∨ s.motion.chute = .blocked) then
            { r with residence := .away }
          else r) ∧
        t.bus.replies = s.bus.replies ++ [posted q (replyTo s h (.chuteClear .empty
          (if s.motion.chute = .blocked then s.motion.reason else .none)))])) ∧
  ∀ (s : State) (h : Header) (n : Nat), Calm s → TablesSized s → Passes s h →
    s.bus.replies.length < 8 → s.sched.doneQ.length < 8 →
    (s.motion.chute = .inbound ∨ s.motion.chute = .blocked) → chuteCtxs s = [n] →
    ((ctxOf s n).state = .ready ∨ (ctxOf s n).state = .stalled ∨ (ctxOf s n).state = .paused) →
    ∃ t e, exec (.chuteClear h) s = .next t ∧ ctxOf t n = Ctx.blank ∧
      t.sched.doneQ = s.sched.doneQ ++ [e] ∧ e.body.outcome = .removed ∧ e.body.ctx = n ∧
      e.body.origin = (ctxOf s n).origin ∧ e.body.tag = (ctxOf s n).tag ∧ e.body.delivered = 0

/-- Tier 2. R163, R164: in HOMING a sense report that comes before the gantry's final event is kept; one
that comes after it makes the reconcile, and the node leaves HOMING; a sense report at any other time is
ignored. R164, where the header matches: ARRIVING and HANDING records become AWAY; the chute and its records
follow the report; RESIDENT, AWAY and IN_SLOT records stay, and a LOADED_OUT side has its resend owed or
already pending. A bin in hand stays IN_HAND after HOMED LOADED, a homing put-away pending and a wrong tag
or NO_TAG marked, and after a fault; after HOMED EMPTY it becomes AWAY at the tail of the away list, or in
the overflow place, or stays IN_HAND with the gantry FAULTED, as does HOMED LOADED with no record in hand.
OPEN is asked of all three shutters. No homing put-away is pending in HOMING and no transfer is held
(`MotionLaw`). That a later report replaces an earlier one, and that CLEAR empties a
BLOCKED chute too, are the model's choices (assumptions 70, 62). -/
def Obligations.SenseReportReconciles : Prop :=
  (∀ (s : State) (o : Bool), s.fire.node = .homing → posts s = true → s.startup.reconciled = false →
    s.startup.homed = none →
    ∃ t, exec (.senseReport o) s = .next t ∧ t.startup = { s.startup with sense := some o } ∧
      t.fire.node = .homing ∧ t.inv.records = s.inv.records) ∧
  (∀ (s : State) (o : Bool) (h : HomeResult), s.fire.node = .homing → posts s = true →
    s.startup.reconciled = false → s.startup.homed = some h →
    (∃ t, exec (.senseReport o) s = .next t ∧ t.startup.reconciled = true ∧
      (t.fire.node = if s.inv.valid = true ∧ s.inv.hdrW = s.board.w ∧ s.inv.hdrD = s.board.d ∧
          s.inv.hdrC = s.board.c then .joining else .survey)) ∧
    (headerMatches s = true → sortedRecords s.inv.records → s.motion.putAway = none →
      s.motion.held = none →
      (∀ r, inHand s = some r → jobOf s r.body.bin = none) →
      ∃ t, exec (.senseReport o) s = .next t ∧ t.inv.columns = s.inv.columns ∧
        (∀ sh ∈ shutterIds, (shutter t sh).asked = some .opened) ∧
        (∀ b r, recordOf s b = some r →
          (r.residence = .arriving ∨ (∃ w, r.residence = .handing w) →
            recordOf t b = some { r with residence := .away }) ∧
          (∀ d, r.residence = .atChute d →
            recordOf t b = some (if o then r else { r with residence := .away })) ∧
          (r.residence = .away ∨ (∃ c i, r.residence = .resident c i) ∨
            (∃ sd, r.residence = .inSlot sd) → recordOf t b = some r)) ∧
        (if o = true then
          (if (∃ r ∈ s.inv.records, r.residence = .atChute .outward) ∧
              ∀ r ∈ s.inv.records, r.residence ≠ .atChute .inward then
            t.motion.chute = .outbound
          else t.motion.chute = .blocked ∧ t.motion.reason = .unmatched)
        else t.motion.chute = .empty) ∧
        (∀ sd ∈ sides, (view s sd).state = .loadedOut → (recordAt s (.inSlot sd)).isSome →
          (view t sd).state = .loadedOut ∧
            ((view t sd).resendOwed = true ∨ (view t sd).pend.isSome)) ∧
        (inHand s = none → awayLine t = awayLine s ∧
          (t.motion.gantry = if h ≠ .failed ∧ h ≠ .report .empty then .faulted
            else s.motion.gantry)) ∧
        ∀ r, inHand s = some r →
          (∀ tag, h = .report (.loaded tag) →
            recordOf t r.body.bin = some
              { r with
                body := { r.body with
                  suspectTag := r.body.suspectTag || decide (tag ≠ some r.body.bin) } } ∧
            t.motion.putAway = some r.body.bin ∧ t.motion.gantry = s.motion.gantry ∧
            awayLine t = awayLine s) ∧
          (h = .failed → recordOf t r.body.bin = some r ∧ t.motion.gantry = s.motion.gantry ∧
            awayLine t = awayLine s) ∧
          (h = .report .empty →
            (awayTotal s < 32 ∧ s.inv.overflow = none →
              recordOf t r.body.bin = some { r with residence := .away } ∧
              t.inv.away = s.inv.away ++ [{ bin := r.body.bin, winner := none }] ∧
              t.inv.overflow = none) ∧
            (32 ≤ awayTotal s → s.inv.overflow = none →
              recordOf t r.body.bin = some { r with residence := .away } ∧
              t.inv.away = s.inv.away ∧ t.inv.overflow = some r.body.bin) ∧
            (32 ≤ awayTotal s → s.inv.overflow.isSome →
              recordOf t r.body.bin = some r ∧ t.motion.gantry = .faulted ∧
              t.inv.away = s.inv.away ∧ t.inv.overflow = s.inv.overflow)))) ∧
  ∀ (s : State) (o : Bool), Calm s → exec (.senseReport o) s = .next (settled s)

/-! ### The stow agent -/

/-- Tier 2. R82, R83: STOW READY for an AWAY record that is not offered yet opens an offer: its entry under
the next holder tag, and an OFFER at the STOW level in the reply list, carrying the holder's station, the
bin, its demand and loan count, and the desk. In the start-up states and RESUMING it is refused with
NOT_READY, and for a record that is not AWAY, or offered already, with BIN_STATE. Any desk byte is taken
(the model's choice, assumption 66). -/
def Obligations.StowReadyOpensAnOffer : Prop :=
  ∀ (s : State) (h : Header) (b : BinId) (desk : Station) (r : BinRecord), Passes s h →
    s.bus.replies.length < 8 → recordOf s b = some r →
    (notReady s = true → Refused s (.stowReady h b desk) h s.setup.stow .notReady) ∧
    (notReady s = false →
      (r.residence ≠ .away ∨ s.inv.overflow = some b ∨ ∃ e ∈ s.stow.offers, e.bin = b) →
      Refused s (.stowReady h b desk) h s.setup.stow .binState) ∧
    (notReady s = false → r.residence = .away → s.inv.overflow ≠ some b →
      (∀ e ∈ s.stow.offers, e.bin ≠ b) →
      ∃ t, exec (.stowReady h b desk) s = .next t ∧
        t.stow = { s.stow with
          offers := s.stow.offers ++
            [{ tag := s.stow.nextTag, bin := b, desk, closeTimer := none, winner := none }]
          nextTag := (s.stow.nextTag + 1) % 256 } ∧
        Answered s t h (frameOf s s.setup.stow 0 0 s.stow.nextTag
          (.offer s.board.station b r.body.demand (loanCount r.body) desk)) ∧
        t.bus.counters = oneReceived s.bus.counters ∧
        Untouched [.stow, .bus, .motion, .sched] s t ∧ PortsQuiet s t)

/-- Tier 2. R31, R84, R85: in RUN, with the grade below WARN, the STOW level above 0, a context and a
reservation to be had, and a column for the bin, an OFFER of a bin the node does not hold (or of its own)
takes the lowest-numbered FREE context into BIDDING with a reservation and posts a BID of rank S_min + 32·Q
+ penalty, Q counting that context. Outside RUN, or at WARN or above, an OFFER draws no bid. A demand above
7 is taken as 7 (the model's choice, assumption 28). So is any desk byte taken as the context's origin
(assumption 66). -/
def Obligations.OfferDrawsABid : Prop :=
  (∀ (s : State) (h : Header) (f : OfferFrame) (n c smin : Nat), Passes s h → TablesSized s →
    s.fire.node = .run → gradeNum (bayGrade s) < 2 → 0 < s.setup.stow → freeCtx? s = some n →
    committed s < 8 → canReserve s = true →
    (f.holder = s.board.station ∨ holdsBin s f.bin = false) →
    choose s (min 7 f.demand) .chute none none = some (c, smin) →
    ∃ t, exec (.offer h f) s = .next t ∧
      t.sched.ctxs = s.sched.ctxs.set n
        { Ctx.blank with
          state := .bidding, kind := .stow, cls := .stow, level := s.setup.stow, origin := f.desk,
          tag := h.tag, offer := some { holder := f.holder, tag := h.tag, bin := f.bin },
          reserved := true, bidTimer := some s.setup.bidWindow,
          bid := some (posted s.bus.seq (frameOf s s.setup.stow
            (smin + 32 * (inUse s + 1) + (if freePositions s - 1 < s.setup.reserve then 512 else 0))
            0 h.tag (.bid f.holder f.bin))) } ∧
      t.sched.ready = s.sched.ready ∧ t.bus.replies = s.bus.replies ∧
      Untouched [.bus, .motion, .sched] s t) ∧
  ∀ (s : State) (h : Header) (f : OfferFrame), Passes s h →
    s.fire.node ≠ .run ∨ 2 ≤ gradeNum (bayGrade s) →
    ∃ t, exec (.offer h f) s = .next t ∧ HeardOnly s t h ∧
      t.bus.counters = oneReceived s.bus.counters ∧ Untouched [.bus, .motion, .sched] s t ∧
      PortsQuiet s t

/-- Tier 2. R88, R90: the first BID of another station for an open offer of the node wins it: the record
becomes HANDING to the bidder, a RECORD to it is pending at level 11 under the holder tag, and the handover
timer runs. A BID for an offer the node does not hold open, or that has its winner, is answered with REFUSE
OFFER_CLOSED at the STOW level. That an entry whose OFFER has not been sent counts as not open is the
model's choice (assumption 27). So is that the offer is decided in SURVEY and JOINING too, whatever the
record's residence (assumption 65). -/
def Obligations.FirstBidWinsTheOffer : Prop :=
  (∀ (s : State) (h : Header) (e : OfferEntry) (r : BinRecord) (b : BinId), accepts s h = true →
    posts s = true → s.fire.node ≠ .resuming → h.src ≠ s.board.station →
    offerOf s h.tag = some e → e.closeTimer.isSome → e.winner = none → recordOf s e.bin = some r →
    ∃ t q, exec (.bid h s.board.station b) s = .next t ∧
      recordOf t e.bin = some { r with residence := .handing h.src } ∧
      (∀ k, k ≠ e.bin → recordOf t k = recordOf s k) ∧
      t.stow.handovers = s.stow.handovers.filter (fun k => k.bin ≠ e.bin) ++
        [{ bin := e.bin, timer := s.setup.handoverWindow,
           record := some (posted q (frameOf s 11 0 h.src h.tag (.record r.body))) }] ∧
      t.stow.offers = s.stow.offers.map (fun k =>
        if k.tag = h.tag then { k with winner := some h.src } else k)) ∧
  ∀ (s : State) (h : Header) (b : BinId), Passes s h → h.src ≠ s.board.station →
    s.bus.replies.length < 8 →
    (offerOf s h.tag = none ∨
      ∃ e, offerOf s h.tag = some e ∧ (e.closeTimer = none ∨ e.winner.isSome)) →
    ∃ t q, exec (.bid h s.board.station b) s = .next t ∧ t.stow = s.stow ∧
      t.bus.replies = s.bus.replies ++ [posted q (refusal s s.setup.stow h .offerClosed)]

/-- Tier 2. R89: REFUSE OFFER_CLOSED by the state of the contexts it names. Each BIDDING one is freed; each
AWAITING one that holds no record is freed the same way, with its reservation and its arrival timer;
neither sends a DONE. An AWAITING one that holds a record is not affected, and one that names no context
is ignored. Stated in RUN with the gantry busy, so that the scheduler's choice does not follow. -/
def Obligations.OfferClosedFreesTheBidder : Prop :=
  ∀ (s : State) (h : Header), Calm s → Passes s h → TablesSized s →
    ∃ t, exec (.refuseOfferClosed h) s = .next t ∧
      (∀ n ∈ stowCtxs s .bidding h.src h.tag, ctxOf t n = Ctx.blank) ∧
      (∀ n ∈ stowCtxs s .awaiting h.src h.tag,
        ctxOf t n = if (ctxOf s n).carried = none then Ctx.blank else ctxOf s n) ∧
      t.sched.doneQ = s.sched.doneQ ∧ t.sched.ending = s.sched.ending ∧ t.inv = s.inv ∧
      t.bus.counters = oneReceived s.bus.counters ∧
      (stowCtxs s .bidding h.src h.tag = [] → stowCtxs s .awaiting h.src h.tag = [] →
        t.sched.ctxs = s.sched.ctxs)

/-- Tier 2. R91, R122: outside SURVEY, a RECORD that matches an AWAITING context without a record, for a
bin the node does not hold, is adopted: ARRIVING at the tail of the away list, CLASH-marked, carried by
the context in place of its reservation, with an ADOPTED to the holder pending at level 11. Any other
RECORD is counted with the requests dropped. -/
def Obligations.RecordIsAdopted : Prop :=
  (∀ (s : State) (h : Header) (r : RawRecord) (n : Nat), Passes s h → TablesSized s →
    s.fire.node ≠ .survey → adopter s h.src h.tag r.bin = some n → holdsBin s r.bin = false →
    ∃ t, exec (.recordHandover h r) s = .next t ∧
      recordOf t r.bin = some { body := clashMark s (bodyOf r), residence := .arriving } ∧
      (∀ b, b ≠ r.bin → recordOf t b = recordOf s b) ∧
      t.inv.away = s.inv.away ++ [{ bin := r.bin, winner := none }] ∧
      ctxOf t n = { ctxOf s n with carried := some (.own r.bin), reserved := false } ∧
      t.stow = { s.stow with
        adopted := s.stow.adopted ++
          [posted s.bus.seq (frameOf s 11 0 h.src h.tag (.adopted r.bin))] } ∧
      Untouched [.inv, .store, .sched, .stow, .bus, .motion] s t) ∧
  ∀ (s : State) (h : Header) (r : RawRecord), Passes s h → s.fire.node ≠ .survey →
    adopter s h.src h.tag r.bin = none ∨ holdsBin s r.bin = true →
    ∃ t, exec (.recordHandover h r) s = .next t ∧ HeardOnly s t h ∧
      t.bus.counters = oneDropped s.bus.counters ∧ Untouched [.bus, .motion, .sched] s t ∧
      PortsQuiet s t

/-- Tier 2. R15, R90: ADOPTED from the recorded winner of the latest offer of a HANDING or AWAY
record removes the record, its entry in the away list, its handover and an offer of it that is still
without a winner; from any other station it changes no record and no entry. That its handover goes with
it is the model's choice (assumption 29). The away list is told with the overflow record behind it, which
moves up as an entry is freed (R19). -/
def Obligations.AdoptedRemovesTheRecord : Prop :=
  (∀ (s : State) (h : Header) (b : BinId) (e : AwayEntry) (r : BinRecord), accepts s h = true →
    posts s = true → s.fire.node ≠ .resuming → awayEntry s b = some e → e.winner = some h.src →
    recordOf s b = some r → (r.residence = .away ∨ ∃ w, r.residence = .handing w) →
    ∃ t, exec (.adopted h b) s = .next t ∧ recordOf t b = none ∧
      (∀ k, k ≠ b → recordOf t k = recordOf s k) ∧
      awayLine t = s.inv.away.filter (fun e => e.bin ≠ b) ++
        (s.inv.overflow.map (fun k => { bin := k, winner := none })).toList ∧
      (∀ k ∈ t.stow.handovers, k.bin ≠ b) ∧
      t.stow = { s.stow with
        handovers := s.stow.handovers.filter (fun k => k.bin ≠ b)
        offers := s.stow.offers.filter (fun k => !(k.bin = b ∧ k.winner.isNone)) }) ∧
  ∀ (s : State) (h : Header) (b : BinId), accepts s h = true → posts s = true →
    s.fire.node ≠ .resuming → (∀ e, awayEntry s b = some e → e.winner ≠ some h.src) →
    ∃ t, exec (.adopted h b) s = .next t ∧ t.inv.records = s.inv.records ∧
      awayLine t = awayLine s ∧ t.stow = s.stow

/-- Tier 2. R15, R86, R88, R90, R93: the stow agent's windows. A bid window frees its BIDDING context
with no record; a close timer removes its offer; a handover window makes its HANDING record AWAY in
place; an arrival window ends its AWAITING context ARRIVAL_TIMEOUT, and the record it holds becomes
AWAY. -/
def Obligations.StowWindowsExpire : Prop :=
  (∀ (s : State) (n : Nat), Calm s → TablesSized s → n < 16 → (ctxOf s n).state = .bidding →
    (ctxOf s n).bidTimer.isSome →
    ∃ t, exec (.bidTimerExpiry n) s = .next t ∧ ctxOf t n = Ctx.blank ∧
      t.sched.doneQ = s.sched.doneQ ∧ t.inv = s.inv) ∧
  (∀ (s : State) (tag : Tag),
    ∃ t, exec (.closeTimerExpiry tag) s = .next t ∧
      t.stow = { s.stow with
        offers := s.stow.offers.filter (fun e => !(e.tag = tag ∧ e.closeTimer.isSome)) } ∧
      Untouched [.stow, .motion, .sched] s t ∧ PortsQuiet s t) ∧
  (∀ (s : State) (b : BinId) (w : Station) (r : BinRecord),
    (∃ k ∈ s.stow.handovers, k.bin = b) → recordOf s b = some r → r.residence = .handing w →
    ∃ t, exec (.handoverTimerExpiry b) s = .next t ∧
      t.stow.handovers = s.stow.handovers.filter (fun k => k.bin ≠ b) ∧
      recordOf t b = some { r with residence := .away } ∧
      (∀ k, k ≠ b → recordOf t k = recordOf s k) ∧ t.inv.away = s.inv.away) ∧
  ∀ (s : State) (n : Nat), Calm s → TablesSized s → n < 16 → (ctxOf s n).state = .awaiting →
    (ctxOf s n).kind = .stow → (ctxOf s n).arrivalTimer.isSome → s.sched.doneQ.length < 8 →
    ∃ t e, exec (.arrivalTimerExpiry n) s = .next t ∧ ctxOf t n = Ctx.blank ∧
      t.sched.doneQ = s.sched.doneQ ++ [e] ∧ e.body.outcome = .arrivalTimeout ∧ e.body.ctx = n ∧
      e.body.origin = (ctxOf s n).origin ∧ e.body.tag = (ctxOf s n).tag ∧
      (∀ b r, (ctxOf s n).carried = some (.own b) → recordOf s b = some r →
        recordOf t b = some { r with residence := .away }) ∧
      ((ctxOf s n).carried = none → t.inv = s.inv)

/-! ### The slot agent -/

/-- Tier 2. R106: a SLOT CLAIM of the neighbour on a FREE side with no frame pending, in RUN. The first
reason of HAZARD, CLASS_OFF, TABLE_FULL, NO_ROOM and BUSY that applies is sent as SLOT REFUSE at level
12 with the claim's tag and leaves the view; with none, the lowest-numbered FREE context becomes an
AWAITING SPILL context, the view THEIRS, and SLOT GRANT is pending. On a CLAIMING side whose claim has been
sent, and on a MINE, LOADED_OUT or LOADED_IN one, it is answered SLOT REFUSE BUSY and the view keeps its
exchange. R105: on a CLAIMING side whose claim is still pending, that claim is withdrawn and the neighbour's
judged the same way: granted, the view is THEIRS and the context of the withdrawn claim waits on; refused,
the view is FREE and that context takes the refusal path. R111: a THEIRS side is voided first, its SPILL
context ending REMOVED, and the claim judged without it; that a repeated claim with the tag of the grant
voids it too is the model's reading (assumption 24). -/
def Obligations.SlotClaimIsJudged : Prop :=
  (∀ (s : State) (h : Header) (b : BinId) (sd : Side), Calm s → Passes s h → TablesSized s →
    sideOfStation s h.src = some sd → (view s sd).state = .free → (view s sd).pend = none →
    (view s sd).raced = none →
    (∀ why : SlotRefuseReason,
      ClaimRefused s sd b why →
      ∃ t, exec (.slotClaim h b) s = .next t ∧
        view t sd = { view s sd with
          pend := some (posted s.bus.seq (frameOf s 12 0 h.src h.tag (.slotRefuse why))) } ∧
        t.sched.ctxs = s.sched.ctxs ∧ t.inv = s.inv) ∧
    ∀ n, gradeNum (bayGrade s) < 2 → s.fire.latch = false → notBay s sd = false →
      s.setup.spill ≠ 0 → freeCtx? s = some n → committed s < 8 →
      s.setup.reserve + 1 ≤ freePositions s → holdsBin s b = false →
      ∃ t, exec (.slotClaim h b) s = .next t ∧
        view t sd = { view s sd with
          state := .theirs, tag := h.tag, ctx := some n, bin := some b,
          pend := some (posted s.bus.seq (frameOf s 12 0 h.src h.tag (.slotGrant b))) } ∧
        t.sched.ctxs = s.sched.ctxs.set n
          { Ctx.blank with
            state := .awaiting, kind := .spill, cls := .spill, level := s.setup.spill,
            origin := h.src, tag := h.tag, side := some sd } ∧
        t.inv = s.inv) ∧
  (∀ (s : State) (h : Header) (b : BinId) (sd : Side), Calm s → Passes s h →
    sideOfStation s h.src = some sd → (view s sd).state ∈ [.claiming, .mine, .loadedOut, .loadedIn] →
    (view s sd).pend = none →
    ∃ t, exec (.slotClaim h b) s = .next t ∧
      view t sd = { view s sd with
        pend := some (posted s.bus.seq (frameOf s 12 0 h.src h.tag (.slotRefuse .busy))) } ∧
      t.sched.ctxs = s.sched.ctxs) ∧
  (∀ (s : State) (h : Header) (b k : BinId) (sd : Side) (f : PFrame) (n : Nat), Calm s → Passes s h →
    TablesSized s → sideOfStation s h.src = some sd → (view s sd).state = .claiming →
    (view s sd).pend = some f → f.frame.payload = .slotClaim k → (view s sd).waiting = [] →
    (view s sd).ctx = some n → n < 16 → (ctxOf s n).state = .stalled →
    (ctxOf s n).wait = some .slotWait →
    (∀ m, ClaimGranted s sd b m →
      ∃ t, exec (.slotClaim h b) s = .next t ∧
        view t sd = { view s sd with
          state := .theirs, tag := h.tag, ctx := some m, bin := some b, claimTimer := none
          raced := some n
          pend := some (posted s.bus.seq (slotFrame s sd h.tag (.slotGrant b))) } ∧
        t.sched.ctxs = s.sched.ctxs.set m { newSpill s h sd with state := .awaiting } ∧
        (∀ x, s.bus.tx = some x → x.pf.seq = f.seq → t.bus.tx = some { x with withdrawn := true }) ∧
        t.inv = s.inv) ∧
    ∀ why, ClaimRefused s sd b why →
      ∃ t, exec (.slotClaim h b) s = .next t ∧
        view t sd = { view s sd with
          state := .free, tag := 0, ctx := none, bin := none, claimTimer := none, raced := none
          pend := some (posted s.bus.seq (slotFrame s sd h.tag (.slotRefuse why))) } ∧
        RefusalPathTaken s t sd n ∧
        (∀ x, s.bus.tx = some x → x.pf.seq = f.seq → t.bus.tx = some { x with withdrawn := true }) ∧
        t.inv = s.inv) ∧
  ∀ (s : State) (h : Header) (b : BinId) (sd : Side) (n : Nat), Calm s → Passes s h → TablesSized s →
    sideOfStation s h.src = some sd → (view s sd).state = .theirs → (view s sd).pend = none →
    (view s sd).raced = none → (view s sd).ctx = some n → n < 16 → (ctxOf s n).state = .awaiting →
    s.sched.doneQ.length < 8 →
    (∀ m, ClaimGranted (setCtx s n Ctx.blank) sd b m →
      ∃ t q, exec (.slotClaim h b) s = .next t ∧ (view t sd).state = .theirs ∧
        (view t sd).tag = h.tag ∧ (view t sd).ctx = some m ∧ (view t sd).bin = some b ∧
        (view t sd).pend = some (posted q (slotFrame s sd h.tag (.slotGrant b))) ∧
        ctxOf t m = { newSpill s h sd with state := .awaiting } ∧
        (m ≠ n → ctxOf t n = Ctx.blank) ∧
        (∃ e ∈ t.sched.doneQ, e.body.outcome = .removed ∧ e.body.ctx = n) ∧ t.inv = s.inv) ∧
    ∀ why, ClaimRefused (setCtx s n Ctx.blank) sd b why →
      ∃ t q, exec (.slotClaim h b) s = .next t ∧ (view t sd).state = .free ∧
        (view t sd).pend = some (posted q (slotFrame s sd h.tag (.slotRefuse why))) ∧
        ctxOf t n = Ctx.blank ∧
        (∃ e ∈ t.sched.doneQ, e.body.outcome = .removed ∧ e.body.ctx = n) ∧ t.inv = s.inv

/-- Tier 2. R46, R47, R104: SLOT GRANT with the tag of a CLAIMING view makes it MINE and stops its claim
timer; its context, STALLED with SLOT_WAIT, becomes READY at the tail of its list with a new age stamp.
A stale SLOT GRANT is answered SLOT REFUSE BUSY with its tag. -/
def Obligations.SlotGrantGivesTheSide : Prop :=
  (∀ (s : State) (h : Header) (b : BinId) (sd : Side) (n : Nat), Calm s → Passes s h →
    TablesSized s → n < 16 → sideOfStation s h.src = some sd → (view s sd).state = .claiming →
    (view s sd).tag = h.tag → (view s sd).ctx = some n → (ctxOf s n).state = .stalled →
    (ctxOf s n).wait = some .slotWait →
    ∃ t, exec (.slotGrant h b) s = .next t ∧
      view t sd = { view s sd with state := .mine, claimTimer := none } ∧
      ctxOf t n = { ctxOf s n with
        state := .ready, wait := none, stamp := s.sched.nextStamp } ∧
      t.sched.ready = s.sched.ready.modify ((ctxOf s n).level - 1) (· ++ [n]) ∧
      (∀ m, m ≠ n → ctxOf t m = ctxOf s m) ∧ t.inv = s.inv) ∧
  ∀ (s : State) (h : Header) (b : BinId) (sd : Side), Calm s → Passes s h →
    sideOfStation s h.src = some sd → (view s sd).pend = none →
    ¬ ((view s sd).state = .claiming ∧ (view s sd).tag = h.tag) →
    ∃ t, exec (.slotGrant h b) s = .next t ∧
      view t sd = { view s sd with
        pend := some (posted s.bus.seq (frameOf s 12 0 h.src h.tag (.slotRefuse .busy))) } ∧
      t.sched.ctxs = s.sched.ctxs ∧ t.inv = s.inv

/-- Tier 2. R47, R104, R108: SLOT REFUSE with the view's tag, or an expiry of the claim timer, makes a
CLAIMING side FREE; its context, STALLED with SLOT_WAIT for the answer, has the east side claimed for it
after the west if that side qualifies, and stays STALLED, else with NO_ROOM. On a LOADED_OUT side a SLOT
REFUSE with its tag sets load refused; one with another tag is ignored. R111: on a THEIRS view one with its
tag voids the view: the SPILL context ends REMOVED, claimed 1 and delivered 0, and the view is FREE. -/
def Obligations.SlotRefusalIsTaken : Prop :=
  (∀ (s : State) (h : Header) (c : Instr) (sd : Side) (r n : Nat), Calm s → TablesSized s → n < 16 →
    (c = .slotRefuse h r ∧ Passes s h ∧ sideOfStation s h.src = some sd ∧ (view s sd).tag = h.tag ∨
      c = .claimTimerExpiry sd ∧ (view s sd).claimTimer.isSome) →
    (view s sd).state = .claiming → (view s sd).raced = none → (view s sd).ctx = some n →
    (ctxOf s n).state = .stalled → (ctxOf s n).wait = some .slotWait →
    ∃ t, exec c s = .next t ∧ (view t sd).state = .free ∧ (view t sd).ctx = none ∧
      (view t sd).claimTimer = none ∧ RefusalPathTaken s t sd n ∧ t.inv = s.inv) ∧
  (∀ (s : State) (h : Header) (r : Nat) (sd : Side), Calm s → Passes s h →
    sideOfStation s h.src = some sd → (view s sd).state = .loadedOut → (view s sd).tag = h.tag →
    ∃ t, exec (.slotRefuse h r) s = .next t ∧
      view t sd = { view s sd with loadRefused := true } ∧ t.inv = s.inv ∧
      t.sched.ctxs = s.sched.ctxs) ∧
  (∀ (s : State) (h : Header) (r : Nat) (sd : Side) (n : Nat), Calm s → Passes s h → TablesSized s →
    n < 16 → sideOfStation s h.src = some sd → (view s sd).state = .theirs →
    (view s sd).tag = h.tag → (view s sd).ctx = some n → (view s sd).raced = none →
    (ctxOf s n).state = .awaiting → (ctxOf s n).kind = .spill → s.sched.doneQ.length < 8 →
    ∃ t, exec (.slotRefuse h r) s = .next t ∧ SpillRemoved s t sd n) ∧
  ∀ (s : State) (h : Header) (r : Nat) (sd : Side), Calm s → Passes s h →
    sideOfStation s h.src = some sd → (view s sd).tag ≠ h.tag →
    ∃ t, exec (.slotRefuse h r) s = .next t ∧ t.slots = s.slots ∧ t.inv = s.inv ∧
      t.sched.ctxs = s.sched.ctxs

/-- Tier 2. R108: a SLOT LOADED with the tag and the bin of a THEIRS view makes it LOADED_IN; its SPILL
context takes the record as carried and becomes READY, and no record of the node changes. A SLOT LOADED
of a bin that is RESIDENT or IN_HAND here is answered with SLOT TAKEN under the frame's tag. On a LOADED_IN
view of the same bin it gives the view its tag and nothing is sent. On a FREE view it is judged as a SLOT
CLAIM of the bin: a SPILL context READY with the record and the view LOADED_IN, with nothing sent, or SLOT
REFUSE with R106's reason. On any other view it is answered SLOT REFUSE BUSY and changes nothing else, but
that a THEIRS view is voided: its SPILL context ends REMOVED and the view is FREE (R111). -/
def Obligations.SlotLoadedIsTaken : Prop :=
  (∀ (s : State) (h : Header) (r : RawRecord) (sd : Side) (n : Nat), Calm s → Passes s h →
    TablesSized s → n < 16 → sideOfStation s h.src = some sd → (view s sd).state = .theirs →
    (view s sd).tag = h.tag → (view s sd).bin = some r.bin → (view s sd).ctx = some n →
    (view s sd).raced = none → recordOf s r.bin = none →
    ∃ t, exec (.slotLoaded h r) s = .next t ∧
      view t sd = { view s sd with state := .loadedIn } ∧
      ctxOf t n = { ctxOf s n with
        state := .ready, wait := none, carried := some (.foreign (bodyOf r)),
        stamp := s.sched.nextStamp } ∧
      t.sched.ready = s.sched.ready.modify ((ctxOf s n).level - 1) (· ++ [n]) ∧ t.inv = s.inv) ∧
  (∀ (s : State) (h : Header) (r : RawRecord) (sd : Side) (p : Residence), Calm s → Passes s h →
    sideOfStation s h.src = some sd → residenceOf s r.bin = some p →
    (p = .inHand ∨ ∃ c i, p = .resident c i) → (view s sd).pend = none →
    ∃ t, exec (.slotLoaded h r) s = .next t ∧
      view t sd = { view s sd with
        pend := some (posted s.bus.seq (frameOf s 12 0 h.src h.tag (.slotTaken r.bin))) } ∧
      t.inv = s.inv ∧ t.sched.ctxs = s.sched.ctxs) ∧
  ∀ (s : State) (h : Header) (r : RawRecord) (sd : Side), Calm s → Passes s h → TablesSized s →
    sideOfStation s h.src = some sd →
    (∀ p, residenceOf s r.bin = some p → p ≠ .inHand ∧ ∀ c i, p ≠ .resident c i) →
    ((view s sd).state = .loadedIn → (view s sd).bin = some r.bin →
      ∃ t, exec (.slotLoaded h r) s = .next t ∧ view t sd = { view s sd with tag := h.tag } ∧
        t.inv = s.inv ∧ t.sched.ctxs = s.sched.ctxs) ∧
    (∀ n, (view s sd).state = .free → ClaimGranted s sd r.bin n →
      ∃ t, exec (.slotLoaded h r) s = .next t ∧
        view t sd = { view s sd with
          state := .loadedIn, tag := h.tag, ctx := some n, bin := some r.bin } ∧
        ctxOf t n = { newSpill s h sd with
          state := .ready, carried := some (.foreign (bodyOf r)), stamp := s.sched.nextStamp } ∧
        t.sched.ready = s.sched.ready.modify (s.setup.spill - 1) (· ++ [n]) ∧ t.inv = s.inv) ∧
    ((view s sd).pend = none →
      (∀ why, (view s sd).state = .free → ClaimRefused s sd r.bin why →
        ∃ t, exec (.slotLoaded h r) s = .next t ∧
          view t sd = { view s sd with
            pend := some (posted s.bus.seq (slotFrame s sd h.tag (.slotRefuse why))) } ∧
          t.inv = s.inv ∧ t.sched.ctxs = s.sched.ctxs) ∧
      ((view s sd).state ∈ [.claiming, .mine, .loadedOut] ∨
          (view s sd).state = .loadedIn ∧ (view s sd).bin ≠ some r.bin →
        ∃ t, exec (.slotLoaded h r) s = .next t ∧
          view t sd = { view s sd with
            pend := some (posted s.bus.seq (slotFrame s sd h.tag (.slotRefuse .busy))) } ∧
          t.inv = s.inv ∧ t.sched.ctxs = s.sched.ctxs) ∧
      ∀ n, (view s sd).state = .theirs → (view s sd).ctx = some n → n < 16 →
        (ctxOf s n).state = .awaiting → (view s sd).raced = none → s.sched.doneQ.length < 8 →
        ((view s sd).tag ≠ h.tag ∨ (view s sd).bin ≠ some r.bin ∨ (recordOf s r.bin).isSome) →
        ∃ t, exec (.slotLoaded h r) s = .next t ∧ (view t sd).state = .free ∧
          (view t sd).ctx = none ∧
          (view t sd).pend =
            some (posted s.bus.seq (slotFrame s sd h.tag (.slotRefuse .busy))) ∧
          ctxOf t n = Ctx.blank ∧ (∃ e ∈ t.sched.doneQ, e.body.outcome = .removed ∧ e.body.ctx = n) ∧
          t.inv = s.inv)

/-- Tier 2. R110: a SLOT TAKEN with the tag of a LOADED_OUT view removes the IN_SLOT record, in one
store update, and the view becomes FREE with load refused cleared. No other record changes. One with
another tag is ignored there. A RECLAIM context for the side that is READY, STALLED or PAUSED ends REMOVED. On
a THEIRS or LOADED_IN view, one with the view's tag or bin is the sender's reclaim: the SPILL context ends
REMOVED and the view is FREE, but that an ACTIVE one waits for the drive's report. Any other SLOT TAKEN is
ignored. -/
def Obligations.SlotTakenSettlesTheLoad : Prop :=
  (∀ (s : State) (h : Header) (b : BinId) (sd : Side) (r : BinRecord), Calm s → Passes s h →
    sideOfStation s h.src = some sd → (view s sd).state = .loadedOut → (view s sd).tag = h.tag →
    recordAt s (.inSlot sd) = some r →
    ∃ t, exec (.slotTaken h b) s = .next t ∧ recordOf t r.body.bin = none ∧
      (∀ k, k ≠ r.body.bin → recordOf t k = recordOf s k) ∧ (view t sd).state = .free ∧
      (view t sd).loadRefused = false ∧ t.inv.columns = s.inv.columns ∧
      ∃ u, t.store.queue.getLast? = some u ∧ u.image = t.inv) ∧
  (∀ (s : State) (h : Header) (b : BinId) (sd : Side), Calm s → Passes s h →
    sideOfStation s h.src = some sd → (view s sd).state = .loadedOut → (view s sd).tag ≠ h.tag →
    ∃ t, exec (.slotTaken h b) s = .next t ∧ t.inv = s.inv ∧ t.slots = s.slots) ∧
  (∀ (s : State) (h : Header) (b : BinId) (sd : Side) (n : Nat), Calm s → Passes s h →
    TablesSized s → n < 16 → sideOfStation s h.src = some sd → (view s sd).ctx = some n →
    (view s sd).raced = none → s.sched.doneQ.length < 8 → (ctxOf s n).kind = .spill →
    ((view s sd).tag = h.tag ∨ (view s sd).bin = some b) →
    ((view s sd).state = .theirs ∧ (ctxOf s n).state = .awaiting ∨
        (view s sd).state = .loadedIn ∧ (ctxOf s n).state ∈ [.ready, .stalled, .paused] →
      ∃ t, exec (.slotTaken h b) s = .next t ∧ SpillRemoved s t sd n) ∧
    ((view s sd).state = .loadedIn → (ctxOf s n).state = .active →
      ∃ t, exec (.slotTaken h b) s = .next t ∧
        ctxOf t n = { ctxOf s n with takenAway := true } ∧ view t sd = view s sd ∧
        t.inv = s.inv)) ∧
  (∀ (s : State) (h : Header) (b : BinId) (sd : Side) (n : Nat) (r : BinRecord), Calm s →
    Passes s h → TablesSized s → n < 16 → sideOfStation s h.src = some sd →
    (view s sd).state = .loadedOut → (view s sd).tag = h.tag → recordAt s (.inSlot sd) = some r →
    s.sched.doneQ.length < 8 → (ctxOf s n).kind = .reclaim → (ctxOf s n).side = some sd →
    (∀ m ∈ ctxNumbers, m ≠ n → (ctxOf s m).kind ≠ .reclaim) →
    (ctxOf s n).state ∈ [.ready, .stalled, .paused] →
    ∃ t, exec (.slotTaken h b) s = .next t ∧ ctxOf t n = Ctx.blank ∧
      (∃ e ∈ t.sched.doneQ, e.body.outcome = .removed ∧ e.body.ctx = n) ∧
      recordOf t r.body.bin = none ∧ (view t sd).state = .free) ∧
  ∀ (s : State) (h : Header) (b : BinId) (sd : Side), Calm s → Passes s h →
    sideOfStation s h.src = some sd →
    ((view s sd).state ∈ [.free, .claiming, .mine] ∨
      (view s sd).state ∈ [.theirs, .loadedIn] ∧ (view s sd).tag ≠ h.tag ∧
        (view s sd).bin ≠ some b) →
    ∃ t, exec (.slotTaken h b) s = .next t ∧ t.inv = s.inv ∧ t.slots = s.slots ∧
      t.sched.ctxs = s.sched.ctxs

/-- Tier 2. R112: an accepted SLOT RECLAIM creates a RECLAIM context at level 10, READY in RUN, carrying
the IN_SLOT record, clears resend owed and withdraws a SLOT LOADED that waits or is pending, from the bus
too; no answer is posted. Refusals go at level 10: MALFORMED for a side other than 0 or 1, then NOT_READY,
FIRE, SLOT_STATE for a side that is not LOADED_OUT, BIN_BUSY for a side with a RECLAIM context, and
TABLE_FULL. -/
def Obligations.SlotReclaimTakesBack : Prop :=
  (∀ (s : State) (h : Header) (sd : Side) (r : BinRecord) (n : Nat),
    Calm (setView s sd { view s sd with resendOwed := false }) → Passes s h →
    TablesSized s → s.fire.latch = false → (view s sd).state = .loadedOut →
    reclaimOn s sd = false → freeCtx? s = some n → recordAt s (.inSlot sd) = some r →
    ∃ t, exec (.slotReclaim h (match sd with | .west => 0 | .east => 1)) s = .next t ∧
      ctxOf t n = { Ctx.blank with
        state := .ready, kind := .reclaim, cls := .reclaim, level := 10, origin := h.src,
        tag := h.tag, side := some sd, carried := some (.own r.body.bin),
        stamp := s.sched.nextStamp } ∧
      ((∀ f, (view s sd).pend = some f → f.frame.payload.isSlotLoaded = false) →
        view t sd = { view s sd with
          ctx := some n, resendOwed := false
          waiting := (view s sd).waiting.filter (fun w => w ≠ .loaded) }) ∧
      (∀ f, (view s sd).pend = some f → f.frame.payload.isSlotLoaded = true →
        (∀ w ∈ (view s sd).waiting, w = .loaded) →
        view t sd = { view s sd with
          ctx := some n, resendOwed := false, waiting := [], pend := none } ∧
        ∀ x, s.bus.tx = some x → x.pf.seq = f.seq →
          t.bus.tx = some { x with withdrawn := true }) ∧
      t.sched.ready = s.sched.ready.modify 9 (· ++ [n]) ∧ t.inv = s.inv ∧
      t.bus.replies = s.bus.replies) ∧
  ∀ (s : State) (h : Header) (side : Nat) (r : RefuseReason), Passes s h →
    s.bus.replies.length < 8 →
    ReclaimRefused s side r →
    ∃ t q, exec (.slotReclaim h side) s = .next t ∧
      t.bus.replies = s.bus.replies ++ [posted q (refusal s 10 h r)]

/-! ### The wing bus -/

/-- Tier 2. R171, R174: at an idle the transmitter takes a pending frame that no other frame it may send
beats in level, then rank, then source. Against no better rival it is the frame in transmission, with its
bits, spoiled where a bit read back past the arbitration word was not the one driven; against a better one
an arbitration loss is counted, and the frame stays pending. An OFFER and a RECORD are built as they are
taken: with the demand and loan count, and the record, as they then stand (the model's reading,
assumption 53). -/
def Obligations.TransmitterTakesTheBest : Prop :=
  ∀ (s : State) (back : ReadBack), s.bus.tx = none → sendable s ≠ [] →
    ∃ k f, (k, f) ∈ sendable s ∧
      (∀ p ∈ sendable s, wordBeats (wordOf p.2.frame) (wordOf f.frame) = false) ∧
      ((∀ r, back.rival = some r → wordBeats r (wordOf f.frame) = false) →
        ∃ t g, exec (.transmitContend back) s = .next t ∧
          t.bus = { s.bus with
            tx := some
              { key := k, pf := { f with frame := g }, bits := wireBits g, withdrawn := false
                spoiled := match back.past with
                  | none => false
                  | some l => l ≠ ((wireBits g).drop 22).take ((wireBits g).length - 31) } } ∧
          (∀ r, f.frame.payload = .record r → ∀ q, recordOf s r.bin = some q →
            g = { f.frame with payload := .record q.body }) ∧
          (∀ st b d o desk, f.frame.payload = .offer st b d o desk → ∀ q, recordOf s b = some q →
            g = { f.frame with
              payload := .offer st b q.body.demand (loanCount q.body) desk }) ∧
          ((∀ r, f.frame.payload ≠ .record r) →
            (∀ st b d o desk, f.frame.payload ≠ .offer st b d o desk) → g = f.frame) ∧
          Untouched [.bus, .motion, .sched] s t ∧ PortsQuiet s t) ∧
      (∀ r, back.rival = some r → wordBeats r (wordOf f.frame) = true →
        ∃ t, exec (.transmitContend back) s = .next t ∧
          t.bus = { s.bus with
            counters := { s.bus.counters with losses := min 65535 (s.bus.counters.losses + 1) } } ∧
          Untouched [.bus, .motion, .sched] s t ∧ PortsQuiet s t)

/-- Tier 2. R174, R87, R103: a frame of the node that the bus carries is counted as sent and is no
longer in transmission. A STATE leaves its place and is received by the node itself; a SLOT CLAIM
starts its side's claim timer; a BID for another holder's offer makes its context AWAITING with the
arrival timer running. R54: a DONE leaves the head of the completion queue, and the context that became
ENDING earliest moves its record to the tail and is FREE. R56: a PROGRESS leaves the notice slot, which
then loads the latest notice of the lowest-numbered context with the owed mark. R83: an OFFER leaves the
reply list and its entry's close timer starts, at twice the bid window. R88: the node's own BID for an offer
it holds open, without a winner, wins it: the record is ARRIVING, carried by the context in place of its
reservation. That a STATE of the node is
counted received is the model's reading of R174 (assumption 30). -/
def Obligations.SentFrameLeaves : Prop :=
  (∀ (s : State) (x : Tx), s.bus.tx = some x → x.withdrawn = false → x.spoiled = false →
    ∃ t, exec .ownFrameSent s = .next t ∧ t.bus.tx = none ∧
      t.bus.counters.sent = min 65535 (s.bus.counters.sent + 1)) ∧
  (∀ (s : State) (x : Tx) (f : PFrame) (r : StateReport), Calm s → s.bus.tx = some x →
    x.withdrawn = false → x.spoiled = false → x.key = .state → f ∈ s.bus.state →
    f.seq = x.pf.seq → x.pf.frame.payload = .state r → x.pf.frame.dst = 0 →
    ∃ t, exec .ownFrameSent s = .next t ∧
      t.bus.state = s.bus.state.filter (fun g => g.seq ≠ x.pf.seq) ∧
      t.bus.counters.received = min 65535 (s.bus.counters.received + 1) ∧ t.inv = s.inv) ∧
  (∀ (s : State) (x : Tx) (f : PFrame) (sd : Side) (b : BinId), Calm s → s.bus.tx = some x →
    x.withdrawn = false → x.spoiled = false → x.key = .slot sd → (view s sd).pend = some f →
    f.seq = x.pf.seq → (view s sd).waiting = [] → x.pf.frame.payload = .slotClaim b →
    x.pf.frame.dst ≠ 0 → x.pf.frame.dst ≠ s.board.station → (view s sd).state = .claiming →
    (view s sd).tag = x.pf.frame.tag →
    ∃ t, exec .ownFrameSent s = .next t ∧
      view t sd = { view s sd with pend := none, claimTimer := some s.setup.claimWindow }) ∧
  (∀ (s : State) (x : Tx) (f : PFrame) (n : Nat) (o : OfferRef) (b : BinId), Calm s → TablesSized s →
    n < 16 → s.bus.tx = some x → x.withdrawn = false → x.spoiled = false → x.key = .bid n →
    (ctxOf s n).bid = some f → f.seq = x.pf.seq → x.pf.frame.payload = .bid o.holder b →
    (ctxOf s n).offer = some o → o.holder ≠ s.board.station →
    ∃ t, exec .ownFrameSent s = .next t ∧
      ctxOf t n = { ctxOf s n with
        state := .awaiting, bid := none, bidTimer := none,
        arrivalTimer := some s.setup.arrivalWindow }) ∧
  (∀ (s : State) (x : Tx) (d : DoneBody) (e : DoneEntry) (es : List DoneEntry), Calm s →
    TablesSized s → s.bus.tx = some x → x.withdrawn = false → x.spoiled = false → x.key = .done →
    x.pf.frame.payload = .done d → s.sched.doneQ = e :: es → e.seq = x.pf.seq →
    (s.sched.ending = [] →
      ∃ t, exec .ownFrameSent s = .next t ∧ t.sched.doneQ = es ∧ t.sched.ctxs = s.sched.ctxs) ∧
    ∀ m ms q, s.sched.ending = m :: ms → m < 16 → (ctxOf s m).report = some q →
      ∃ t, exec .ownFrameSent s = .next t ∧
        t.sched.doneQ = es ++ [{ body := q, seq := s.bus.seq, voids := 0 }] ∧
        t.sched.ending = ms ∧ ctxOf t m = Ctx.blank ∧ ∀ k, k ≠ m → ctxOf t k = ctxOf s k) ∧
  (∀ (s : State) (x : Tx) (m : Notice) (a b c d : Nat), Calm s → TablesSized s → s.bus.tx = some x →
    x.withdrawn = false → x.spoiled = false → x.key = .notice →
    x.pf.frame.payload = .progress a b c d → s.sched.notice = [m] → m.pf.seq = x.pf.seq →
    ((∀ k ∈ ctxNumbers, (ctxOf s k).noticeOwed = false) →
      ∃ t, exec .ownFrameSent s = .next t ∧ t.sched.notice = [] ∧ t.sched.ctxs = s.sched.ctxs) ∧
    ∀ k w, k < 16 → (ctxOf s k).noticeOwed = true → (∀ j, j < k → (ctxOf s j).noticeOwed = false) →
      (ctxOf s k).lastNotice = some w →
      ∃ t, exec .ownFrameSent s = .next t ∧
        t.sched.notice =
          [{ ctx := k
             pf := posted s.bus.seq (frameOf s (ctxOf s k).level 0 (ctxOf s k).origin (ctxOf s k).tag
               (.progress k w.target w.bin w.dig)) }] ∧
        ctxOf t k = { ctxOf s k with noticeOwed := false } ∧ ∀ j, j ≠ k → ctxOf t j = ctxOf s j) ∧
  (∀ (s : State) (x : Tx) (f : PFrame) (fs : List PFrame) (st b d o desk : Nat), Calm s →
    OnTheBus s x .reply f → x.spoiled = false → s.bus.replies = f :: fs →
    x.pf.frame.payload = .offer st b d o desk → x.pf.frame.dst = 0 →
    ∃ t, exec .ownFrameSent s = .next t ∧ t.bus.replies = fs ∧
      t.stow.offers = s.stow.offers.map (fun e =>
        if e.tag = x.pf.frame.tag then { e with closeTimer := some (2 * s.setup.bidWindow) } else e) ∧
      t.inv = s.inv) ∧
  ∀ (s : State) (x : Tx) (f : PFrame) (n : Nat) (o : OfferRef) (e : OfferEntry) (r : BinRecord) (b : BinId),
    Calm s → TablesSized s → n < 16 → OnTheBus s x (.bid n) f → x.spoiled = false →
    (ctxOf s n).bid = some f → x.pf.frame.payload = .bid o.holder b → (ctxOf s n).offer = some o →
    o.holder = s.board.station → offerOf s o.tag = some e → e.closeTimer.isSome → e.winner = none →
    recordOf s e.bin = some r →
    ∃ t, exec .ownFrameSent s = .next t ∧
      ctxOf t n = { ctxOf s n with
        state := .awaiting, bid := none, bidTimer := none
        arrivalTimer := some s.setup.arrivalWindow, carried := some (.own e.bin)
        reserved := false } ∧
      recordOf t e.bin = some { r with residence := .arriving } ∧
      (∀ k, k ≠ e.bin → recordOf t k = recordOf s k) ∧
      t.stow.offers = s.stow.offers.map (fun k =>
        if k.tag = o.tag then { k with winner := some o.holder } else k)

/-- Tier 2. R170, R175: a void is counted, and no frame is in transmission. An answer frame of the node
keeps its place at the head of the reply list with its consecutive voids raised, and at the eighth is
dropped from it. What its owner does at the eighth: a SLOT CLAIM is a refusal (R104), a SLOT GRANT voids the
view (R111), a SLOT LOADED is owed, and sent again once R111 allows, a SLOT TAKEN is owed (R102), a SLOT
REFUSE is forgotten, a BID frees its context with no report (R86), and an OFFER's entry goes (R175). -/
def Obligations.VoidedFrameIsSentAgain : Prop :=
  (∀ s : State, ∃ t, exec .frameVoided s = .next t ∧ t.bus.tx = none ∧
    t.bus.counters.voids = min 65535 (s.bus.counters.voids + 1)) ∧
  (∀ (s : State) (x : Tx) (f : PFrame) (fs : List PFrame), s.bus.tx = some x →
    x.withdrawn = false → x.key = .reply → s.bus.replies = f :: fs → f.seq = x.pf.seq →
    x.pf.voids < 7 →
    ∃ t, exec .frameVoided s = .next t ∧
      t.bus.replies = { f with voids := x.pf.voids + 1 } :: fs) ∧
  (∀ (s : State) (x : Tx) (f : PFrame) (fs : List PFrame), s.bus.tx = some x →
    x.withdrawn = false → x.key = .reply → s.bus.replies = f :: fs → f.seq = x.pf.seq →
    7 ≤ x.pf.voids →
    ∃ t, exec .frameVoided s = .next t ∧ t.bus.replies = fs ∧
      ∀ st b d o desk, x.pf.frame.payload = .offer st b d o desk →
        t.stow.offers = s.stow.offers.filter (fun e => e.tag ≠ x.pf.frame.tag)) ∧
  (∀ (s : State) (x : Tx) (f : PFrame) (n : Nat), Calm s → TablesSized s → n < 16 →
    OnTheBus s x (.bid n) f → (ctxOf s n).bid = some f → (ctxOf s n).state = .bidding →
    7 ≤ x.pf.voids →
    ∃ t, exec .frameVoided s = .next t ∧ ctxOf t n = Ctx.blank ∧ t.sched.doneQ = s.sched.doneQ) ∧
  ∀ (s : State) (x : Tx) (f : PFrame) (sd : Side), Calm s → TablesSized s →
    OnTheBus s x (.slot sd) f → (view s sd).pend = some f → (view s sd).waiting = [] →
    (view s sd).raced = none → 7 ≤ x.pf.voids →
    (∀ k n, x.pf.frame.payload = .slotClaim k → (view s sd).state = .claiming →
      (view s sd).tag = x.pf.frame.tag → (view s sd).ctx = some n → n < 16 →
      (ctxOf s n).state = .stalled → (ctxOf s n).wait = some .slotWait →
      ∃ t, exec .frameVoided s = .next t ∧ (view t sd).state = .free ∧ (view t sd).pend = none ∧
        RefusalPathTaken s t sd n) ∧
    (∀ k n, x.pf.frame.payload = .slotGrant k → (view s sd).state = .theirs →
      (view s sd).tag = x.pf.frame.tag → (view s sd).ctx = some n → n < 16 →
      (ctxOf s n).state = .awaiting → s.sched.doneQ.length < 8 →
      ∃ t, exec .frameVoided s = .next t ∧ (view t sd).state = .free ∧ (view t sd).pend = none ∧
        ctxOf t n = Ctx.blank ∧ ∃ e ∈ t.sched.doneQ, e.body.outcome = .removed ∧ e.body.ctx = n) ∧
    (∀ r q, x.pf.frame.payload = .slotLoaded r → (view s sd).state = .loadedOut →
      (view s sd).tag = x.pf.frame.tag → recordAt s (.inSlot sd) = some q →
      ∃ t, exec .frameVoided s = .next t ∧
        view t sd =
          if sideClosed s sd = false ∧ (nbr s sd).present = true ∧
              (nbr s sd).nodeState = some .run ∧ reclaimOn s sd = false then
            { view s sd with
              pend := some (posted s.bus.seq
                (slotFrame s sd (view s sd).tag (.slotLoaded q.body))) }
          else { view s sd with resendOwed := true, pend := none }) ∧
    (∀ k, x.pf.frame.payload = .slotTaken k →
      ∃ t, exec .frameVoided s = .next t ∧
        view t sd = { view s sd with takenOwed := some (k, x.pf.frame.tag), pend := none }) ∧
    ∀ why, x.pf.frame.payload = .slotRefuse why →
      ∃ t, exec .frameVoided s = .next t ∧ view t sd = { view s sd with pend := none }

/-- Tier 2. R172: on the wire a frame is a start mark, 46 bits of fields, its payload, 16 bits of check and
nine recessive bits, and the check over the frame and its own check is 0. R171, R172, R177: what the node
reads off the bits of a frame with its fields in range is that frame again, every field and payload byte of
it; a frame whose check differs in any bit is voided. -/
def Obligations.FrameCheckPasses : Prop :=
  (∀ f : Frame, crc (((wireBits f).drop 1).take (46 + 8 * f.payload.bytes.length + 16)) = 0#16 ∧
    (wireBits f).length = 47 + 8 * f.payload.bytes.length + 16 + 9) ∧
  (∀ f : Frame, f.level ≤ 15 → f.rank < 4096 → f.src < 32 → f.dst < 32 → f.tag < 256 →
    f.payload.bytes.length ≤ 48 →
    readFrame (wireBits f) = some ({ src := f.src, dst := f.dst, tag := f.tag },
      { level := f.level, rank := f.rank, kind := f.payload.kindNum, payload := f.payload.bytes })) ∧
  ∀ (f : Frame) (check : BitVec 16), f.level ≤ 15 → f.payload.bytes.length ≤ 48 →
    check ≠ crc (checkedBits f) →
    readFrame (false :: checkedBits f ++ bitsOf 16 check.toNat ++ List.replicate 9 true) = none

/-- Tier 2. R153, R49: a FIRE in RUN that sets a neighbour zone afire, the own zone not, brings the node to
GUARD: READY and STALLED contexts are PAUSED, keeping their age stamps, bids are withdrawn, a pending SLOT
CLAIM is withdrawn, and each side next to a zone afire carries the FIRE cause, its shutter asked CLOSE
unless a transfer in flight uses the slot. R153, R50: a FIRE CLEAR in GUARD that leaves no neighbour zone
afire brings RUN again: PAUSED contexts are READY, and OPEN is asked of every side closed for fire, and sent
if its shutter neither stands OPEN nor is opening, its FIRE cause standing until the shutter stands OPEN.
R159: RESUMING ends when the last shutter reports OPEN: the node is back in RUN, its contexts released, or
in GUARD with a neighbour zone afire (assumption 35), in SURVEY, or in JOINING; from HOMING it goes where
the header comparison sends it. The gantry is taken as busy where contexts are released, so that none is
chosen in that event. A shutter counts for the end of RESUMING as it stands (assumption 69). -/
def Obligations.GuardHoldsTheBay : Prop :=
  (∀ (s : State) (h : Header) (z : ZoneSet), accepts s h = true → TablesSized s →
    s.fire.node = .run → s.motion.held = none → bayGrade s ≠ .alarm →
    (s.fire.zones ||| z).getLsbD s.board.zone.toNat = false →
    (∃ sd, BurnsBeside s (s.fire.zones ||| z) sd) →
    ∃ t, exec (.fire h z) s = .next t ∧ t.fire.node = .guarded ∧
      (∀ n ∈ ctxNumbers,
        ((ctxOf s n).state = .ready ∨ (ctxOf s n).state = .stalled →
          ctxOf t n = { ctxOf s n with state := .paused, wait := none }) ∧
        ((ctxOf s n).state = .active → (ctxOf t n).state = .active) ∧
        ((ctxOf s n).state = .bidding → ctxOf t n = Ctx.blank)) ∧
      (∀ sd ∈ sides, BurnsBeside s (s.fire.zones ||| z) sd →
        (view t sd).fireClosed = true ∧
        (slotInUse s sd = false → (shutter t (sideShutter sd)).asked = some .closed)) ∧
      ∀ sd ∈ sides, claimPending s sd = true → (view t sd).state = .free) ∧
  (∀ (s : State) (h : Header) (z : ZoneSet), accepts s h = true → TablesSized s →
    s.fire.node = .guarded → s.fire.latch = false → s.motion.gantry ≠ .idle →
    bayGrade s ≠ .alarm → s.fire.zones.getLsbD s.board.zone.toNat = false →
    (∀ sd, ¬ BurnsBeside s (s.fire.zones &&& ~~~z) sd) →
    ∃ t, exec (.fireClear h z) s = .next t ∧ t.fire.node = .run ∧
      (∀ n ∈ ctxNumbers, (ctxOf s n).state = .paused → (ctxOf t n).state = .ready) ∧
      ∀ sd ∈ sides, (view s sd).fireClosed = true →
        (shutter t (sideShutter sd)).asked = some .opened ∧
        ((shutter s (sideShutter sd)).state ≠ .opened → (view t sd).fireClosed = true) ∧
        ((shutter s (sideShutter sd)).state ∈ [.closed, .closing, .unknown] → s.motion.power = true →
          (shutter t (sideShutter sd)).state = .opening ∧
          .shutter (sideShutter sd) .opened ∈ t.motion.out)) ∧
  ∀ (s : State) (sh : ShutterId), TablesSized s → s.fire.node = .resuming → s.fire.opening = true →
    s.startup.reconciled = true → (shutter s sh).asked = some .opened →
    (∀ k, k ≠ sh → (shutter s k).state = .opened ∨ (shutter s k).state = .unknown) →
    s.motion.gantry ≠ .idle →
    ∃ t, exec (.shutterDone sh .opened) s = .next t ∧
      (t.fire.node = match s.fire.resumeTo with
        | .run | .guarded => if neighbourAfire s then .guarded else .run
        | .survey => .survey
        | .joining => .joining
        | _ => if headerMatches s then .joining else .survey) ∧
      ((s.fire.resumeTo = .run ∨ s.fire.resumeTo = .guarded) → neighbourAfire s = false →
        ∀ n ∈ ctxNumbers, (ctxOf s n).state = .paused → (ctxOf t n).state = .ready)
end

