-- ==== Sys2Proof/Laws/State.lean ====
section
/-! SUPPORT. One lemma per block of the state per block update: an update of one block gives that block its
value and leaves every other block as it was. -/

namespace Sys2Proof.Machine

open Sys2Proof

section InvUpdate

variable (s : State) (v : Image)

@[simp] theorem State.withInv_board : (s.withInv v).board = s.board := rfl
@[simp] theorem State.withInv_inv : (s.withInv v).inv = v := rfl
@[simp] theorem State.withInv_store : (s.withInv v).store = s.store := rfl
@[simp] theorem State.withInv_sched : (s.withInv v).sched = s.sched := rfl
@[simp] theorem State.withInv_stow : (s.withInv v).stow = s.stow := rfl
@[simp] theorem State.withInv_slots : (s.withInv v).slots = s.slots := rfl
@[simp] theorem State.withInv_motion : (s.withInv v).motion = s.motion := rfl
@[simp] theorem State.withInv_det : (s.withInv v).det = s.det := rfl
@[simp] theorem State.withInv_fire : (s.withInv v).fire = s.fire := rfl
@[simp] theorem State.withInv_bus : (s.withInv v).bus = s.bus := rfl
@[simp] theorem State.withInv_setup : (s.withInv v).setup = s.setup := rfl
@[simp] theorem State.withInv_startup : (s.withInv v).startup = s.startup := rfl
@[simp] theorem State.withInv_free : (s.withInv v).free = s.free := rfl
@[simp] theorem State.withInv_pending : (s.withInv v).pending = s.pending := rfl

end InvUpdate

section StoreUpdate

variable (s : State) (v : Store)

@[simp] theorem State.withStore_board : (s.withStore v).board = s.board := rfl
@[simp] theorem State.withStore_inv : (s.withStore v).inv = s.inv := rfl
@[simp] theorem State.withStore_store : (s.withStore v).store = v := rfl
@[simp] theorem State.withStore_sched : (s.withStore v).sched = s.sched := rfl
@[simp] theorem State.withStore_stow : (s.withStore v).stow = s.stow := rfl
@[simp] theorem State.withStore_slots : (s.withStore v).slots = s.slots := rfl
@[simp] theorem State.withStore_motion : (s.withStore v).motion = s.motion := rfl
@[simp] theorem State.withStore_det : (s.withStore v).det = s.det := rfl
@[simp] theorem State.withStore_fire : (s.withStore v).fire = s.fire := rfl
@[simp] theorem State.withStore_bus : (s.withStore v).bus = s.bus := rfl
@[simp] theorem State.withStore_setup : (s.withStore v).setup = s.setup := rfl
@[simp] theorem State.withStore_startup : (s.withStore v).startup = s.startup := rfl
@[simp] theorem State.withStore_free : (s.withStore v).free = s.free := rfl
@[simp] theorem State.withStore_pending : (s.withStore v).pending = s.pending := rfl

end StoreUpdate

section SchedUpdate

variable (s : State) (v : Sched)

@[simp] theorem State.withSched_board : (s.withSched v).board = s.board := rfl
@[simp] theorem State.withSched_inv : (s.withSched v).inv = s.inv := rfl
@[simp] theorem State.withSched_store : (s.withSched v).store = s.store := rfl
@[simp] theorem State.withSched_sched : (s.withSched v).sched = v := rfl
@[simp] theorem State.withSched_stow : (s.withSched v).stow = s.stow := rfl
@[simp] theorem State.withSched_slots : (s.withSched v).slots = s.slots := rfl
@[simp] theorem State.withSched_motion : (s.withSched v).motion = s.motion := rfl
@[simp] theorem State.withSched_det : (s.withSched v).det = s.det := rfl
@[simp] theorem State.withSched_fire : (s.withSched v).fire = s.fire := rfl
@[simp] theorem State.withSched_bus : (s.withSched v).bus = s.bus := rfl
@[simp] theorem State.withSched_setup : (s.withSched v).setup = s.setup := rfl
@[simp] theorem State.withSched_startup : (s.withSched v).startup = s.startup := rfl
@[simp] theorem State.withSched_free : (s.withSched v).free = s.free := rfl
@[simp] theorem State.withSched_pending : (s.withSched v).pending = s.pending := rfl

end SchedUpdate

section StowUpdate

variable (s : State) (v : Stow)

@[simp] theorem State.withStow_board : (s.withStow v).board = s.board := rfl
@[simp] theorem State.withStow_inv : (s.withStow v).inv = s.inv := rfl
@[simp] theorem State.withStow_store : (s.withStow v).store = s.store := rfl
@[simp] theorem State.withStow_sched : (s.withStow v).sched = s.sched := rfl
@[simp] theorem State.withStow_stow : (s.withStow v).stow = v := rfl
@[simp] theorem State.withStow_slots : (s.withStow v).slots = s.slots := rfl
@[simp] theorem State.withStow_motion : (s.withStow v).motion = s.motion := rfl
@[simp] theorem State.withStow_det : (s.withStow v).det = s.det := rfl
@[simp] theorem State.withStow_fire : (s.withStow v).fire = s.fire := rfl
@[simp] theorem State.withStow_bus : (s.withStow v).bus = s.bus := rfl
@[simp] theorem State.withStow_setup : (s.withStow v).setup = s.setup := rfl
@[simp] theorem State.withStow_startup : (s.withStow v).startup = s.startup := rfl
@[simp] theorem State.withStow_free : (s.withStow v).free = s.free := rfl
@[simp] theorem State.withStow_pending : (s.withStow v).pending = s.pending := rfl

end StowUpdate

section SlotsUpdate

variable (s : State) (v : Slots)

@[simp] theorem State.withSlots_board : (s.withSlots v).board = s.board := rfl
@[simp] theorem State.withSlots_inv : (s.withSlots v).inv = s.inv := rfl
@[simp] theorem State.withSlots_store : (s.withSlots v).store = s.store := rfl
@[simp] theorem State.withSlots_sched : (s.withSlots v).sched = s.sched := rfl
@[simp] theorem State.withSlots_stow : (s.withSlots v).stow = s.stow := rfl
@[simp] theorem State.withSlots_slots : (s.withSlots v).slots = v := rfl
@[simp] theorem State.withSlots_motion : (s.withSlots v).motion = s.motion := rfl
@[simp] theorem State.withSlots_det : (s.withSlots v).det = s.det := rfl
@[simp] theorem State.withSlots_fire : (s.withSlots v).fire = s.fire := rfl
@[simp] theorem State.withSlots_bus : (s.withSlots v).bus = s.bus := rfl
@[simp] theorem State.withSlots_setup : (s.withSlots v).setup = s.setup := rfl
@[simp] theorem State.withSlots_startup : (s.withSlots v).startup = s.startup := rfl
@[simp] theorem State.withSlots_free : (s.withSlots v).free = s.free := rfl
@[simp] theorem State.withSlots_pending : (s.withSlots v).pending = s.pending := rfl

end SlotsUpdate

section MotionUpdate

variable (s : State) (v : Motion)

@[simp] theorem State.withMotion_board : (s.withMotion v).board = s.board := rfl
@[simp] theorem State.withMotion_inv : (s.withMotion v).inv = s.inv := rfl
@[simp] theorem State.withMotion_store : (s.withMotion v).store = s.store := rfl
@[simp] theorem State.withMotion_sched : (s.withMotion v).sched = s.sched := rfl
@[simp] theorem State.withMotion_stow : (s.withMotion v).stow = s.stow := rfl
@[simp] theorem State.withMotion_slots : (s.withMotion v).slots = s.slots := rfl
@[simp] theorem State.withMotion_motion : (s.withMotion v).motion = v := rfl
@[simp] theorem State.withMotion_det : (s.withMotion v).det = s.det := rfl
@[simp] theorem State.withMotion_fire : (s.withMotion v).fire = s.fire := rfl
@[simp] theorem State.withMotion_bus : (s.withMotion v).bus = s.bus := rfl
@[simp] theorem State.withMotion_setup : (s.withMotion v).setup = s.setup := rfl
@[simp] theorem State.withMotion_startup : (s.withMotion v).startup = s.startup := rfl
@[simp] theorem State.withMotion_free : (s.withMotion v).free = s.free := rfl
@[simp] theorem State.withMotion_pending : (s.withMotion v).pending = s.pending := rfl

end MotionUpdate

section DetUpdate

variable (s : State) (v : List DetInput)

@[simp] theorem State.withDet_board : (s.withDet v).board = s.board := rfl
@[simp] theorem State.withDet_inv : (s.withDet v).inv = s.inv := rfl
@[simp] theorem State.withDet_store : (s.withDet v).store = s.store := rfl
@[simp] theorem State.withDet_sched : (s.withDet v).sched = s.sched := rfl
@[simp] theorem State.withDet_stow : (s.withDet v).stow = s.stow := rfl
@[simp] theorem State.withDet_slots : (s.withDet v).slots = s.slots := rfl
@[simp] theorem State.withDet_motion : (s.withDet v).motion = s.motion := rfl
@[simp] theorem State.withDet_det : (s.withDet v).det = v := rfl
@[simp] theorem State.withDet_fire : (s.withDet v).fire = s.fire := rfl
@[simp] theorem State.withDet_bus : (s.withDet v).bus = s.bus := rfl
@[simp] theorem State.withDet_setup : (s.withDet v).setup = s.setup := rfl
@[simp] theorem State.withDet_startup : (s.withDet v).startup = s.startup := rfl
@[simp] theorem State.withDet_free : (s.withDet v).free = s.free := rfl
@[simp] theorem State.withDet_pending : (s.withDet v).pending = s.pending := rfl

end DetUpdate

section FireUpdate

variable (s : State) (v : FireCtl)

@[simp] theorem State.withFire_board : (s.withFire v).board = s.board := rfl
@[simp] theorem State.withFire_inv : (s.withFire v).inv = s.inv := rfl
@[simp] theorem State.withFire_store : (s.withFire v).store = s.store := rfl
@[simp] theorem State.withFire_sched : (s.withFire v).sched = s.sched := rfl
@[simp] theorem State.withFire_stow : (s.withFire v).stow = s.stow := rfl
@[simp] theorem State.withFire_slots : (s.withFire v).slots = s.slots := rfl
@[simp] theorem State.withFire_motion : (s.withFire v).motion = s.motion := rfl
@[simp] theorem State.withFire_det : (s.withFire v).det = s.det := rfl
@[simp] theorem State.withFire_fire : (s.withFire v).fire = v := rfl
@[simp] theorem State.withFire_bus : (s.withFire v).bus = s.bus := rfl
@[simp] theorem State.withFire_setup : (s.withFire v).setup = s.setup := rfl
@[simp] theorem State.withFire_startup : (s.withFire v).startup = s.startup := rfl
@[simp] theorem State.withFire_free : (s.withFire v).free = s.free := rfl
@[simp] theorem State.withFire_pending : (s.withFire v).pending = s.pending := rfl

end FireUpdate

section BusUpdate

variable (s : State) (v : Bus)

@[simp] theorem State.withBus_board : (s.withBus v).board = s.board := rfl
@[simp] theorem State.withBus_inv : (s.withBus v).inv = s.inv := rfl
@[simp] theorem State.withBus_store : (s.withBus v).store = s.store := rfl
@[simp] theorem State.withBus_sched : (s.withBus v).sched = s.sched := rfl
@[simp] theorem State.withBus_stow : (s.withBus v).stow = s.stow := rfl
@[simp] theorem State.withBus_slots : (s.withBus v).slots = s.slots := rfl
@[simp] theorem State.withBus_motion : (s.withBus v).motion = s.motion := rfl
@[simp] theorem State.withBus_det : (s.withBus v).det = s.det := rfl
@[simp] theorem State.withBus_fire : (s.withBus v).fire = s.fire := rfl
@[simp] theorem State.withBus_bus : (s.withBus v).bus = v := rfl
@[simp] theorem State.withBus_setup : (s.withBus v).setup = s.setup := rfl
@[simp] theorem State.withBus_startup : (s.withBus v).startup = s.startup := rfl
@[simp] theorem State.withBus_free : (s.withBus v).free = s.free := rfl
@[simp] theorem State.withBus_pending : (s.withBus v).pending = s.pending := rfl

end BusUpdate

section SetupUpdate

variable (s : State) (v : Setup)

@[simp] theorem State.withSetup_board : (s.withSetup v).board = s.board := rfl
@[simp] theorem State.withSetup_inv : (s.withSetup v).inv = s.inv := rfl
@[simp] theorem State.withSetup_store : (s.withSetup v).store = s.store := rfl
@[simp] theorem State.withSetup_sched : (s.withSetup v).sched = s.sched := rfl
@[simp] theorem State.withSetup_stow : (s.withSetup v).stow = s.stow := rfl
@[simp] theorem State.withSetup_slots : (s.withSetup v).slots = s.slots := rfl
@[simp] theorem State.withSetup_motion : (s.withSetup v).motion = s.motion := rfl
@[simp] theorem State.withSetup_det : (s.withSetup v).det = s.det := rfl
@[simp] theorem State.withSetup_fire : (s.withSetup v).fire = s.fire := rfl
@[simp] theorem State.withSetup_bus : (s.withSetup v).bus = s.bus := rfl
@[simp] theorem State.withSetup_setup : (s.withSetup v).setup = v := rfl
@[simp] theorem State.withSetup_startup : (s.withSetup v).startup = s.startup := rfl
@[simp] theorem State.withSetup_free : (s.withSetup v).free = s.free := rfl
@[simp] theorem State.withSetup_pending : (s.withSetup v).pending = s.pending := rfl

end SetupUpdate

section StartupUpdate

variable (s : State) (v : Startup)

@[simp] theorem State.withStartup_board : (s.withStartup v).board = s.board := rfl
@[simp] theorem State.withStartup_inv : (s.withStartup v).inv = s.inv := rfl
@[simp] theorem State.withStartup_store : (s.withStartup v).store = s.store := rfl
@[simp] theorem State.withStartup_sched : (s.withStartup v).sched = s.sched := rfl
@[simp] theorem State.withStartup_stow : (s.withStartup v).stow = s.stow := rfl
@[simp] theorem State.withStartup_slots : (s.withStartup v).slots = s.slots := rfl
@[simp] theorem State.withStartup_motion : (s.withStartup v).motion = s.motion := rfl
@[simp] theorem State.withStartup_det : (s.withStartup v).det = s.det := rfl
@[simp] theorem State.withStartup_fire : (s.withStartup v).fire = s.fire := rfl
@[simp] theorem State.withStartup_bus : (s.withStartup v).bus = s.bus := rfl
@[simp] theorem State.withStartup_setup : (s.withStartup v).setup = s.setup := rfl
@[simp] theorem State.withStartup_startup : (s.withStartup v).startup = v := rfl
@[simp] theorem State.withStartup_free : (s.withStartup v).free = s.free := rfl
@[simp] theorem State.withStartup_pending : (s.withStartup v).pending = s.pending := rfl

end StartupUpdate

section FreeUpdate

variable (s : State) (v : Nat)

@[simp] theorem State.withFree_board : (s.withFree v).board = s.board := rfl
@[simp] theorem State.withFree_inv : (s.withFree v).inv = s.inv := rfl
@[simp] theorem State.withFree_store : (s.withFree v).store = s.store := rfl
@[simp] theorem State.withFree_sched : (s.withFree v).sched = s.sched := rfl
@[simp] theorem State.withFree_stow : (s.withFree v).stow = s.stow := rfl
@[simp] theorem State.withFree_slots : (s.withFree v).slots = s.slots := rfl
@[simp] theorem State.withFree_motion : (s.withFree v).motion = s.motion := rfl
@[simp] theorem State.withFree_det : (s.withFree v).det = s.det := rfl
@[simp] theorem State.withFree_fire : (s.withFree v).fire = s.fire := rfl
@[simp] theorem State.withFree_bus : (s.withFree v).bus = s.bus := rfl
@[simp] theorem State.withFree_setup : (s.withFree v).setup = s.setup := rfl
@[simp] theorem State.withFree_startup : (s.withFree v).startup = s.startup := rfl
@[simp] theorem State.withFree_free : (s.withFree v).free = v := rfl
@[simp] theorem State.withFree_pending : (s.withFree v).pending = s.pending := rfl

end FreeUpdate

section PendingUpdate

variable (s : State) (v : List Instr)

@[simp] theorem State.withPending_board : (s.withPending v).board = s.board := rfl
@[simp] theorem State.withPending_inv : (s.withPending v).inv = s.inv := rfl
@[simp] theorem State.withPending_store : (s.withPending v).store = s.store := rfl
@[simp] theorem State.withPending_sched : (s.withPending v).sched = s.sched := rfl
@[simp] theorem State.withPending_stow : (s.withPending v).stow = s.stow := rfl
@[simp] theorem State.withPending_slots : (s.withPending v).slots = s.slots := rfl
@[simp] theorem State.withPending_motion : (s.withPending v).motion = s.motion := rfl
@[simp] theorem State.withPending_det : (s.withPending v).det = s.det := rfl
@[simp] theorem State.withPending_fire : (s.withPending v).fire = s.fire := rfl
@[simp] theorem State.withPending_bus : (s.withPending v).bus = s.bus := rfl
@[simp] theorem State.withPending_setup : (s.withPending v).setup = s.setup := rfl
@[simp] theorem State.withPending_startup : (s.withPending v).startup = s.startup := rfl
@[simp] theorem State.withPending_free : (s.withPending v).free = s.free := rfl
@[simp] theorem State.withPending_pending : (s.withPending v).pending = v := rfl

end PendingUpdate

end Sys2Proof.Machine
end

