-- ==== Sys2Proof/Laws/Settle.lean ====
section
/-! SUPPORT. What the end of an event leaves alone. `lasting` is the part of the state that no stall, wake-up,
claim, lock, step start, end of a context or frame of the slot and fire machinery changes; each lemma
says so of one operation. -/

namespace Sys2Proof.Machine

open Sys2Proof

/-- The parts of the state that no operation of an event's end changes, but for the emptying of R21. -/
def kept (s : State) :=
  (s.board, s.store.image, s.stow, s.det, s.fire.zones, s.fire.latch, s.setup, s.startup, s.free,
    s.pending, s.bus.replies, s.bus.counters, s.bus.nbWest, s.bus.nbEast)

/-- The inventory and chute fields that no operation of an event's end changes, but for the emptying of
R21. -/
def goods (s : State) :=
  (s.inv.records, s.inv.columns, awayLine s, s.inv.valid, s.inv.fireStop, s.motion.chute,
    s.motion.reason, s.motion.putAway)

/-- Both. -/
def lasting (s : State) := (kept s, goods s)

theorem kept_of_lasting {s t : State} (h : lasting t = lasting s) : kept t = kept s :=
  congrArg Prod.fst h

theorem goods_of_lasting {s t : State} (h : lasting t = lasting s) : goods t = goods s :=
  congrArg Prod.snd h

theorem lasting_foldl {α : Type} (f : State → α → State) (h : ∀ s a, lasting (f s a) = lasting s)
    (l : List α) (s : State) : lasting (l.foldl f s) = lasting s := by
  induction l generalizing s with
  | nil => rfl
  | cons a as ih => rw [List.foldl_cons, ih, h]

/-! ### Block updates and contexts -/

@[simp] theorem lasting_withSched (s : State) (v : Sched) : lasting (s.withSched v) = lasting s := rfl
@[simp] theorem lasting_withSlots (s : State) (v : Slots) : lasting (s.withSlots v) = lasting s := rfl
@[simp] theorem lasting_setCtx (s : State) (n : Nat) (c : Ctx) :
    lasting (setCtx s n c) = lasting s := rfl
@[simp] theorem lasting_modCtx (s : State) (n : Nat) (f : Ctx → Ctx) :
    lasting (modCtx s n f) = lasting s := rfl
@[simp] theorem lasting_bumpSeq (s : State) : lasting (bumpSeq s) = lasting s := rfl
@[simp] theorem lasting_send (s : State) (c : MotionCmd) : lasting (send s c) = lasting s := rfl
@[simp] theorem lasting_clearOut (s : State) : lasting (clearOut s) = lasting s := rfl
@[simp] theorem lasting_startTimer (s : State) : lasting (startTimer s) = lasting s := rfl
@[simp] theorem lasting_setView (s : State) (sd : Side) (v : SlotView) :
    lasting (setView s sd v) = lasting s := by cases sd <;> rfl
@[simp] theorem lasting_modView (s : State) (sd : Side) (f : SlotView → SlotView) :
    lasting (modView s sd f) = lasting s := by simp [modView]
@[simp] theorem lasting_setShutter (s : State) (sh : ShutterId) (v : Shutter) :
    lasting (setShutter s sh v) = lasting s := by cases sh <;> rfl
@[simp] theorem lasting_setNode (s : State) (n : NodeState) : lasting (setNode s n) = lasting s := rfl
@[simp] theorem lasting_launch (s : State) (x : Xfer) : lasting (launch s x) = lasting s := rfl
@[simp] theorem lasting_moveOverflow (s : State) : lasting (moveOverflow s) = lasting s := by
  unfold moveOverflow
  split
  · rfl
  · rename_i b hb
    split
    · have ha : awayLine (joinAway (s.withInv { s.inv with overflow := none }) b) = awayLine s := by
        simp [awayLine, joinAway, hb]
      simp only [lasting, goods, ha]
      rfl
    · rfl
@[simp] theorem lasting_withdrawTx (s : State) (q : Nat) : lasting (withdrawTx s q) = lasting s := by
  unfold withdrawTx
  split
  · rfl
  · split <;> rfl

/-! ### Ready lists, stalls and wake-ups -/

@[simp] theorem lasting_leaveList (s : State) (n : Nat) : lasting (leaveList s n) = lasting s := rfl
@[simp] theorem lasting_toTail (s : State) (n : Nat) : lasting (toTail s n) = lasting s := rfl
@[simp] theorem lasting_toHead (s : State) (n : Nat) : lasting (toHead s n) = lasting s := rfl
@[simp] theorem lasting_enterPaused (s : State) (n : Nat) :
    lasting (enterPaused s n) = lasting s := rfl
@[simp] theorem lasting_readied (s : State) (n : Nat) : lasting (readied s n) = lasting s := by
  unfold readied
  split <;> simp
@[simp] theorem lasting_pauseCtx (s : State) (n : Nat) : lasting (pauseCtx s n) = lasting s := rfl
@[simp] theorem lasting_stall (s : State) (n : Nat) (r : WaitReason) :
    lasting (stall s n r) = lasting s := rfl
@[simp] theorem lasting_wakeWhere (s : State) (p : Nat → WaitReason → Bool) :
    lasting (wakeWhere s p) = lasting s := rfl
@[simp] theorem lasting_flushWoken (s : State) : lasting (flushWoken s) = lasting s :=
  lasting_foldl _ lasting_toTail _ _
@[simp] theorem lasting_wakeOn (s : State) (r : WaitReason) : lasting (wakeOn s r) = lasting s := by
  simp [wakeOn]
@[simp] theorem lasting_awayFreed (s : State) : lasting (awayFreed s) = lasting s := by
  unfold awayFreed
  split <;> simp
@[simp] theorem lasting_releaseLock (s : State) (n : Nat) :
    lasting (releaseLock s n) = lasting s := by
  unfold releaseLock
  split <;> simp
@[simp] theorem lasting_takeLock (s : State) (n c : Nat) : lasting (takeLock s n c) = lasting s := by
  unfold takeLock
  split <;> simp
@[simp] theorem lasting_pauseIn (s : State) (p : CtxState → Bool) :
    lasting (pauseIn s p) = lasting s := lasting_foldl _ lasting_pauseCtx _ _
@[simp] theorem lasting_releasePaused (s : State) : lasting (releasePaused s) = lasting s :=
  lasting_foldl _ lasting_toTail _ _
@[simp] theorem lasting_withdrawBid (s : State) (n : Nat) :
    lasting (withdrawBid s n) = lasting s := by
  unfold withdrawBid
  split <;> simp
@[simp] theorem lasting_withdrawAllBids (s : State) : lasting (withdrawAllBids s) = lasting s :=
  lasting_foldl _ lasting_withdrawBid _ _

/-! ### Notices and completion records -/

@[simp] theorem lasting_loadNotice (s : State) (n : Nat) (b : NoticeBody) :
    lasting (loadNotice s n b) = lasting s := rfl
@[simp] theorem lasting_loadOwed (s : State) : lasting (loadOwed s) = lasting s := by
  unfold loadOwed
  split
  · rfl
  · split <;> simp
@[simp] theorem lasting_noticeLeaves (s : State) (p : Notice → Bool) :
    lasting (noticeLeaves s p) = lasting s := by
  unfold noticeLeaves
  dsimp only
  split <;> simp
@[simp] theorem lasting_withdrawNotice (s : State) (n : Nat) :
    lasting (withdrawNotice s n) = lasting s := by
  unfold withdrawNotice
  dsimp only
  split
  · rfl
  · rw [lasting_noticeLeaves]
    exact lasting_foldl _ (fun t (m : Notice) => lasting_withdrawTx t m.pf.seq) _ _
@[simp] theorem lasting_pushDone (s : State) (d : DoneBody) : lasting (pushDone s d) = lasting s := rfl
@[simp] theorem lasting_reportEnd (s : State) (n : Nat) (d : DoneBody) :
    lasting (reportEnd s n d) = lasting s := by
  unfold reportEnd
  split <;> simp
@[simp] theorem lasting_forgetStep (s : State) (n : Nat) : lasting (forgetStep s n) = lasting s := by
  unfold forgetStep
  dsimp only
  split <;> rfl

/-! ### Slots -/

@[simp] theorem lasting_postSlot (s : State) (sd : Side) (t : Tag) (p : Payload) :
    lasting (postSlot s sd t p) = lasting s := by simp [postSlot]
@[simp] theorem lasting_answerSlot (s : State) (sd : Side) (t : Tag) (p : Payload) :
    lasting (answerSlot s sd t p) = lasting s := by
  unfold answerSlot
  split <;> simp
@[simp] theorem lasting_postWaiting (s : State) (sd : Side) (w : SlotWait) :
    lasting (postWaiting s sd w) = lasting s := by
  unfold postWaiting
  split
  · simp
  · split
    · split <;> simp
    · rfl
@[simp] theorem lasting_postFirst (s : State) (sd : Side) (ws : List SlotWait) :
    lasting (postFirst s sd ws) = lasting s := by
  induction ws generalizing s with
  | nil => simp [postFirst]
  | cons w ws ih =>
    unfold postFirst
    dsimp only
    split <;> simp [ih]
@[simp] theorem lasting_slotFrameLeaves (s : State) (sd : Side) :
    lasting (slotFrameLeaves s sd) = lasting s := by simp [slotFrameLeaves]
@[simp] theorem lasting_postSlotData (s : State) (sd : Side) (w : SlotWait) :
    lasting (postSlotData s sd w) = lasting s := by
  unfold postSlotData
  split
  · simp
  · split <;> simp
@[simp] theorem lasting_bumpTag (s : State) : lasting (bumpTag s) = lasting s := rfl
@[simp] theorem lasting_claimSide (s : State) (sd : Side) (n : Nat) (b : BinId) :
    lasting (claimSide s sd n b) = lasting s := by simp [claimSide]
@[simp] theorem lasting_spillRequest (s : State) (n : Nat) (b : BinId) :
    lasting (spillRequest s n b) = lasting s := by
  unfold spillRequest
  split <;> simp
@[simp] theorem lasting_refusalPath (s : State) (n : Nat) (sd : Side) :
    lasting (refusalPath s n sd) = lasting s := by
  unfold refusalPath
  split
  · split <;> simp
  · rfl
@[simp] theorem lasting_settleRace (s : State) (sd : Side) : lasting (settleRace s sd) = lasting s := by
  unfold settleRace
  split <;> simp
@[simp] theorem lasting_freeView (s : State) (sd : Side) : lasting (freeView s sd) = lasting s := by
  unfold freeView
  dsimp only
  split <;> simp
@[simp] theorem lasting_unpostClaim (s : State) (sd : Side) :
    lasting (unpostClaim s sd) = lasting s := by
  unfold unpostClaim
  split <;> simp
@[simp] theorem lasting_withdrawClaim (s : State) (sd : Side) :
    lasting (withdrawClaim s sd) = lasting s := by
  unfold withdrawClaim
  dsimp only
  split
  · split <;> simp
  · rfl
@[simp] theorem lasting_claimRefused (s : State) (sd : Side) :
    lasting (claimRefused s sd) = lasting s := by
  unfold claimRefused
  dsimp only
  split <;> simp
@[simp] theorem lasting_overlayLifted (s : State) (sd : Side) :
    lasting (overlayLifted s sd) = lasting s := by
  unfold overlayLifted
  split <;> simp

@[simp] theorem lasting_dropHeld (s : State) : lasting (dropHeld s) = lasting s := by
  unfold dropHeld
  dsimp only
  split
  · rfl
  · split <;> rfl
@[simp] theorem lasting_dropHeldAt (s : State) (sd : Side) : lasting (dropHeldAt s sd) = lasting s := by
  unfold dropHeldAt
  split
  · split <;> simp
  · rfl
@[simp] theorem lasting_oweResend (s : State) (sd : Side) : lasting (oweResend s sd) = lasting s := by
  simp [oweResend]

/-- A change of an overlay leaves alone what the change itself does. -/
theorem lasting_changeOverlay (sd : Side) (f : State → State) (s : State) :
    lasting (changeOverlay sd f s) = lasting (f s) := by
  unfold changeOverlay
  dsimp only
  split <;> split <;> simp

@[simp] theorem lasting_resendLoaded (s : State) (sd : Side) :
    lasting (resendLoaded s sd) = lasting s := by
  unfold resendLoaded
  split <;> simp
@[simp] theorem lasting_leaveView (n : Nat) (s : State) (sd : Side) :
    lasting (leaveView n s sd) = lasting s := by
  unfold leaveView
  split
  · split
    · split <;> simp
    · simp
    · simp
  · rfl
@[simp] theorem lasting_leaveRace (n : Nat) (s : State) (sd : Side) :
    lasting (leaveRace n s sd) = lasting s := by
  unfold leaveRace
  split <;> simp
@[simp] theorem lasting_endCtx (s : State) (n : Nat) (o : JobOutcome) (d : Nat) :
    lasting (endCtx s n o d) = lasting s := by
  unfold endCtx
  dsimp only
  split
  · rfl
  · rw [lasting_foldl _ (lasting_leaveView n), lasting_foldl _ (lasting_leaveRace n)]
    simp
@[simp] theorem lasting_voidGrant (s : State) (sd : Side) : lasting (voidGrant s sd) = lasting s := by
  unfold voidGrant
  split
  · split <;> simp
  · rfl

/-! ### The motion port -/

@[simp] theorem lasting_parkPlain (s : State) : lasting (parkPlain s) = lasting s := rfl
@[simp] theorem lasting_parkReconcile (s : State) : lasting (parkReconcile s) = lasting s := rfl
@[simp] theorem lasting_gantryIdle (s : State) : lasting (gantryIdle s) = lasting s := rfl
@[simp] theorem lasting_abandonXfer (s : State) (x : Xfer) : lasting (abandonXfer s x) = lasting s := rfl
@[simp] theorem lasting_retargetXfer (s : State) (x : Xfer) (c : Nat) :
    lasting (retargetXfer s x c) = lasting s := rfl
@[simp] theorem lasting_powerOff (s : State) : lasting (powerOff s) = lasting s := rfl
@[simp] theorem lasting_askShutter (s : State) (sh : ShutterId) (p : ShutterPos) :
    lasting (askShutter s sh p) = lasting s := by
  unfold askShutter
  dsimp only
  split
  · simp
  · simp
  · simp
  · simp
  · split <;> simp
  · split <;> simp
@[simp] theorem lasting_askAll (s : State) (p : ShutterPos) : lasting (askAll s p) = lasting s :=
  lasting_foldl _ (fun t sh => lasting_askShutter t sh p) _ _
@[simp] theorem lasting_sendHeldOpen (s : State) (sh : ShutterId) :
    lasting (sendHeldOpen s sh) = lasting s := by
  unfold sendHeldOpen
  split <;> simp
@[simp] theorem lasting_powerOn (s : State) : lasting (powerOn s) = lasting s :=
  lasting_foldl _ lasting_sendHeldOpen _ _
@[simp] theorem lasting_beginTransfer (s : State) (n : Nat) (k : StepKind) (src dst : Pos) :
    lasting (beginTransfer s n k src dst) = lasting s := by
  unfold beginTransfer
  dsimp only
  split <;> rfl

/-! ### Step starts -/

@[simp] theorem lasting_skipEntries (k : Nat) (s : State) (n : Nat) :
    lasting (skipEntries k s n) = lasting s := by
  induction k generalizing s with
  | zero => rfl
  | succ k ih =>
    unfold skipEntries
    split
    · rfl
    · split
      · rw [ih, lasting_modCtx]
      · rfl
@[simp] theorem lasting_endRestore (s : State) (n : Nat) : lasting (endRestore s n) = lasting s := by
  simp [endRestore]
@[simp] theorem lasting_restoreOver (s : State) (n : Nat) :
    lasting (restoreOver s n) = lasting s := by
  unfold restoreOver
  split <;> simp
@[simp] theorem lasting_aim (k : Nat) (s : State) (n : Nat) : lasting (aim k s n).1 = lasting s := by
  induction k generalizing s with
  | zero => rfl
  | succ k ih =>
    unfold aim
    split
    · rfl
    · split
      · dsimp only
        split
        · split <;> simp
        · rw [ih, lasting_modCtx]
          split <;> simp
      · split
        · split
          · rw [ih, lasting_modCtx]
          · rfl
        · rw [ih, lasting_modCtx]
@[simp] theorem lasting_spillOrWait (s : State) (n : Nat) (b : BinId) :
    lasting (spillOrWait s n b) = lasting s := by
  unfold spillOrWait
  split <;> simp
@[simp] theorem lasting_intoSlot (s : State) (n : Nat) (k : StepKind) (src : Pos) (sd : Side) :
    lasting (intoSlot s n k src sd) = lasting s := by
  unfold intoSlot
  split <;> simp
@[simp] theorem lasting_digStart (s : State) (n c : Nat) : lasting (digStart s n c) = lasting s := by
  unfold digStart
  split
  · rfl
  · split
    · simp
    · split <;> simp
@[simp] theorem lasting_deliveryStart (s : State) (n c : Nat) :
    lasting (deliveryStart s n c) = lasting s := by
  unfold deliveryStart
  dsimp only
  split
  · split <;> simp
  · simp
@[simp] theorem lasting_targetStep (s : State) (n c h : Nat) :
    lasting (targetStep s n c h) = lasting s := by
  unfold targetStep
  dsimp only
  split
  · simp
  · split <;> simp
@[simp] theorem lasting_aimStart (s : State) (n : Nat) : lasting (aimStart s n) = lasting s := by
  unfold aimStart
  have h := lasting_aim 9 s n
  split
  · rename_i t e
    rw [e] at h
    simpa using h
  · rename_i t c k e
    rw [e] at h
    split <;> simpa using h
@[simp] theorem lasting_retrievalStart (s : State) (n : Nat) :
    lasting (retrievalStart s n) = lasting s := by
  unfold retrievalStart
  dsimp only
  split
  · split <;> simp
  · simp
@[simp] theorem lasting_putAwayStart (s : State) (n : Nat) (b : BinId) (d : Nat) (src : Pos) :
    lasting (putAwayStart s n b d src) = lasting s := by
  unfold putAwayStart
  split
  · simp
  · split <;> simp
@[simp] theorem lasting_stowStart (s : State) (n : Nat) : lasting (stowStart s n) = lasting s := by
  unfold stowStart
  split
  · simp
  · split <;> simp
@[simp] theorem lasting_spillStart (s : State) (n : Nat) : lasting (spillStart s n) = lasting s := by
  unfold spillStart
  split
  · split
    · simp
    · split <;> simp
  · simp
@[simp] theorem lasting_reclaimStart (s : State) (n : Nat) :
    lasting (reclaimStart s n) = lasting s := by
  unfold reclaimStart
  split
  · split
    · simp
    · split <;> simp
  · simp
@[simp] theorem lasting_stepStart (s : State) (n : Nat) : lasting (stepStart s n) = lasting s := by
  unfold stepStart
  split <;> simp
@[simp] theorem lasting_activate (s : State) (n : Nat) : lasting (activate s n) = lasting s := rfl
@[simp] theorem lasting_runSchedule (k : Nat) (s : State) :
    lasting (runSchedule k s) = lasting s := by
  induction k generalizing s with
  | zero => exact lasting_flushWoken s
  | succ k ih =>
    unfold runSchedule
    dsimp only
    split
    · split
      · simp
      · rw [ih]; simp
    · simp

/-! ### The fire controller and the event's end -/

@[simp] theorem lasting_setFireCause (s : State) (b : Bool) (sd : Side) :
    lasting (setFireCause s b sd) = lasting s := by
  rw [setFireCause, lasting_changeOverlay, lasting_modView]
@[simp] theorem lasting_guardSide (s : State) (sd : Side) : lasting (guardSide s sd) = lasting s := by
  unfold guardSide
  dsimp only
  split
  · split
    · split <;> simp
    · split <;> simp
  · split
    · split
      · split <;> simp
      · split <;> simp
    · rfl
@[simp] theorem lasting_guardSides (s : State) : lasting (guardSides s) = lasting s :=
  lasting_foldl _ lasting_guardSide _ _
@[simp] theorem lasting_reopenSide (s : State) (sd : Side) : lasting (reopenSide s sd) = lasting s := by
  unfold reopenSide
  split <;> simp
@[simp] theorem lasting_reopenSides (s : State) (l : List Side) :
    lasting (l.foldl reopenSide s) = lasting s := lasting_foldl _ lasting_reopenSide _ _
@[simp] theorem lasting_reopenLeft (was s : State) : lasting (reopenLeft was s) = lasting s :=
  lasting_foldl _ (fun t sd => by split <;> simp) _ _
@[simp] theorem lasting_pauseHeld (s : State) : lasting (pauseHeld s) = lasting s := by
  unfold pauseHeld
  split <;> simp
@[simp] theorem lasting_enterGuard (s : State) : lasting (enterGuard s) = lasting s := by
  rw [enterGuard, lasting_guardSides, lasting_foldl _ lasting_withdrawClaim]
  simp
@[simp] theorem lasting_leaveGuard (s : State) : lasting (leaveGuard s) = lasting s := by
  simp [leaveGuard]
@[simp] theorem lasting_enterRun (s : State) : lasting (enterRun s) = lasting s := by
  unfold enterRun
  split <;> simp
@[simp] theorem lasting_markFault (s : State) : lasting (markFault s) = lasting s := rfl
@[simp] theorem lasting_safeEntry (s : State) : lasting (safeEntry s) = lasting s := by
  unfold safeEntry
  split <;> rfl
@[simp] theorem lasting_closeShutters (s : State) : lasting (closeShutters s) = lasting s := by
  rw [closeShutters, lasting_safeEntry, lasting_askAll]
  rfl
@[simp] theorem lasting_shutdownSync (s : State) : lasting (shutdownSync s) = lasting s := by
  unfold shutdownSync
  split
  · split
    · simp
    · split <;> simp
  · rfl
@[simp] theorem lasting_commandPutAway (s : State) : lasting (commandPutAway s) = lasting s := by
  unfold commandPutAway
  split
  · rfl
  · split
    · split <;> simp
    · rfl

theorem resumeSync_elsewhere (s : State) (h : s.fire.node ≠ .resuming) : resumeSync s = s := by
  simp [resumeSync, h]

@[simp] theorem moveOverflow_fire (s : State) : (moveOverflow s).fire = s.fire := by
  unfold moveOverflow
  split
  · rfl
  · split <;> rfl

theorem shutdownSync_resuming (s : State) (h : (shutdownSync s).fire.node = .resuming) :
    s.fire.node = .resuming := by
  unfold shutdownSync at h
  split at h
  · exfalso
    rename_i hs
    have hsafe : ∀ t : State, t.fire.node = .shutdown → (safeEntry t).fire.node ≠ .resuming := by
      intro t ht
      unfold safeEntry
      split
      · simp
      · simp [ht]
    have hask : ∀ (t : State) (p : ShutterPos), (askAll t p).fire = t.fire := by
      intro t p
      have h1 : ∀ (u : State) (sh : ShutterId), (askShutter u sh p).fire = u.fire := by
        intro u sh
        have hset : ∀ (u : State) (v : Shutter), (setShutter u sh v).fire = u.fire := by
          intro u v; cases sh <;> rfl
        unfold askShutter
        dsimp only
        split
        · rw [hset]
        · rw [hset]
        · rw [hset]
        · rw [hset]
        · split
          · exact hset _ _
          · rw [hset]
        · split
          · exact hset _ _
          · rw [hset]
      simp [askAll, shutterIds, h1]
    have hclose : ∀ t : State, t.fire.node = .shutdown → (closeShutters t).fire.node ≠ .resuming := by
      intro t ht
      unfold closeShutters
      apply hsafe
      rw [hask]
      simpa using ht
    split at h
    · exact hsafe s hs h
    · split at h
      · simp [parkPlain, startTimer, send, hs] at h
      · exact hclose s hs h
      · exact hclose _ (by simpa [markFault] using hs) h
      · rw [hs] at h; cases h
      · rw [hs] at h; cases h
      · rw [hs] at h; cases h
      · rw [hs] at h; cases h
  · exact h

/-- Outside RESUMING the end of an event leaves `lasting` alone. -/
theorem lasting_settle (s : State) (h : s.fire.node ≠ .resuming) : lasting (settle s) = lasting s := by
  have hr : (shutdownSync (moveOverflow s)).fire.node ≠ .resuming := by
    intro e
    have := shutdownSync_resuming _ e
    rw [moveOverflow_fire] at this
    exact h this
  simp only [settle]
  rw [lasting_foldl _ lasting_resendLoaded, lasting_runSchedule, lasting_commandPutAway,
    lasting_guardSides, resumeSync_elsewhere _ hr, lasting_shutdownSync, lasting_moveOverflow]

/-! ### RESUMING's end -/

theorem kept_of_lasting_eq (s t : State) (h : lasting t = lasting s) : kept t = kept s :=
  kept_of_lasting h

theorem kept_foldl {α : Type} (f : State → α → State) (h : ∀ s a, kept (f s a) = kept s)
    (l : List α) (s : State) : kept (l.foldl f s) = kept s := by
  induction l generalizing s with
  | nil => rfl
  | cons a as ih => rw [List.foldl_cons, ih, h]

theorem kept_enterJoining (s : State) : kept (enterJoining s) = kept s := by
  unfold enterJoining postAnnounce
  split <;> rfl

theorem kept_emptyImage (s : State) : kept (emptyImage s) = kept s := by
  unfold emptyImage
  split
  · rfl
  · change kept (sides.foldl freeView _) = _
    rw [kept_foldl _ (fun t sd => kept_of_lasting (lasting_freeView t sd))]
    rfl

theorem kept_leaveHoming (s : State) : kept (leaveHoming s) = kept s := by
  unfold leaveHoming
  split
  · exact kept_enterJoining s
  · exact kept_emptyImage s

theorem kept_resumeSync (s : State) : kept (resumeSync s) = kept s := by
  unfold resumeSync
  split
  · unfold endResuming
    dsimp only
    split
    · exact kept_of_lasting (lasting_enterRun _)
    · exact kept_of_lasting (lasting_enterRun _)
    · rfl
    · exact kept_enterJoining _
    · exact kept_leaveHoming _
  · rfl

/-- The end of an event leaves `kept` alone in every node state. -/
theorem kept_settle (s : State) : kept (settle s) = kept s := by
  simp only [settle]
  rw [kept_of_lasting (lasting_foldl _ lasting_resendLoaded _ _),
    kept_of_lasting (lasting_runSchedule _ _), kept_of_lasting (lasting_commandPutAway _),
    kept_of_lasting (lasting_guardSides _), kept_resumeSync, kept_of_lasting (lasting_shutdownSync _),
    kept_of_lasting (lasting_moveOverflow _)]

@[simp] theorem lasting_postStateFrame (s : State) (r : StateReport) :
    lasting (postStateFrame s r) = lasting s := by
  unfold postStateFrame
  split <;> rfl
@[simp] theorem lasting_reportChange (w s : State) : lasting (reportChange w s) = lasting s := by
  unfold reportChange
  split <;> simp [postState]
@[simp] theorem lasting_releaseHeld (s : State) : lasting (releaseHeld s) = lasting s := by
  unfold releaseHeld
  split
  · rfl
  · split
    · simp
    · split <;> simp
@[simp] theorem lasting_commit (w s : State) : lasting (commit w s) = lasting s := by
  unfold commit
  dsimp only
  split
  · simp
  · rfl
@[simp] theorem lasting_endEvent (w s : State) : lasting (endEvent w s) = lasting s := by
  simp [endEvent]

/-- A full event leaves `kept` as its body leaves it. -/
theorem kept_fullEvent (body : State → State) (s : State) :
    kept (fullEvent body s) = kept (body (clearOut s)) := by
  rw [fullEvent, kept_of_lasting (lasting_endEvent _ _), kept_settle]

/-- A full event whose body does not leave the node RESUMING leaves `lasting` as its body leaves it. -/
theorem lasting_fullEvent (body : State → State) (s : State)
    (h : (body (clearOut s)).fire.node ≠ .resuming) :
    lasting (fullEvent body s) = lasting (body (clearOut s)) := by
  rw [fullEvent, lasting_endEvent, lasting_settle _ h]

/-- A quiet event leaves `lasting` as its body leaves it. -/
theorem lasting_quietEvent (body : State → State) (s : State) :
    lasting (quietEvent body s) = lasting (body (clearOut s)) := by
  rw [quietEvent, lasting_endEvent]

end Sys2Proof.Machine
end

