-- ==== Sys2Proof/Laws/Events.lean ====
section
/-! SUPPORT. What the frame of an event does: an end with nothing to settle, the receive side, an answer
posted, and one store update per event. -/

namespace Sys2Proof.Machine

open Sys2Proof

/-! ### Ends with nothing to settle -/

theorem moveOverflow_none (s : State) (h : s.inv.overflow = none) : moveOverflow s = s := by
  simp [moveOverflow, h]

theorem shutdownSync_elsewhere (s : State) (h : s.fire.node ≠ .shutdown) : shutdownSync s = s := by
  simp [shutdownSync, h]

theorem guardSide_run (s : State) (sd : Side) (h : s.fire.node = .run)
    (hv : (view s sd).fireClosed = false) : guardSide s sd = s := by
  simp [guardSide, h, hv]

theorem commandPutAway_busy (s : State) (h : s.motion.gantry ≠ .idle) : commandPutAway s = s := by
  unfold commandPutAway
  split <;> simp [h]

theorem toTail_motion (s : State) (n : Nat) : (toTail s n).motion = s.motion := rfl

theorem toTail_slots (s : State) (n : Nat) : (toTail s n).slots = s.slots := rfl

theorem foldl_toTail_motion (l : List Nat) (s : State) : (l.foldl toTail s).motion = s.motion := by
  induction l generalizing s with
  | nil => rfl
  | cons a as ih => rw [List.foldl_cons, ih, toTail_motion]

theorem foldl_toTail_slots (l : List Nat) (s : State) : (l.foldl toTail s).slots = s.slots := by
  induction l generalizing s with
  | nil => rfl
  | cons a as ih => rw [List.foldl_cons, ih, toTail_slots]

@[simp] theorem flushWoken_motion (s : State) : (flushWoken s).motion = s.motion :=
  foldl_toTail_motion _ _

@[simp] theorem flushWoken_slots (s : State) : (flushWoken s).slots = s.slots :=
  foldl_toTail_slots _ _

@[simp] theorem view_flushWoken (s : State) (sd : Side) : view (flushWoken s) sd = view s sd := by
  cases sd <;> simp [view]

/-- An event that has woken no context readies none. -/
theorem flushWoken_none (s : State) (h : s.sched.woken = []) : flushWoken s = s := by
  have hw : ctxNumbers.filter (isWoken s) = [] := by simp [isWoken, h]
  have hs : s.withSched { s.sched with woken := [] } = s := by
    obtain ⟨b, i, st, ⟨c, r, n, d, e, no, se, w⟩, x⟩ := s
    simp_all [State.withSched]
  simp [flushWoken, hw, hs, byStamp]

/-- While the gantry is busy the scheduler chooses nothing, and the event's wake-ups are made. -/
theorem runSchedule_busy (k : Nat) (s : State) (h : s.motion.gantry ≠ .idle) :
    runSchedule k s = flushWoken s := by
  cases k <;> simp [runSchedule, gantryFree, h]

theorem resendLoaded_notOwed (s : State) (sd : Side) (h : (view s sd).resendOwed = false) :
    resendLoaded s sd = s := by
  simp [resendLoaded, h]

/-- In a state with nothing left over, an event's end only makes the event's wake-ups. -/
theorem settle_calm (s : State) (h : Calm s) : settle s = flushWoken s := by
  obtain ⟨hr, hg, ho, -, hv⟩ := h
  have hw := hv .west (by simp [sides])
  have he := hv .east (by simp [sides])
  have hs : guardSides s = s := by
    simp [guardSides, sides, guardSide_run _ _ hr hw.1, guardSide_run _ _ hr he.1]
  have hn : shutdownSync s = s := shutdownSync_elsewhere s (by simp [hr])
  have hq : resumeSync s = s := by simp [resumeSync, hr]
  simp [settle, moveOverflow_none _ ho, hn, hq, hs, commandPutAway_busy _ hg, runSchedule_busy _ _ hg,
    sides, resendLoaded_notOwed, hw.2, he.2]

/-- A full event whose body leaves nothing to settle and wakes no context is a quiet one. -/
theorem fullEvent_calm (body : State → State) (s : State) (h : Calm (body (clearOut s)))
    (hw : (body (clearOut s)).sched.woken = []) : fullEvent body s = quietEvent body s := by
  simp [fullEvent, quietEvent, settle_calm _ h, flushWoken_none _ hw]

/-- An event starts with no context woken. -/
theorem clearOut_woken (s : State) : (clearOut s).sched.woken = [] := rfl

/-- Forgetting the commands of the event before leaves a state as calm as it was. -/
theorem calm_clearOut (s : State) : Calm (clearOut s) ↔ Calm s := by
  constructor <;> exact fun h => h

/-! ### One store update per event -/

/-- An event that leaves the picture alone writes nothing, and lets a held transfer go. -/
theorem commit_same (w s : State) (h : s.inv = w.inv) :
    commit w s = releaseHeld (s.withSched { s.sched with stepEnded := none }) := by
  simp [commit, h]

/-- An event that changes the picture writes it as one update, with the step it ended. -/
theorem commit_changed (w s : State) (h : s.inv ≠ w.inv) :
    commit w s = (s.withSched { s.sched with stepEnded := none }).withStore
      { s.store with queue := s.store.queue ++ [storeUpdate w s] } := by
  simp [commit, h]

theorem releaseHeld_none (s : State) (h : s.motion.held = none) : releaseHeld s = s := by
  simp [releaseHeld, h]

/-- A quiet event that changes neither the picture nor a cause of STATE, with no transfer held, is its body
with the commands and the step end of the event before forgotten. -/
theorem quietEvent_plain (body : State → State) (s : State)
    (hi : (body (clearOut s)).inv = s.inv)
    (hc : stateCause (clearOut s) = stateCause (body (clearOut s)))
    (hh : (body (clearOut s)).motion.held = none) :
    quietEvent body s =
      (body (clearOut s)).withSched { (body (clearOut s)).sched with stepEnded := none } := by
  have h1 : reportChange (clearOut s) (body (clearOut s)) = body (clearOut s) := by
    simp [reportChange, hc]
  have h2 : (body (clearOut s)).inv = (clearOut s).inv := hi
  rw [quietEvent, endEvent, h1, commit_same _ _ h2, releaseHeld_none]
  exact hh

/-! ### Receiving -/

/-- Hearing a station that lifts no overlay changes its neighbour entry and nothing else. -/
theorem hear_eq (s : State) (st : Station) (h : hearingLifts s st = false) :
    hear s st = match sideOfStation s st with
      | none => s
      | some sd => modNbr s sd heardEntry := by
  unfold hear
  cases hs : sideOfStation s st with
  | none => rfl
  | some sd =>
    have ha : absent s sd = false := by simpa [hearingLifts, hs] using h
    have hb : ∀ t : State, t = modNbr s sd heardEntry →
        sideClosed t sd = sideClosed s sd := by
      rintro t rfl
      cases sd <;>
        (simp_all [sideClosed, absent, notBay, heardEntry, modNbr, setNbr, nbr, view]; try congr)
    simp only [changeOverlay, hb _ rfl]
    cases sideClosed s sd <;> simp

/-- What hearing leaves of the neighbour table. -/
theorem nbr_hear (s : State) (st : Station) (sd : Side) (h : hearingLifts s st = false) :
    nbr (hear s st) sd = heardNbr s st sd := by
  rw [hear_eq s st h]
  unfold heardNbr
  cases hs : sideOfStation s st with
  | none => simp
  | some e => cases e <;> cases sd <;> simp [heardEntry, modNbr, setNbr, nbr]

/-- What hearing leaves alone. -/
theorem hear_same (s : State) (st : Station) (h : hearingLifts s st = false) :
    ∃ w e, hear s st = s.withBus { s.bus with nbWest := w, nbEast := e } := by
  rw [hear_eq s st h]
  cases sideOfStation s st with
  | none => exact ⟨s.bus.nbWest, s.bus.nbEast, rfl⟩
  | some sd => cases sd <;> exact ⟨_, _, rfl⟩

/-- A passed frame reaches its owner on the state that has heard its sender and counted it. -/
theorem takeFrame_passes (h : Header) (always : Bool) (body : State → State) (s : State)
    (hp : Passes s h) :
    takeFrame h always body s = body (countReceived (hear s h.src)) := by
  obtain ⟨ha, hp, -⟩ := hp
  simp [takeFrame, ha, hp]

/-! ### Answers -/

/-- With room in the reply list, a refusal joins it and nothing else changes but the posting number. -/
theorem refuseAt_room (s : State) (level : Nat) (h : Header) (r : RefuseReason)
    (hp : posts s = true) (hr : s.bus.replies.length < 8) :
    refuseAt s level h r = s.withBus
      { s.bus with
        replies := s.bus.replies ++ [posted s.bus.seq (refusal s level h r)]
        seq := s.bus.seq + 1 } := by
  simp [refuseAt, respond, replyRoom, hr, postReply, hp, bumpSeq, State.withBus, pframe, posted, refusal]

/-- With the reply list full, a request that would post an answer is only counted as dropped. -/
theorem respond_full (s : State) (act : State → State) (answer : State → Frame)
    (h : 8 ≤ s.bus.replies.length) : respond s act answer = countDropped s := by
  have : ¬ s.bus.replies.length < 8 := by omega
  simp [respond, replyRoom, this]

/-! ### Updates that complete -/

/-- A completing update changes the store and, of the bus, the posting numbers and the order of the answers,
and nothing else (R20). -/
theorem storeComplete_eq (s : State) (u : StoreUpdate) (us : List StoreUpdate)
    (h : s.store.queue = u :: us) :
    ∃ turns replies, storeComplete s =
      (s.withStore { image := u.image, queue := us }).withBus
        { s.bus with seq := s.bus.seq + 1, turns, replies } := by
  rw [storeComplete, h]
  exact ⟨_, _, rfl⟩

/-- With no update being written nothing waits to be posted. -/
theorem unposted_none (s : State) (f : PFrame) (h : s.store.queue = []) : unposted s f = false := by
  simp [unposted, h, anyUpdate]

/-- A test that holds of an update being written, whatever picture it found, holds of the queue. -/
theorem anyUpdate_of_mem (p : Image → StoreUpdate → Bool) (l : List StoreUpdate) (u : StoreUpdate)
    (hu : u ∈ l) (hp : ∀ before, p before u = true) (before : Image) : anyUpdate p before l = true := by
  induction l generalizing before with
  | nil => cases hu
  | cons a as ih =>
    rcases List.mem_cons.mp hu with rfl | h
    · simp [anyUpdate, hp]
    · simp [anyUpdate, ih h]

/-- A test that holds of no update, whatever picture it found, does not hold of the queue. -/
theorem anyUpdate_none (p : Image → StoreUpdate → Bool) (l : List StoreUpdate)
    (hp : ∀ u ∈ l, ∀ before, p before u = false) (before : Image) : anyUpdate p before l = false := by
  induction l generalizing before with
  | nil => rfl
  | cons a as ih =>
    simp [anyUpdate, hp a (by simp), ih (fun u hu => hp u (by simp [hu]))]

/-- The order of posting is a strict one: no frame was posted before itself. -/
theorem earlier_irrefl (s : State) (f : PFrame) : earlier s f f = false := by simp [earlier]

/-! ### The transmitter's choice -/

theorem wordBeats_irrefl (a : ArbWord) : wordBeats a a = false := by simp [wordBeats]

theorem wordBeats_trans (a b c : ArbWord) (h1 : wordBeats b a = false) (h2 : wordBeats c b = false) :
    wordBeats c a = false := by
  simp only [wordBeats, decide_eq_false_iff_not, not_or, not_and_or, Nat.not_lt] at *
  omega

theorem bestOf_mem (s : State) (l : List (TxKey × PFrame)) (p : TxKey × PFrame)
    (h : bestOf s l = some p) :
    p ∈ l := by
  induction l generalizing p with
  | nil => simp [bestOf] at h
  | cons a as ih =>
    simp only [bestOf] at h
    split at h
    · simp_all
    · rename_i q hq
      split at h
      · cases h
        exact List.mem_cons_of_mem _ (ih _ hq)
      · cases h
        exact List.mem_cons_self

end Sys2Proof.Machine
end

