-- ==== Sys2Proof/Laws/Records.lean ====
section
/-! SUPPORT. The list of bin records: what reading gives after writing, and that every operation keeps the
canonical form, bin ids strictly rising. -/

namespace Sys2Proof.Machine

open Sys2Proof

/-! ### Reading after writing -/

theorem lookup_insert_self (r : BinRecord) (l : List BinRecord) :
    lookup r.body.bin (insert r l) = some r := by
  induction l with
  | nil => simp [insert, lookup]
  | cons q qs ih =>
    unfold insert
    split
    · simp [lookup]
    · split
      · simp [lookup]
      · rename_i h1 h2
        simp [lookup, ih]
        intro h
        exact absurd h.symm h2

theorem lookup_insert_other (r : BinRecord) (b : BinId) (l : List BinRecord)
    (h : b ≠ r.body.bin) : lookup b (insert r l) = lookup b l := by
  induction l with
  | nil => simp [insert, lookup, Ne.symm h]
  | cons q qs ih =>
    unfold insert
    split
    · simp [lookup, Ne.symm h]
    · split
      · rename_i h1 h2
        simp only [lookup]
        rw [if_neg (Ne.symm h), if_neg (by rw [← h2]; exact Ne.symm h)]
      · simp [lookup, ih]

theorem lookup_bin (b : BinId) (l : List BinRecord) (r : BinRecord) (h : lookup b l = some r) :
    r.body.bin = b := by
  induction l with
  | nil => simp [lookup] at h
  | cons q qs ih =>
    simp only [lookup] at h
    split at h
    · cases h; assumption
    · exact ih h

theorem lookup_erase_self (b : BinId) (l : List BinRecord) : lookup b (erase b l) = none := by
  induction l with
  | nil => rfl
  | cons q qs ih =>
    by_cases hq : q.body.bin = b
    · simp [erase, hq] at ih ⊢; exact ih
    · simp [erase, hq, lookup] at ih ⊢; exact ih

theorem lookup_erase_other (b c : BinId) (l : List BinRecord) (h : c ≠ b) :
    lookup c (erase b l) = lookup c l := by
  induction l with
  | nil => rfl
  | cons q qs ih =>
    by_cases hq : q.body.bin = b
    · simp [erase, hq, lookup, Ne.symm h] at ih ⊢; exact ih
    · simp only [erase, List.filter, hq, ne_eq, not_false_eq_true, decide_true, lookup] at ih ⊢
      rw [ih]

/-- A change of records that keeps their bins reads back through the change. -/
theorem lookup_map (f : BinRecord → BinRecord) (hf : ∀ r, (f r).body.bin = r.body.bin) (b : BinId)
    (l : List BinRecord) : lookup b (l.map f) = (lookup b l).map f := by
  induction l with
  | nil => rfl
  | cons q qs ih =>
    simp only [List.map, lookup, hf]
    split
    · rfl
    · exact ih

theorem recordOf_modRecord (s : State) (b c : BinId) (f : BinRecord → BinRecord)
    (hf : ∀ r, (f r).body.bin = r.body.bin) :
    recordOf (modRecord s b f) c = if c = b then (recordOf s c).map f else recordOf s c := by
  have key : ∀ l : List BinRecord,
      lookup c (l.map (fun r => if r.body.bin = b then f r else r)) =
        if c = b then (lookup c l).map f else lookup c l := by
    intro l
    rw [lookup_map _ (by intro r; split <;> simp [hf])]
    cases hl : lookup c l with
    | none => simp
    | some r =>
      have := lookup_bin c l r hl
      by_cases h : c = b
      · simp [h, this]
      · simp [h, this]
  exact key s.inv.records

/-! ### The canonical form -/

theorem mem_insert (r q : BinRecord) (l : List BinRecord) (h : q ∈ insert r l) :
    q = r ∨ q ∈ l := by
  induction l with
  | nil => simpa [insert] using h
  | cons a as ih =>
    unfold insert at h
    split at h
    · simpa using h
    · split at h
      · rcases List.mem_cons.mp h with h | h
        · exact .inl h
        · exact .inr (List.mem_cons_of_mem _ h)
      · rcases List.mem_cons.mp h with h | h
        · exact .inr (by simp [h])
        · rcases ih h with h | h
          · exact .inl h
          · exact .inr (List.mem_cons_of_mem _ h)

theorem sortedRecords_insert (r : BinRecord) (l : List BinRecord) (h : sortedRecords l) :
    sortedRecords (insert r l) := by
  induction l with
  | nil => simp [insert, sortedRecords]
  | cons a as ih =>
    have ha := List.pairwise_cons.mp h
    unfold insert
    split
    · rename_i hlt
      refine List.pairwise_cons.mpr ⟨?_, h⟩
      intro q hq
      rcases List.mem_cons.mp hq with hq | hq
      · rw [hq]; exact hlt
      · exact Nat.lt_trans hlt (ha.1 q hq)
    · split
      · rename_i hlt heq
        refine List.pairwise_cons.mpr ⟨?_, ha.2⟩
        intro q hq
        rw [heq]
        exact ha.1 q hq
      · rename_i hlt heq
        refine List.pairwise_cons.mpr ⟨?_, ih ha.2⟩
        intro q hq
        rcases mem_insert r q as hq with hq | hq
        · rw [hq]; exact Nat.lt_of_le_of_ne (Nat.le_of_not_lt hlt) (Ne.symm heq)
        · exact ha.1 q hq

theorem sortedRecords_filter (p : BinRecord → Bool) (l : List BinRecord) (h : sortedRecords l) :
    sortedRecords (l.filter p) := List.Pairwise.filter p h

theorem sortedRecords_erase (b : BinId) (l : List BinRecord) (h : sortedRecords l) :
    sortedRecords (erase b l) := sortedRecords_filter _ l h

theorem sortedRecords_map (f : BinRecord → BinRecord) (hf : ∀ r, (f r).body.bin = r.body.bin)
    (l : List BinRecord) (h : sortedRecords l) : sortedRecords (l.map f) := by
  unfold sortedRecords
  rw [List.pairwise_map]
  simpa [hf] using h

theorem putRecord_sorted (s : State) (r : BinRecord) (h : sortedRecords s.inv.records) :
    sortedRecords (putRecord s r).inv.records := sortedRecords_insert r _ h

theorem dropRecord_sorted (s : State) (b : BinId) (h : sortedRecords s.inv.records) :
    sortedRecords (dropRecord s b).inv.records := sortedRecords_erase b _ h

theorem modRecord_sorted (s : State) (b : BinId) (f : BinRecord → BinRecord)
    (hf : ∀ r, (f r).body.bin = r.body.bin) (h : sortedRecords s.inv.records) :
    sortedRecords (modRecord s b f).inv.records :=
  sortedRecords_map _ (by intro r; split <;> simp [hf]) _ h

theorem setResidence_sorted (s : State) (b : BinId) (p : Residence)
    (h : sortedRecords s.inv.records) : sortedRecords (setResidence s b p).inv.records :=
  modRecord_sorted s b _ (fun _ => rfl) h

end Sys2Proof.Machine
end

