-- ==== Sys2Proof/Tests/Slice0.lean ====
section
/-! SUPPORT. Tests: the checks of `Instr.wf`, a state and operands for the hypotheses of every statement,
and single steps whose expected results come from the manual's rules. -/

namespace Sys2Proof.Tests

open Sys2Proof Sys2Proof.Machine

/-! ### A node at work -/

def itemIn : ItemSlot := { state := .inBin, item := 500 }

def itemOut : ItemSlot := { state := .lentOut, item := 600 }

def itemClash : ItemSlot := { state := .clash, item := 700 }

def itemEmpty : ItemSlot := { state := .empty, item := 0 }

/-- Eight item slots. -/
def someItems : List ItemSlot := [itemIn, itemOut, itemClash] ++ List.replicate 5 itemEmpty

def rec (b d : Nat) (p : Residence) : BinRecord :=
  { body := { bin := b, demand := d, suspectTag := false, slots := someItems }, residence := p }

/-- A job at the gantry: it digs bin 11 off bin 10 in column 0. -/
def digging : Ctx :=
  { Ctx.blank with
    state := .active, level := 5, origin := 3, tag := 77, targets := [{ bin := 10, status := .waiting }],
    claimed := 1, lock := some 0, digRemaining := 1, step := some { kind := .dig, bin := none } }

def digXfer : Xfer :=
  { src := .column 0, dst := .column 2, retarget := none, owner := some 0, abandonSent := false,
    setDown := false }

def openShutter : Shutter := { state := .opened, timer := none, asked := some .opened, heldOpen := false }

def shutShutter : Shutter := { state := .closed, timer := none, asked := some .closed, heldOpen := false }

/-- A neighbour bay that is running with 20 free positions. -/
def running (st : Station) : Neighbour :=
  { station := some st, role := .bay, zone := some 5, present := true, lost := true, free := some 20,
    reserve := some 8, nodeState := some .run, sinceHeard := 1, phase := .within }

def entry14 : AwayEntry := { bin := 14, winner := some 5 }

def busyImage : Image :=
  { hdrW := 4, hdrD := 3, hdrC := 8, valid := true, fireStop := false
    columns := [{ bins := [10, 11], suspect := false }, { bins := [12], suspect := false }] ++
      List.replicate 62 Column.empty
    records := [rec 10 0 (.resident 0 0), rec 11 2 (.resident 0 1), rec 12 0 (.resident 1 0),
      rec 13 7 .away, rec 14 0 (.handing 5)]
    away := [{ bin := 13, winner := none }, entry14]
    overflow := none }

/-- Station 9 in RUN, its gantry on the way to column 0 for context 0. -/
def busy : State :=
  { State.reset with
    inv := busyImage
    store := { image := busyImage, queue := [] }
    sched := { Sched.blank with ctxs := digging :: List.replicate 15 Ctx.blank, nextStamp := 1 }
    motion :=
      { State.reset.motion with
        gantry := .movingEmpty, xfer := some digXfer, shWest := openShutter, shEast := openShutter,
        shChute := openShutter, out := [] }
    fire := { State.reset.fire with node := .run }
    bus :=
      { State.reset.bus with
        state := [], nbWest := running 8, nbEast := running 10 }
    setup :=
      { Setup.default with
        loanFetch := 5, staffFetch := 6, returnFetch := 4, verify := 3, stow := 2, spill := 7,
        types := [.heat, .smoke, .unfitted, .heat] }
    startup := { State.reset.startup with reconciled := true } }

def inNode (n : NodeState) (s : State) : State := s.withFire { s.fire with node := n }

def atGantry (g : GantryState) (x : Option Xfer) (s : State) : State :=
  s.withMotion { s.motion with gantry := g, xfer := x }

def withChute (c : ChuteState) (s : State) : State := s.withMotion { s.motion with chute := c }

/-- The node with eight answers waiting. -/
def fullReplies (s : State) : State :=
  s.withBus { s.bus with
    replies := List.replicate 8
      (posted 0 { level := 2, rank := 0, src := 9, dst := 3, tag := 1, payload := .refuse .fire }) }

/-- From station 3 to all stations. -/
def toAll : Header := { src := 3, dst := 0, tag := 77 }

/-- From station 3 to the node. -/
def toNode : Header := { src := 3, dst := 9, tag := 77 }

/-- From the west neighbour to the node. -/
def fromWest : Header := { src := 8, dst := 9, tag := 6 }

/-- From the east neighbour to the node. -/
def fromEast : Header := { src := 10, dst := 9, tag := 6 }

def tagged (t : Tag) (h : Header) : Header := { h with tag := t }

/-- A frame between two other stations, heard from the west neighbour. -/
def passing : Header := { src := 8, dst := 12, tag := 0 }

def from5 : Header := { src := 5, dst := 9, tag := 0 }

def from6 : Header := { src := 6, dst := 9, tag := 0 }

def zone15 : Zone := 15

def zone0 : Zone := 0

def announce8 : AnnounceFrame :=
  { role := 1, station := 8, zone := 15, w := 4, d := 3, c := 8, free := 96 }

def state10 : StateFrame := { nodeState := 6, free := 3, reserve := 8, zone := 0 }

def update0 : StoreUpdate :=
  { start := 0, stop := 4, image := busyImage, stepCtx := some 0, det := false, nbrs := false,
    counters := false, report := false, ctxs := [0] }

def bid8 : OfferRef := { holder := 8, tag := 6, bin := 40 }

/-- A bin record as a frame carries it. -/
def raw (b : BinId) : RawRecord :=
  { bin := b, demand := 3, marks := 0,
    slots := { state := 1, item := 900 } :: List.replicate 7 { state := 0, item := 0 } }

def rawSetup : SetupFrame :=
  { loanFetch := 5, staffFetch := 6, returnFetch := 4, verify := 3, stow := 2, spill := 7, reserve := 8,
    statePeriod := 2, claimWindow := 50, bidWindow := 60, handoverWindow := 200, motionTimeout := 30,
    arrivalWindow := 300, decayPeriod := 0, window := 12
    heat := { t1 := 300, t2 := 450, t3 := 600, h := 30 }
    smoke := { t1 := 200, t2 := 350, t3 := 500, h := 40 }
    types := [1, 2, 0, 9] }

/-- A SETUP whose HEAT thresholds do not ascend. -/
def badSetup : SetupFrame := { rawSetup with heat := { t1 := 5, t2 := 5, t3 := 6, h := 1 } }

/-- Node in SAFE after a fire: the mark set, power off, every shutter asked CLOSE. -/
def safe : State :=
  let s := inNode .safe (atGantry .off none busy)
  (s.withInv { s.inv with fireStop := true }).withMotion
    { s.motion with power := false, timer := none, shWest := shutShutter, shEast := shutShutter,
                    shChute := shutShutter }

/-! ### The node in the states the statements start from -/

def latched (s : State) : State := s.withFire { s.fire with latch := true }

def burning (z : ZoneSet) (s : State) : State := s.withFire { s.fire with zones := z }

def ctxsFull (s : State) : State := s.withSched { s.sched with ctxs := List.replicate 16 digging }

def away13 : BinRecord := rec 13 7 .away

/-- A record in hand, and the gantry with it on the way to column 2. -/
def inHand15 : BinRecord := rec 15 7 .inHand

def loaded : State := atGantry .loaded (some digXfer) (putRecord busy inHand15)

def homingHeld : State := atGantry .homing none (putRecord busy inHand15)

def recovering : State := busy.withMotion { busy.motion with recovery := true }

/-- An input fifteen samples into its window of sixteen. -/
def nearly (g : Grade) (acc : Nat) : DetInput :=
  { DetInput.blank with grade := g, acc := acc, count := 15 }

def sampling (g : Grade) (acc : Nat) : State := busy.withDet (List.replicate 4 (nearly g acc))

/-- A dig's next transfer waits for the store update of the step before. -/
def storing : State :=
  (busy.withStore
      { busy.store with queue := [update0] }).withMotion
    { busy.motion with gantry := .idle, xfer := none, held := some digXfer }

def decayOff : State := busy.withStartup { busy.startup with decayTimer := none }

def chuteShut : State := busy.withMotion { busy.motion with shChute := shutShutter }

/-- A context that waits for the drive, and one that waits for an answer to its claim. -/
def waiting (w : WaitReason) : Ctx :=
  { Ctx.blank with
    state := .stalled, wait := some w, level := 6, origin := 3, tag := 78,
    targets := [{ bin := 12, status := .waiting }], claimed := 1 }

def delXfer : Xfer := { digXfer with dst := .chute }

def delivering : State :=
  setCtx (atGantry .loaded (some delXfer) (putRecord busy inHand15)) 0
    { digging with step := some { kind := .delivery, bin := some 15 }, reserved := true }

def allSuspect : State :=
  loaded.withInv
    { loaded.inv with columns := loaded.inv.columns.map (fun k => { k with suspect := true }) }

/-- The set-down has abandoned the dig's transfer. -/
def abXfer : Xfer := { digXfer with abandonSent := true, setDown := true }

def stopping : State :=
  setCtx (inNode .shutdown (atGantry .movingEmpty (some abXfer) busy)) 0
    { digging with state := .paused }

def allShut : State :=
  busy.withMotion
    { busy.motion with
      gantry := .parking, xfer := none, shWest := shutShutter, shEast := shutShutter,
      shChute := shutShutter }

def opening : State := setShutter busy .east { openShutter with timer := some 30 }

/-- A STOW context that awaits bin 13 and holds its record. -/
def expecting : State :=
  setCtx busy 5
    { Ctx.blank with
      state := .awaiting, kind := .stow, cls := .stow, level := 2, origin := 4, tag := 1,
      offer := some { holder := 9, tag := 1, bin := 13 }, carried := some (.own 13),
      arrivalTimer := some 300 }

def atChute (d : Direction) (c : ChuteState) : State :=
  withChute c (putRecord busy (rec 20 0 (.atChute d)))

/-- A node in HOMING whose gantry has ended its PARK. -/
def homedFirst (h : HomeResult) : State :=
  State.reset.withStartup { State.reset.startup with homed := some h }

def offer13 (w : Option Station) : OfferEntry :=
  { tag := 6, bin := 13, desk := 4, closeTimer := some 120, winner := w }

/-- The node holds an offer of bin 13 open. -/
def offering (w : Option Station) : State :=
  busy.withStow { busy.stow with offers := [offer13 w], nextTag := 7 }

def offer40 : OfferFrame := { holder := 12, bin := 40, demand := 9, loans := 2, desk := 4 }

/-- Context 15 has bid for station 8's offer of bin 40. -/
def bidder (st : CtxState) (c : Option Carried) : State :=
  setCtx busy 15
    { Ctx.blank with
      state := st, kind := .stow, cls := .stow, level := 2, origin := 4, tag := 6,
      offer := some bid8, reserved := true, carried := c,
      bidTimer := some 60, arrivalTimer := some 300 }

def handing : State := busy.withStow { busy.stow with handovers := [{ bin := 14, timer := 200, record := none }] }

/-- Context 3 claims the east side. -/
def claiming : State :=
  setView (setCtx busy 3 (waiting .slotWait)) .east
    { SlotView.blank with
      state := .claiming, tag := 6, ctx := some 3, bin := some 12, claimTimer := some 50 }

/-- The east side in a view state with no frame pending. -/
def eastIn (v : ViewState) : State := setView busy .east { SlotView.blank with state := v, tag := 3 }

/-- Bin 20 stands in the west slot for the neighbour. -/
def out20 : State :=
  setView (putRecord busy (rec 20 0 (.inSlot .west))) .west
    { SlotView.blank with state := .loadedOut, tag := 6, bin := some 20 }

/-- The west side is granted to the neighbour for bin 40. -/
def theirs : State :=
  setView
    (setCtx busy 2
      { Ctx.blank with
        state := .awaiting, kind := .spill, cls := .spill, level := 7, origin := 8, tag := 6,
        side := some .west })
    .west { SlotView.blank with state := .theirs, tag := 6, ctx := some 2, bin := some 40 }

def refuse1 : Frame := { level := 2, rank := 0, src := 9, dst := 3, tag := 1, payload := .refuse .fire }

def state1 : Frame :=
  { level := 11, rank := 0, src := 9, dst := 0, tag := 0, payload := .state (stateReport busy) }

def claim1 : Frame := { level := 12, rank := 0, src := 9, dst := 10, tag := 6, payload := .slotClaim 12 }

def bid1 : Frame := { level := 2, rank := 40, src := 9, dst := 0, tag := 6, payload := .bid 8 40 }

/-- A frame with its voids, and the frame in transmission. -/
def sent (f : Frame) (v : Nat) : PFrame := { frame := f, seq := 0, voids := v }

def onBus (k : TxKey) (f : Frame) (v : Nat) : Tx :=
  { key := k, pf := sent f v, bits := wireBits f, withdrawn := false, spoiled := false }

def stating : State :=
  busy.withBus { busy.bus with state := [sent state1 0], tx := some (onBus .state state1 0) }

def claimSent : State :=
  (modView claiming .east (fun v => { v with pend := some (sent claim1 0) })).withBus
    { busy.bus with tx := some (onBus (.slot .east) claim1 0) }

def bidSent : State :=
  (modCtx (bidder .bidding none) 15 (fun c => { c with bid := some (sent bid1 0) })).withBus
    { busy.bus with tx := some (onBus (.bid 15) bid1 0) }

def replying (v : Nat) : State :=
  busy.withBus
    { busy.bus with
      replies := [sent refuse1 v, posted 1 refuse1], tx := some (onBus .reply refuse1 v) }

/-- The away list is full. -/
def fullAway : State :=
  busy.withInv
    { busyImage with
      records := [rec 10 0 (.resident 0 0), rec 11 2 (.resident 0 1), rec 12 0 (.resident 1 0)] ++
        (List.range 32).map (fun k => rec (100 + k) 0 .away)
      away := (List.range 32).map (fun k => { bin := 100 + k, winner := none }) }

/-- Bin 13 stands in the overflow place. -/
def overflowing : State := busy.withInv { busyImage with away := [entry14], overflow := some 13 }

/-- Column 2 lists bin 30, of which the node has no record. -/
def unrecorded : State :=
  busy.withInv { busyImage with columns := busyImage.columns.set 2 { bins := [30], suspect := false } }

def suspect1 : State :=
  busy.withInv { busyImage with columns := busyImage.columns.set 1 { bins := [12], suspect := true } }

/-- No job, and the gantry IDLE. -/
def idleBay : State :=
  (atGantry .idle none busy).withSched { busy.sched with ctxs := List.replicate 16 Ctx.blank }

/-- Context 0 puts away what it carries. -/
def putting (k : JobKind) (c : Carried) (sd : Option Side) : Ctx :=
  { Ctx.blank with
    state := .active, kind := k, cls := .stow, level := 2, origin := 4, tag := 1, side := sd,
    carried := some c, step := some { kind := .putAway, bin := none } }

def chuteXfer : Xfer := { digXfer with src := .chute }

/-- The gantry is on the way to the chute for bin 20. -/
def fetchingIn : State :=
  let s := atGantry .movingEmpty (some chuteXfer) (atChute .inward .inbound)
  (setCtx s 0 (putting .stow (.own 20) none)).withInv
    { s.inv with away := s.inv.away ++ [{ bin := 20, winner := none }] }

def westXfer : Xfer := { digXfer with src := .slot .west }

/-- The gantry is on the way to the west slot for the neighbour's bin 40. -/
def takingIn : State :=
  setView
    (setCtx (atGantry .movingEmpty (some westXfer) busy) 0
      (putting .spill (.foreign (rec 40 3 .away).body) (some .west)))
    .west { SlotView.blank with state := .loadedIn, tag := 6, ctx := some 0, bin := some 40 }

/-- The gantry is on the way to the west slot to take bin 20 back. -/
def takingBack : State :=
  setCtx (atGantry .movingEmpty (some westXfer) out20) 0 (putting .reclaim (.own 20) (some .west))

def toWestXfer : Xfer := { digXfer with dst := .slot .west }

/-- The gantry carries bin 15 to the west slot, for a dig or for a put-away. -/
def spilling (c : Ctx) (n : NodeState) : State :=
  setView (setCtx (inNode n (atGantry .loaded (some toWestXfer) (putRecord busy inHand15))) 0 c) .west
    { SlotView.blank with state := .mine, tag := 6, ctx := some 0, bin := some 15 }

/-- Context 1 is READY at level 7 to put bin 20 away from the chute. -/
def outranked : State :=
  let s := setCtx (atGantry .loaded (some digXfer) (putRecord (atChute .inward .inbound) inHand15)) 1
    { putting .stow (.own 20) none with state := .ready, level := 7, step := none }
  s.withSched { s.sched with ready := s.sched.ready.set 6 [1] }

/-- The west neighbour's zone is afire. -/
def besideFire (n : NodeState) : State := burning 32 (inNode n busy)

/-- A put-away of the AT_CHUTE IN record. -/
def clearing (st : CtxState) : State :=
  setCtx (atChute .inward .inbound) 0 { putting .stow (.own 20) none with state := st, step := none }

/-- A node in HOMING whose header fits, with every kind of residence. -/
def homingWith (h : HomeResult) : State :=
  let rs := [rec 13 7 .away, rec 14 0 (.handing 5), inHand15, rec 20 0 (.inSlot .west),
    rec 21 0 (.atChute .outward), rec 22 0 .arriving]
  (setView
    ((State.reset.withInv
        { busyImage with
          records := [rec 10 0 (.resident 0 0), rec 11 2 (.resident 0 1), rec 12 0 (.resident 1 0)] ++ rs }).withStartup
      { State.reset.startup with homed := some h })
    .west { SlotView.blank with state := .loadedOut, tag := 0, resendOwed := true })

/-- Every place of the away list is taken. -/
def homingFull (o : Option BinId) : State :=
  let s := homingWith (.report .empty)
  s.withInv
    { s.inv with
      records := s.inv.records ++ (List.range 32).map (fun k => rec (100 + k) 0 .away) ++
        (o.map (fun b => rec b 0 .away)).toList
      away := (List.range 32).map (fun k => { bin := 100 + k, winner := none }), overflow := o }

def loaded20 : PFrame :=
  sent { level := 12, rank := 0, src := 9, dst := 8, tag := 6, payload := .slotLoaded (rec 20 0 .away).body } 0

/-- The SLOT LOADED of bin 20 is in transmission. -/
def resending : State :=
  (modView out20 .west (fun v => { v with pend := some loaded20, waiting := [.loaded] })).withBus
    { busy.bus with tx := some (onBus (.slot .west) loaded20.frame 0) }

def owing : State := modView out20 .west (fun v => { v with resendOwed := true })

def reclaimed : State := setCtx out20 0 (putting .reclaim (.own 20) (some .west))

def doneBody (n : Nat) : DoneBody :=
  { origin := 3, tag := 77, level := 5, ctx := n, cls := .loanFetch, outcome := .complete, claimed := 1
    delivered := 1, tagFault := false, restorePartial := false, cancelLate := false, spilled := 0
    binRead := none }

def doneEntry1 : DoneEntry := { body := doneBody 1, seq := 0, voids := 0 }

def done1 : Frame := { level := 5, rank := 0, src := 9, dst := 3, tag := 77, payload := .done (doneBody 1) }

/-- A DONE is in transmission, and context 4 is ENDING, or none is. -/
def finishing (l : List Nat) : State :=
  let s := setCtx busy 4 { waiting .drive with state := .ending, wait := none, report := some (doneBody 4) }
  (s.withSched { s.sched with doneQ := [doneEntry1], ending := l }).withBus
    { busy.bus with tx := some (onBus .done done1 0) }

def progress1 : Frame := { level := 5, rank := 0, src := 9, dst := 3, tag := 77, payload := .progress 0 0 10 1 }

def notice0 : Notice := { ctx := 0, pf := sent progress1 0 }

def owed4 : NoticeBody := { target := 0, bin := 12, dig := 0 }

/-- A PROGRESS is in transmission, and context 4 has one owed, or none has. -/
def noticing (owed : Bool) : State :=
  let s := setCtx busy 4 { waiting .drive with noticeOwed := owed, lastNotice := some owed4 }
  (s.withSched { s.sched with notice := [notice0] }).withBus
    { busy.bus with tx := some (onBus .notice progress1 0) }

/-- A carried frame's body. -/
def rawKind (k : Nat) (p : List Byte) : RawBody := { level := 2, rank := 0, kind := k, payload := p }

def pausing (c : CtxState) : State := setCtx (besideFire .guarded) 5 { waiting .drive with state := c }

/-- The last shutter, the chute's, is on its way up in RESUMING. -/
def lastOpening (n : NodeState) : State :=
  let s := setShutter (setCtx (inNode .resuming busy) 5 { waiting .drive with state := .paused, wait := none }) .chute
    { state := .opening, timer := some 30, asked := some .opened, heldOpen := false }
  (s.withFire { s.fire with opening := true, resumeTo := n }).withStartup { s.startup with reconciled := true }

def bayClaim : State :=
  modView claiming .east (fun v => { v with pend := some (sent claim1 0), claimTimer := none })

def surveying : State := inNode .survey busy

def joining : State := inNode .joining busy

def stopped : State := inNode .shutdown busy

def unset : State := busy.withSetup Setup.default

def reserving : State := busy.withSetup { busy.setup with reserve := 255 }

/-- Past the gantry's part of the shutdown sequence. -/
def closing (s : State) : State := inNode .shutdown (s.withFire { s.fire with closing := true })

def safeClosing : State := setShutter safe .west { shutShutter with state := .closing, timer := some 30 }

def besideShut : State := setShutter (besideFire .guarded) .west shutShutter

def held : State := setCtx busy 15 (waiting .drive)

def dig15 : Ctx := { digging with step := some { kind := .dig, bin := some 15 } }

def put15 : Ctx := { putting .stow (.own 15) none with step := some { kind := .putAway, bin := some 15 } }

/-- Context 3 claims the west side, and the east side would do or would not. -/
def claimingWest (eastFree : Bool) : State :=
  let s := setView (setCtx busy 3 { waiting .slotWait with lock := some 1 }) .west
    { SlotView.blank with state := .claiming, tag := 6, ctx := some 3, bin := some 12 }
  if eastFree then s else setView s .east { SlotView.blank with state := .mine, tag := 3 }

/-- The west side holds the neighbour's bin 40. -/
def holding40 : State :=
  setView busy .west { SlotView.blank with state := .loadedIn, tag := 3, ctx := some 2, bin := some 40 }

def offer1 : Frame := { level := 2, rank := 0, src := 9, dst := 0, tag := 6, payload := .offer 9 13 7 1 4 }

/-- The OFFER of bin 13 is in transmission, with a number of voids. -/
def offerSent (v : Nat) : State :=
  (offering none).withBus { busy.bus with replies := [sent offer1 v], tx := some (onBus .reply offer1 v) }

/-- The own offer of bin 13, as the context that bids for it names it. -/
def ownRef : OfferRef := { holder := 9, tag := 6, bin := 13 }

def ownBid1 : Frame := { bid1 with payload := .bid 9 13 }

/-- The BID of context 15 for the node's own open offer is in transmission. -/
def ownBidding : State :=
  let c := { ctxOf (bidder .bidding none) 15 with
    offer := some ownRef, bid := some (sent ownBid1 0) }
  (setCtx (offering none) 15 c).withBus { busy.bus with tx := some (onBus (.bid 15) ownBid1 0) }

/-- The BID of context 15 is in transmission after seven voids. -/
def bidFading : State :=
  (modCtx (bidder .bidding none) 15 (fun c => { c with bid := some (sent bid1 7) })).withBus
    { busy.bus with tx := some (onBus (.bid 15) bid1 7) }

def westFrame (p : Payload) : Frame := { level := 12, rank := 0, src := 9, dst := 8, tag := 6, payload := p }

/-- The west side's frame is in transmission after seven voids. -/
def fading (s : State) (p : Payload) : State :=
  (modView s .west (fun v => { v with pend := some (sent (westFrame p) 7) })).withBus
    { busy.bus with tx := some (onBus (.slot .west) (westFrame p) 7) }

/-- Bin 15 is on its way to column 2 by a homing put-away, in SURVEY. -/
def landing : State :=
  inNode .survey (atGantry .loaded (some { digXfer with src := .park, owner := none }) (putRecord busy inHand15))

def counters1 : Frame :=
  { refuse1 with payload := .reply (.counters busy.bus.counters) }

/-- An answer of the update being written, and behind it one that does not depend on it. -/
def answering : State :=
  (busy.withStore { busy.store with queue := [update0] }).withBus
    { busy.bus with seq := 6, replies := [sent refuse1 0, posted 5 counters1] }

/-- A node in GUARD, at HOMED with bin 15 in the hand for context 0. -/
def guardHeld (c : Ctx) : State := setCtx (inNode .guarded homingHeld) 0 { c with state := .paused }

def digKept : Ctx := { dig15 with restore := true, reserved := true }

/-- Bin 15 in the hand for no context, and every place of the away list taken. -/
def fullHeld (o : Option BinId) : State :=
  let s := inNode .guarded (atGantry .homing none fullAway)
  putRecord (s.withInv { s.inv with overflow := o }) inHand15

/-- The neighbour's bin 40 stands in the west slot, and its context has not taken it yet. -/
def holdingIn (st : CtxState) : State :=
  setView (setCtx busy 2 { putting .spill (.foreign (rec 40 3 .away).body) (some .west) with state := st })
    .west { SlotView.blank with state := .loadedIn, tag := 6, ctx := some 2, bin := some 40 }

def reclaimReady : State := setCtx out20 0 { putting .reclaim (.own 20) (some .west) with state := .ready }

/-! ### Well-formedness: each check refuses a term of its own -/

theorem test_wf_refuses_header :
    Instr.wf (.cancel { src := 0, dst := 9, tag := 1 }) = false ∧
    Instr.wf (.cancel { src := 32, dst := 9, tag := 1 }) = false ∧
    Instr.wf (.cancel { src := 3, dst := 32, tag := 1 }) = false ∧
    Instr.wf (.cancel { src := 3, dst := 9, tag := 256 }) = false ∧ Instr.wf (.cancel toNode) = true := by
  decide

theorem test_wf_refuses_events :
    Instr.wf (.sensorSample 4 0) = false ∧ Instr.wf (.sensorSample 3 1024) = false ∧
    Instr.wf (.picked (some 65536)) = false ∧ Instr.wf (.placed (.column 256)) = false ∧
    Instr.wf (.homed (.loaded (some 65536))) = false ∧ Instr.wf (.arrival (some 65536)) = false ∧
    Instr.wf (.bidTimerExpiry 16) = false ∧ Instr.wf (.closeTimerExpiry 256) = false ∧
    Instr.wf (.handoverTimerExpiry 65536) = false ∧ Instr.wf (.arrivalTimerExpiry 16) = false ∧
    Instr.wf (.transmitContend { rival := some { level := 16, rank := 0, source := 1 }, past := none }) = false ∧
    Instr.wf (.transmitContend { rival := some { level := 15, rank := 4096, source := 1 }, past := none }) = false ∧
    Instr.wf (.transmitContend { rival := some { level := 15, rank := 0, source := 0 }, past := none }) = false ∧
    Instr.wf (.receivedFrameIgnored toNode { level := 2, rank := 0, kind := 64, payload := [] }) = false := by
  decide

theorem test_wf_refuses_frames :
    Instr.wf (.setup toNode { rawSetup with handoverWindow := 65536 }) = false ∧
    Instr.wf (.setup toNode { rawSetup with types := [1, 1, 1] }) = false ∧
    Instr.wf (.setup toNode { rawSetup with heat := { t1 := 65536, t2 := 1, t3 := 1, h := 1 } }) = false ∧
    Instr.wf (.columnLoad toNode 0 24 (List.replicate 24 1)) = false ∧
    Instr.wf (.fetch toNode 0 0 1 [65536]) = false ∧ Instr.wf (.fetch toNode 256 0 1 [1]) = false ∧
    Instr.wf (.verify toNode 0 256 [1]) = false ∧ Instr.wf (.lend toNode 1 256 1) = false ∧
    Instr.wf (.accession toNode 1 0 4294967296) = false ∧ Instr.wf (.stowReady toNode 1 256) = false ∧
    Instr.wf (.slotReclaim toNode 256) = false ∧ Instr.wf (.queryColumn toNode 65536) = false ∧
    Instr.wf (.alarm toAll 256) = false ∧ Instr.wf (.recordSurvey toNode { raw 1 with slots := [] }) = false ∧
    Instr.wf (.state fromWest { state10 with free := 65536 }) = false ∧
    Instr.wf (.announce fromWest { announce8 with role := 256 }) = false ∧
    Instr.wf (.offer toAll { offer40 with demand := 256 }) = false ∧
    Instr.wf (.bid toAll 256 1) = false := by
  decide

theorem test_wf_takes : (Instr.wf (.setup toNode rawSetup) && Instr.wf (.recordSurvey toNode (raw 1)) &&
    Instr.wf (.columnLoad toNode 11 16 (List.replicate 16 1)) && Instr.wf (.offer toAll offer40)) = true := by
  decide

/-! ### The machine -/

/-- The state a command leaves. -/
def after (c : Instr) (s : State) : State :=
  match exec c s with
  | .next t => t
  | _ => s

theorem test_no_word_spells_a_command : decodeTableWord 16 0x1234 = none := rfl

/-- RESET of the modelled board over a blank store gives `State.reset`, from any state before it. -/
theorem test_reset : after (.reset Config.pins false) (busy.withStore State.reset.store) = State.reset := by
  decide +kernel

theorem test_step_takes_the_front :
    step (busy.withPending [.chuteTaken, .parked]) = exec .chuteTaken (busy.withPending [.parked]) := rfl

/-! ### Column scores and bids: the worked cases of chapter 2 -/

/-- A column of `f` bins, the lowest of which carries burial value `b`, and their records. -/
def stack (c f b : Nat) : Column × List BinRecord :=
  ({ bins := (List.range f).map (fun i => 100 * (c + 1) + i), suspect := false },
    (List.range f).map (fun i =>
      { body :=
          { bin := 100 * (c + 1) + i, demand := if i = 0 then min 7 b else if i = 1 then b - 7 else 0,
            suspectTag := false, slots := List.replicate 8 itemEmpty }
        residence := .resident c i }))

/-- The bay of the worked cases, column 7 given, columns 9 and 10 with `f` bins of burial value `b`. -/
def workedBay (c7 c9 c10 : Column × List BinRecord) : State :=
  let l := [stack 0 6 9, stack 1 8 0, stack 2 5 0, stack 3 8 0, stack 4 8 0, stack 5 8 0, stack 6 8 0,
    c7, stack 8 8 0, c9, c10, stack 11 8 0]
  busy.withInv
    { busyImage with
      columns := (l.map (·.1)).set 2 { bins := (stack 2 5 0).1.bins, suspect := true } ++
        List.replicate 52 Column.empty
      records := l.flatMap (·.2), away := [] }

/-- The first dig step: column 10 with S = 20, against 54 at column 0 and 23 at column 9. -/
theorem test_relocation_first :
    let s := workedBay (stack 7 3 0) (stack 9 1 5) (stack 10 2 3)
    choose s 1 (.column 7) none (some 7) = some (10, 20) ∧ score s 1 (.column 7) 0 = 54 ∧
      score s 1 (.column 7) 9 = 23 := by
  decide +kernel

/-- The second: columns 9 and 10 tie at 32, and the lower index is chosen. -/
theorem test_relocation_second :
    let s := workedBay (stack 7 2 0) (stack 9 1 5) (stack 10 3 4)
    choose s 4 (.column 7) none (some 7) = some (9, 32) ∧ score s 4 (.column 7) 0 = 66 ∧
      score s 4 (.column 7) 10 = 32 := by
  decide +kernel

/-- Pricing a bid: F = 16, S_min = 24 at column 10, Q = 5, reserve 20: rank 696. -/
def pricing : State :=
  let s := workedBay (stack 7 7 4) (stack 9 1 5) (stack 10 2 3)
  let target := { waiting .drive with targets := [{ bin := 800, status := .waiting }] }
  (s.withSched
      { s.sched with
        ctxs := digging :: target :: waiting .drive :: waiting .drive :: List.replicate 12 Ctx.blank }).withSetup
    { s.setup with reserve := 20, stow := 3 }

theorem test_bid_rank :
    freePositions pricing = 16 ∧ score pricing 3 .chute 7 = 110 ∧ score pricing 3 .chute 0 = 72 ∧
      ((ctxOf (after (.offer toAll { offer40 with demand := 3 }) pricing) 4).bid.map
        (fun f => (f.frame.level, f.frame.rank))) = some (3, 696) := by
  decide +kernel

/-! ### The detector grader: the worked windows of chapter 9 -/

/-- Input 2 after a window whose readings sum to `m`, from a grade; the last reading is 300. -/
def windowOf (g : Grade) (m : Nat) : Option (Grade × Option Nat) :=
  let s := (busy.withSetup Setup.default).withDet
    [DetInput.blank, DetInput.blank, nearly g (m - 100), { DetInput.blank with fault := true }]
  ((after (.sensorSample 2 100) s).det[2]?).map (fun i => (i.grade, i.mean))

theorem test_windows :
    windowOf .watch 5416 = some (.watch, some 338) ∧ windowOf .watch 5700 = some (.warn, some 356) ∧
    windowOf .warn 5000 = some (.warn, some 312) ∧ windowOf .warn 4900 = some (.watch, some 306) ∧
    windowOf .watch 2400 = some (.normal, some 150) := by
  decide +kernel

/-- Two steps down in one update, the rise straight to ALARM, and ALARM held at a mean of 90. -/
theorem test_windows_two_steps_and_latch :
    windowOf .warn 2400 = some (.normal, some 150) ∧ windowOf .watch 8320 = some (.alarm, some 520) ∧
    windowOf .alarm 1440 = some (.alarm, some 90) := by
  decide +kernel

/-- Four inputs in FAULT read WATCH; a faulted WARN leaves the count (R146). -/
theorem test_bay_grade :
    bayGrade (busy.withDet (List.replicate 4 { DetInput.blank with fault := true })) = .watch ∧
    bayGrade (busy.withDet
      [{ DetInput.blank with grade := .warn, fault := true }, DetInput.blank, DetInput.blank,
        DetInput.blank]) = .normal := by
  decide +kernel

theorem test_window_lengths :
    clampWindow 3 = 8 ∧ clampWindow 12 = 8 ∧ clampWindow 13 = 16 ∧ clampWindow 24 = 16 ∧
      clampWindow 25 = 32 ∧ clampWindow 48 = 32 ∧ clampWindow 49 = 64 ∧ clampWindow 255 = 64 := by
  decide

/-! ### Item slots: the worked sequences of chapter 7 -/

/-- Station 9 with bin 812 AWAY, demand 3: items 40017 IN and 40018 in the given state. -/
def loanDesk (st : ItemState) : State :=
  busy.withInv
    { busyImage with
      records :=
        [{ body :=
            { bin := 812, demand := 3, suspectTag := false,
              slots := [{ state := .inBin, item := 40017 }, { state := st, item := 40018 }] ++
                List.replicate 6 itemEmpty }
           residence := .away }]
      away := [{ bin := 812, winner := none }] }

/-- The node's last answer. -/
def answer (s : State) : Option Payload := s.bus.replies.getLast?.map (·.frame.payload)

theorem test_lend :
    ((recordOf (after (.lend toNode 812 1 40018) (loanDesk .inBin)) 812).map (fun r => loanCount r.body)) =
      some 1 := by
  decide +kernel

theorem test_accession_duplicate :
    answer (after (.accession toNode 812 3 40017) (loanDesk .lentOut)) = some (.refuse .duplicate) ∧
    ((recordOf (after (.accession toNode 812 2 40100) (loanDesk .lentOut)) 812).map
      (fun r => r.body.slots[2]?)) = some (some { state := .inBin, item := 40100 }) := by
  decide +kernel

theorem test_return_query :
    answer (after (.returnQuery toAll 40018) (loanDesk .lentOut)) =
      some (.returnClaim 40018 812 1 .away) ∧
    answer (after (.returnQuery toAll 40018) (loanDesk .inBin)) = none := by
  decide +kernel

/-- A clash at adoption: 55201 stands IN in bin 6100, so slot 0 of 7300 is marked; 55300 is not. -/
theorem test_clash_at_adoption :
    let s := busy.withInv
      { busyImage with
        records :=
          [{ body :=
              { bin := 6100, demand := 0, suspectTag := false,
                slots := [{ state := .inBin, item := 55201 }] }
             residence := .resident 0 0 }] }
    (clashMark s
      { bin := 7300, demand := 0, suspectTag := false,
        slots := [{ state := .lentOut, item := 55201 }, { state := .inBin, item := 55300 },
          { state := .clash, item := 55410 }] }).slots =
      [{ state := .clash, item := 55201 }, { state := .inBin, item := 55300 },
        { state := .clash, item := 55410 }] := by
  decide +kernel

/-! ### Contexts, the gantry and the slots -/

/-- A boundary: the dug bin is pushed, its entry noted, and the next transfer waits for the update. -/
theorem test_dig_step :
    let s := setCtx (popColumn loaded 0) 0 { digging with step := some { kind := .dig, bin := some 11 } }
    let s := s.withInv { s.inv with records := erase 15 s.inv.records }
    let t := after (.placed (.column 2)) s
    (ctxOf t 0).reloc = [{ bin := 11, place := .column 2 }] ∧
      t.motion.held.map (fun x => (x.src, x.dst)) = some (.column 0, .chute) ∧
      t.motion.out = [] ∧ (ctxOf t 0).state = .active := by
  decide +kernel

/-- The held transfer goes when the update is complete (R20). -/
theorem test_held_transfer_goes :
    (after .storeUpdateComplete storing).motion.out = [.transfer (.column 0) (.column 2)] := by
  decide +kernel

/-- An answer that waits for its update does not hold up the next one, and is posted behind it (R20). -/
theorem test_answer_after_its_update :
    (replyHead answering).map (·.seq) = some 5 ∧
      (after .storeUpdateComplete answering).bus.replies.map (·.seq) = [5, 0] ∧
      turnOf (after .storeUpdateComplete answering) (sent refuse1 0) = 6 := by
  decide +kernel

/-- In SURVEY the column a homing put-away is on its way to takes no load (R5). -/
theorem test_survey_load_awaits_the_push :
    loadRefusal landing 2 1 [13] = some .binBusy ∧ loadRefusal landing 3 1 [13] = none := by
  decide +kernel

/-- A full bay spills: the stalled job claims the west side first (R103). -/
theorem test_spill_asks_west_first :
    let s := busy.withInv
      { busyImage with columns := busyImage.columns.map (fun k => { k with suspect := true }) }
    let s := setCtx (atGantry .idle none s) 0
      { digging with state := .stalled, wait := some .noRoom, step := none, lock := some 0 }
    let t := spillRequest s 0 11
    t.slots.west.state = .claiming ∧ (ctxOf t 0).wait = some .slotWait ∧
      t.slots.west.pend.map (fun f => (f.frame.level, f.frame.dst, f.frame.payload)) =
        some (12, 8, .slotClaim 11) := by
  decide +kernel

theorem test_slot_taken_frees_the_side :
    let t := after (.slotTaken fromWest 20) out20
    t.slots.west.state = .free ∧ recordOf t 20 = none := by
  decide +kernel

/-- The set-down of a bin of demand 7 picked from column 0: column 4, at distance 1 and empty, scores
9 · 1 = 9; column 1 scores 9 + 4 + 2 = 15. -/
theorem test_fire_sets_a_bin_down :
    let t := after (.fire toAll 8) delivering
    t.fire.node = .shutdown ∧ t.inv.fireStop = true ∧
      t.motion.out = [.retarget (.column 4)] := by
  decide +kernel

/-- Context 3 waits for its granted west side to open, and for the answer to a claim of the east side. -/
def awaitingBoth : State :=
  let s := setView (setView (setCtx busy 3 (waiting (.slotClosed .west))) .west
      { SlotView.blank with state := .mine, tag := 3, ctx := some 3, bin := some 12 }) .east
    { SlotView.blank with state := .claiming, tag := 6, ctx := some 3, bin := some 12 }
  s.withBus { s.bus with nbWest := { running 8 with present := false } }

/-- R100, R113: the neighbour's return wakes the context stalled for its side, whatever else it waits for;
R47: a refusal of its other claim does not set its wait reason. -/
theorem test_overlay_lift_wakes :
    (ctxOf (after (.state fromWest { state10 with nodeState := 3 }) awaitingBoth) 3).state = .ready ∧
    (ctxOf (after (.slotRefuse (tagged 6 fromEast) 1) awaitingBoth) 3).wait = some (.slotClosed .west) := by
  decide +kernel

/-- R135, R164: in JOINING a put-away of a homing goes at once, that of the start-up reconcile waits. -/
theorem test_put_away_in_joining :
    let s (w : Bool) := inNode .joining ((putRecord busy inHand15).withMotion
      { busy.motion with gantry := .idle, xfer := none, timer := none, putAway := some 15, putAwayWaits := w })
    (after (.columnLoad toNode 3 0 []) (s false)).motion.gantry = .loaded ∧
      (after (.columnLoad toNode 3 0 []) (s true)).motion.gantry = .idle := by
  decide +kernel

/-- R153: a side whose OPEN had expired is sent OPEN again at the return to RUN, and in GUARD when its zone
leaves the set while the other side's is still afire. -/
theorem test_fire_clear_reopens :
    let s := setShutter (modView (pausing .paused) .west (fun v => { v with fireClosed := true })) .west
      { state := .unknown, timer := none, asked := some .opened, heldOpen := false }
    let t := (s.withFire { s.fire with zones := 96 }).withBus
      { s.bus with nbEast := { running 10 with zone := some 6 } }
    (shutter (after (.fireClear toAll 32) s) .west).state = .opening ∧
      (after (.fireClear toAll 32) t).fire.node = .guarded ∧
      (shutter (after (.fireClear toAll 32) t) .west).state = .opening := by
  decide +kernel

/-- R110, R131: an EMPTY_PICK after a SLOT TAKEN has ended the set-down's SPILL context, left ENDING by a
full completion queue, posts nothing in the slot's place. -/
theorem test_empty_pick_after_taken :
    let s := setCtx (inNode .shutdown (takingIn.withMotion
        { takingIn.motion with xfer := some { westXfer with abandonSent := true, setDown := true } })) 0
      { ctxOf takingIn 0 with state := .paused }
    let t := after (.slotTaken fromWest 40)
      (s.withSched { s.sched with doneQ := List.replicate 8 doneEntry1 })
    (ctxOf t 0).state = .ending ∧ (view (after .faultEmptyPick t) .west).pend = none ∧
      (after .faultEmptyPick t).motion.gantry = .parking := by
  decide +kernel

theorem test_restart_leaves_safe :
    let t := after (.restart toNode) safe
    t.fire.node = .resuming ∧ t.motion.out = [.power true, .park true] := by
  decide +kernel

/-! ### Frames -/

/-- Levels and ranks contend as in the worked sequence of chapter 12. -/
theorem test_arbitration :
    wordBeats { level := 11, rank := 0, source := 9 } { level := 3, rank := 640, source := 12 } = true ∧
    wordBeats { level := 4, rank := 0, source := 9 } { level := 3, rank := 640, source := 12 } = true ∧
    wordBeats { level := 3, rank := 640, source := 12 } { level := 3, rank := 696, source := 9 } = true ∧
    wordBeats { level := 3, rank := 640, source := 9 } { level := 3, rank := 640, source := 12 } = true := by
  decide

/-- The generator x^16 + x^12 + x^5 + 1 from all ones over the nine ASCII digits "123456789": the
published check value of that code is 29B1H (source: the public catalogue of such codes). -/
theorem test_check_value :
    crc (([49, 50, 51, 52, 53, 54, 55, 56, 57] : List Nat).flatMap (bitsOf 8)) = 0x29B1#16 := by
  decide +kernel

/-- Level 15 goes out dominant: its four bits are 0 (R172). -/
theorem test_level_bits :
    (wireBits { level := 15, rank := 0, src := 9, dst := 0, tag := 0, payload := .alarm 3 }).take 22 =
      [false, false, false, false, false] ++ List.replicate 12 false ++
        [false, true, false, false, true] := by
  decide +kernel

/-- The payload lengths of R177's catalogue. -/
theorem test_payload_lengths :
    (Payload.bytes (.state (stateReport busy))).length = 10 ∧
    (Payload.bytes (.announce 9 3 4 3 8 96)).length = 8 ∧
    (Payload.bytes (.record (rec 10 0 .away).body)).length = 44 ∧
    (replyBytes (.binRecord (some (rec 10 0 .away)))).length = 47 ∧
    (replyBytes (.setup Setup.default)).length = 37 := by
  decide +kernel

/-- A FETCH as R172 and R177 lay it out: level 3, rank 0, from station 3 to all, tag 77, seven bytes. -/
def fetchBits : List Bool :=
  false :: (bitsOf 4 12 ++ bitsOf 12 0 ++ bitsOf 5 3 ++ bitsOf 6 4 ++ bitsOf 5 0 ++ bitsOf 8 77 ++
    bitsOf 6 7 ++ [1, 5, 2, 0, 12, 1, 0].flatMap (bitsOf 8))

/-- The bits with their check and the nine recessive bits behind it. -/
def closed (bits : List Bool) : List Bool :=
  bits ++ bitsOf 16 (crc (bits.drop 1)).toNat ++ List.replicate 9 true

theorem test_fetch_read :
    busCommand busy (closed fetchBits) = .fetch { src := 3, dst := 0, tag := 77 } 1 5 2 [12, 256] := by
  decide +kernel

/-- A bit wrong in the payload, a frame that ends early, and the void window driven. -/
theorem test_bad_frames_voided :
    busCommand busy ((closed fetchBits).set 70 true) = .frameVoided ∧
    busCommand busy ((closed fetchBits).take 80) = .frameVoided ∧
    busCommand busy ((closed fetchBits).set 119 false) = .frameVoided := by
  decide +kernel

/-- A FETCH of eight bytes and one of kind 37 are ignored; one to another station is discarded. -/
theorem test_wrong_kinds_ignored :
    commandOf busy toAll (rawKind 4 [1, 5, 2, 0, 12, 1, 0, 0]) =
      .receivedFrameIgnored toAll (rawKind 4 [1, 5, 2, 0, 12, 1, 0, 0]) ∧
    commandOf busy toAll (rawKind 37 []) = .receivedFrameIgnored toAll (rawKind 37 []) ∧
    commandOf busy passing (rawKind 3 []) = .receiveFilterDiscard passing := by
  decide +kernel

/-- R177's SETUP, its bytes in the order of the catalogue. -/
theorem test_setup_read :
    commandOf busy toNode (rawKind 1
      ([5, 6, 4, 3, 2, 7, 8, 2, 50, 60, 0, 200, 30, 1, 44, 0, 12, 1, 44, 1, 194, 2, 88, 0, 200, 1, 94, 1,
        244, 0, 30, 0, 40, 1, 2, 0, 9] : List Byte)) = .setup toNode rawSetup := by
  decide +kernel

/-- A RECORD is the survey's in SURVEY and a handover's elsewhere; REFUSE is read for OFFER_CLOSED alone. -/
theorem test_owners_by_kind :
    commandOf surveying toNode (rawKind 27 (List.replicate 44 0)) =
      .recordSurvey toNode (rawRecordOf (List.replicate 44 0)) ∧
    commandOf busy toNode (rawKind 27 (List.replicate 44 0)) =
      .recordHandover toNode (rawRecordOf (List.replicate 44 0)) ∧
    commandOf busy fromWest (rawKind 22 [17]) = .refuseOfferClosed fromWest ∧
    commandOf busy fromWest (rawKind 22 [16]) = .receivedFrameIgnored fromWest (rawKind 22 [16]) ∧
    commandOf busy toNode (rawKind 16 [1, 255, 3]) = .queryColumn toNode 65283 := by
  decide +kernel

/-! ### Every statement's hypotheses are met -/

theorem witness_StepTakesTheFront :
    (busy.withPending [.chuteTaken, .parked]).pending = .chuteTaken :: [.parked] ∧
      State.reset.pending = [] := ⟨rfl, rfl⟩

theorem witness_OnlyTheseCommandsChange :
    (∃ t, exec (.queryJobSummary toNode) busy = .next t) ∧
      movesStow (.queryJobSummary toNode) = false ∧
      leavesInventory (.queryJobSummary toNode) = true ∧ busy.fire.node ≠ .homing ∧
      busy.fire.node ≠ .resuming := ⟨⟨_, rfl⟩, rfl, rfl, by decide, by decide⟩

/-- A node with a command waiting, for the statements about every step. -/
def stepping : State := busy.withPending [.picked (some 11)]

theorem witness_RecordsStaySorted :
    RecordsSorted stepping ∧ (∃ t, step stepping = .next t) := ⟨by decide +kernel, _, rfl⟩

theorem witness_FireLawKept :
    FireLaw stepping ∧ FireLaw (burning 8 safe) ∧ (∃ t, step stepping = .next t) :=
  ⟨by decide, by decide, _, rfl⟩

theorem witness_SafeLawKept :
    SafeLaw stepping ∧ SafeLaw safe ∧ (∃ t, step stepping = .next t) :=
  ⟨by decide +kernel, by decide +kernel, _, rfl⟩

theorem witness_TablesKeepTheirSizes :
    TablesSized stepping ∧ MotionLaw stepping ∧ MotionLaw (homedFirst .failed) ∧
      (∃ t, step stepping = .next t) := ⟨by decide, by decide, by decide, _, rfl⟩

/-- A node in SAFE with its inputs at ALARM. -/
def alarmed : State := (burning 8 safe).withDet (List.replicate 4 (nearly .alarm 0))

theorem witness_AlarmIsLatched :
    FireLaw alarmed ∧ alarmed.det[0]? = some (nearly .alarm 0) ∧ (nearly .alarm 0).grade = .alarm ∧
      (∃ t, exec (.sensorSample 0 0) alarmed = .next t) := ⟨by decide, rfl, rfl, ⟨_, rfl⟩⟩

/-- None of the bins of a load stands RESIDENT in another column. -/
theorem loads_elsewhere {s : State} {c : Nat} {bins : List BinId}
    (h : bins.all (fun b => match residenceOf s b with
      | some (.resident k _) => k = c
      | _ => true) = true) :
    ¬ ∃ b ∈ bins, ∃ k i, residenceOf s b = some (.resident k i) ∧ k ≠ c := by
  rintro ⟨b, hb, k, i, hr, hk⟩
  have := List.all_eq_true.mp h b hb
  rw [hr] at this
  exact hk (of_decide_eq_true this)

/-- None of the bins of a load is on the move. -/
theorem loads_still {s : State} {bins : List BinId}
    (h : bins.all (fun b => decide (s.inv.overflow ≠ some b) && !isCarried s b &&
      match residenceOf s b with
      | none | some (.resident _ _) | some .away => true
      | _ => false) = true) :
    ¬ ∃ b ∈ bins, s.inv.overflow = some b ∨ isCarried s b = true ∨
      residenceOf s b = some .inHand ∨ residenceOf s b = some .arriving ∨
      (∃ sd, residenceOf s b = some (.inSlot sd)) ∨ (∃ d, residenceOf s b = some (.atChute d)) ∨
      ∃ w, residenceOf s b = some (.handing w) := by
  rintro ⟨b, hb, hm⟩
  have h := List.all_eq_true.mp h b hb
  simp only [Bool.and_eq_true, decide_eq_true_eq, Bool.not_eq_true'] at h
  obtain ⟨⟨h1, h2⟩, h3⟩ := h
  rcases hm with h | h | h | h | ⟨_, h⟩ | ⟨_, h⟩ | ⟨_, h⟩
  · exact h1 h
  · rw [h2] at h; cases h
  all_goals rw [h] at h3; cases h3

theorem levels_above : ∀ j : Nat, (ctxOf outranked 1).level < j → j ≤ 10 → readyList outranked j = [] := by
  intro j h h'
  have h : 7 < j := h
  interval_cases j <;> decide +kernel

theorem no_side_burns :
    ∀ sd : Side, ¬ BurnsBeside (pausing .paused) ((pausing .paused).fire.zones &&& ~~~32) sd := by
  rintro (_ | _) ⟨-, z, hz, h⟩ <;> cases hz <;> revert h <;> decide +kernel


/-- A bin that stands neither in the gripper nor in a column. -/
theorem stands_off {s : State} {b : BinId}
    (h : (match residenceOf s b with
      | some .inHand | some (.resident _ _) => false
      | _ => true) = true) :
    ∀ p, residenceOf s b = some p → p ≠ .inHand ∧ ∀ c i, p ≠ .resident c i := by
  intro p hp
  rw [hp] at h
  cases p <;> simp_all

/-- A request that passes every other check is judged by the first bin held of its list (R62). -/
theorem judged_by_bin {s : State} {q : JobRequest} {r : RefuseReason} (b : BinId)
    (hc : (!notReady s && !fireStopped s && !s.fire.latch && q.level ≠ 0 && (freeCtx? s).isSome &&
      (heldBins s q.bins).all (fun b => !claimable s b) &&
      (heldBins s q.bins).head? = some b) = true)
    (hb : BinRefused s b r) : RequestRefused s q r := by
  simp only [Bool.and_eq_true, Bool.not_eq_true', decide_eq_true_eq, List.all_eq_true, ne_eq] at hc
  obtain ⟨⟨⟨⟨⟨⟨h1, h2⟩, h3⟩, h4⟩, h5⟩, h6⟩, h7⟩ := hc
  exact .inr ⟨h1, .inr ⟨h2, h3, .inr ⟨h4, .inr ⟨h5, h6, b, h7, hb⟩⟩⟩⟩

theorem witness_ZonesAdded :
    (accepts busy toAll = true) ∧
    (busy.fire.latch = false) := by
  and_intros <;> decide +kernel

theorem witness_FireStopsTheBay :
    (accepts busy toAll = true ∧ TablesSized busy ∧ fireStopped busy = false ∧ BitVec.getLsbD (8#16)
      (BitVec.toNat busy.board.zone) = true) ∧
    (bayGrade (sampling Grade.normal 10500) ≠ .alarm ∧ posts (sampling Grade.normal 10500) = true) ∧
    (busy.setup.types[2]? = some .unfitted) := by
  and_intros <;> decide +kernel

theorem witness_FireClearRemovesZones :
    (accepts (burning 8 safe) toAll = true ∧ (burning 8 safe).fire.latch = false) ∧
    (Passes (latched busy) toNode ∧ (latched busy).fire.latch = true ∧ (latched busy).bus.replies.length
      < 8) := by
  and_intros <;> decide +kernel

theorem witness_RestartLeavesSafe :
    (SafeLaw safe ∧ toNode.dst = safe.board.station ∧ posts safe = true ∧ safe.fire.node =
      NodeState.safe ∧ safe.fire.zones = 0 ∧ safe.fire.latch = false) ∧
    (toNode.dst = (latched safe).board.station ∧ Passes (latched safe) toNode ∧ (latched safe).fire.node
      = .safe ∧ (¬((latched safe).fire.zones = 0 ∧ (latched safe).fire.latch = false)) ∧
      (latched safe).bus.replies.length < 8) ∧
    (toNode.dst = (burning 1 safe).board.station ∧ Passes (burning 1 safe) toNode ∧ (burning 1
      safe).fire.node = .safe ∧ (¬((burning 1 safe).fire.zones = 0 ∧ (burning 1
      safe).fire.latch = false)) ∧ (burning 1 safe).bus.replies.length < 8 ∧ (burning 1
      safe).inv.overflow = none ∧ (∀ sd ∈ sides, (view (burning 1 safe) sd).resendOwed = false)) := by
  and_intros <;> decide +kernel

theorem witness_DriveRecoveryRuns :
    (toNode.dst = (atGantry .faulted none busy).board.station ∧ Passes (atGantry
      GantryState.faulted none busy) toNode ∧ Calm (atGantry .faulted none busy) ∧ (atGantry
      GantryState.faulted none busy).motion.gantry = .faulted ∧ (atGantry .faulted
      none busy).motion.recovery = false) ∧
    (toNode.dst = busy.board.station ∧ Passes busy toNode ∧ busy.bus.replies.length < 8 ∧ RestartRefused
      busy RefuseReason.notSafe) ∧
    (toNode.dst = joining.board.station ∧ Passes joining toNode ∧ joining.bus.replies.length < 8 ∧
      RestartRefused joining RefuseReason.notReady) ∧
    (toNode.dst = stopped.board.station ∧ Passes stopped toNode ∧ stopped.bus.replies.length < 8 ∧
      RestartRefused stopped RefuseReason.fire) ∧
    (toNode.dst = recovering.board.station ∧ Passes recovering toNode ∧ recovering.bus.replies.length <
      8 ∧ RestartRefused recovering RefuseReason.binBusy) ∧
    (homingHeld.fire.node = .run ∧ homingHeld.motion.gantry = .homing ∧ inHand
      homingHeld = some inHand15 ∧ recordOf homingHeld inHand15.body.bin = some inHand15) ∧
    (Calm (atGantry .homing none busy) ∧ (atGantry .homing none
      busy).motion.gantry = .homing ∧ inHand (atGantry .homing none busy) = none) ∧
    ((atGantry .homing none busy).fire.node = .run ∧ (atGantry .homing
      none busy).motion.gantry = .homing ∧ inHand (atGantry .homing none busy) =
      none) ∧
    (toNode.dst = (inNode .guarded (atGantry .faulted none busy)).board.station ∧
      Passes (inNode .guarded (atGantry .faulted none busy)) toNode ∧ (inNode
      NodeState.guarded (atGantry .faulted none busy)).fire.node = .guarded ∧
      (inNode .guarded (atGantry .faulted none busy)).motion.held = none ∧ (inNode
      NodeState.guarded (atGantry .faulted none busy)).motion.gantry = .faulted ∧
      (inNode .guarded (atGantry .faulted none busy)).motion.recovery = false) ∧
    ((homingHeld.fire.node = .run ∨ homingHeld.fire.node = .guarded) ∧ TablesSized
      homingHeld ∧ homingHeld.motion.held = none ∧ homingHeld.motion.gantry = .homing ∧
      inHand homingHeld = some inHand15 ∧ recordOf homingHeld inHand15.body.bin = some inHand15 ∧ ((∃ n,
      jobOf homingHeld inHand15.body.bin = some n ∧ (ctxOf homingHeld n).reserved = true) ∨ awayTotal
      homingHeld < 32 ∨ homingHeld.inv.overflow = none)) ∧
    (((guardHeld put15).fire.node = .run ∨ (guardHeld put15).fire.node = .guarded) ∧
      TablesSized (guardHeld put15) ∧ (guardHeld put15).motion.held = none ∧ (guardHeld
      put15).motion.gantry = .homing ∧ inHand (guardHeld put15) = some inHand15 ∧ recordOf
      (guardHeld put15) inHand15.body.bin = some inHand15 ∧ ((∃ n, jobOf (guardHeld put15)
      inHand15.body.bin = some n ∧ (ctxOf (guardHeld put15) n).reserved = true) ∨ awayTotal (guardHeld
      put15) < 32 ∨ (guardHeld put15).inv.overflow = none)) ∧
    (((guardHeld digKept).fire.node = .run ∨ (guardHeld digKept).fire.node = .guarded)
      ∧ TablesSized (guardHeld digKept) ∧ (guardHeld digKept).motion.held = none ∧ (guardHeld
      digKept).motion.gantry = .homing ∧ inHand (guardHeld digKept) = some inHand15 ∧
      recordOf (guardHeld digKept) inHand15.body.bin = some inHand15 ∧ ((∃ n, jobOf (guardHeld digKept)
      inHand15.body.bin = some n ∧ (ctxOf (guardHeld digKept) n).reserved = true) ∨ awayTotal (guardHeld
      digKept) < 32 ∨ (guardHeld digKept).inv.overflow = none)) ∧
    (((fullHeld none).fire.node = .run ∨ (fullHeld none).fire.node = .guarded) ∧
      TablesSized (fullHeld none) ∧ (fullHeld none).motion.held = none ∧ (fullHeld none).motion.gantry =
      GantryState.homing ∧ inHand (fullHeld none) = some inHand15 ∧ recordOf (fullHeld none)
      inHand15.body.bin = some inHand15 ∧ ((∃ n, jobOf (fullHeld none) inHand15.body.bin = some n ∧
      (ctxOf (fullHeld none) n).reserved = true) ∨ awayTotal (fullHeld none) < 32 ∨ (fullHeld
      none).inv.overflow = none)) ∧
    (((fullHeld (some 131)).fire.node = .run ∨ (fullHeld (some 131)).fire.node =
      NodeState.guarded) ∧ TablesSized (fullHeld (some 131)) ∧ (fullHeld (some 131)).motion.held = none
      ∧ (fullHeld (some 131)).motion.gantry = .homing ∧ inHand (fullHeld (some 131)) = some
      inHand15 ∧ recordOf (fullHeld (some 131)) inHand15.body.bin = some inHand15 ∧ (¬∃ n, jobOf
      (fullHeld (some 131)) inHand15.body.bin = some n ∧ (ctxOf (fullHeld (some 131)) n).reserved =
      true) ∧ 32 ≤ awayTotal (fullHeld (some 131)) ∧ (fullHeld (some 131)).inv.overflow.isSome = true) := by
  and_intros <;> decide +kernel

theorem witness_WindowGradesInput :
    (busy.det[0]? = some DetInput.blank ∧ 1022 < 1024 ∧ (∃ k, busy.setup.types[0]? = some k ∧ k ≠
      InputType.unfitted) ∧ DetInput.blank.count + 1 < busy.setup.window) ∧
    (busy.det[3]? = some DetInput.blank ∧ 1023 < 1024 ∧ (∃ k, busy.setup.types[3]? = some k ∧ k ≠
      InputType.unfitted) ∧ DetInput.blank.count + 1 < busy.setup.window) ∧
    ((sampling Grade.warn 2400).det[1]? = some (nearly Grade.warn 2400) ∧ (sampling Grade.warn
      2400).setup.types[1]? = some .smoke ∧ (InputType.smoke = .heat ∧
      busy.setup.smoke = (sampling Grade.warn 2400).setup.heat ∨ InputType.smoke = .smoke ∧
      busy.setup.smoke = (sampling Grade.warn 2400).setup.smoke) ∧ busy.setup.smoke.t1 <
      busy.setup.smoke.t2 ∧ busy.setup.smoke.t2 < busy.setup.smoke.t3 ∧ (sampling Grade.warn
      2400).setup.window = (nearly Grade.warn 2400).count + 1 ∧ (nearly Grade.warn 2400).faultSeen =
      false ∧ 0 < 1023) ∧
    ((sampling Grade.normal 9000).det[0]? = some (nearly Grade.normal 9000) ∧ (sampling Grade.normal
      9000).setup.types[0]? = some .heat ∧ (InputType.heat = .heat ∧ busy.setup.heat =
      (sampling Grade.normal 9000).setup.heat ∨ InputType.heat = .smoke ∧ busy.setup.heat =
      (sampling Grade.normal 9000).setup.smoke) ∧ busy.setup.heat.t1 < busy.setup.heat.t2 ∧
      busy.setup.heat.t2 < busy.setup.heat.t3 ∧ (sampling Grade.normal 9000).setup.window = (nearly
      Grade.normal 9000).count + 1 ∧ (nearly Grade.normal 9000).faultSeen = false ∧ 1022 < 1023) ∧
    ((sampling Grade.normal 9000).det[0]? = some (nearly Grade.normal 9000) ∧ (sampling Grade.normal
      9000).setup.types[0]? = some .heat ∧ (InputType.heat = .heat ∧ busy.setup.heat =
      (sampling Grade.normal 9000).setup.heat ∨ InputType.heat = .smoke ∧ busy.setup.heat =
      (sampling Grade.normal 9000).setup.smoke) ∧ busy.setup.heat.t1 < busy.setup.heat.t2 ∧
      busy.setup.heat.t2 < busy.setup.heat.t3 ∧ (sampling Grade.normal 9000).setup.window = (nearly
      Grade.normal 9000).count + 1 ∧ ((nearly Grade.normal 9000).faultSeen = true ∨ 1023 ≤ 1023)) := by
  and_intros <;> decide +kernel

theorem witness_StoreUpdateCompletes :
    (storing.store.queue = [update0]) ∧
    (answering.store.queue = [update0]) ∧
    (update0 ∈ storing.store.queue ∧ update0.start ≤ (sent refuse1 0).seq ∧ (sent refuse1 0).seq <
      update0.stop ∧ TxKey.reply ≠ .alarm) ∧
    (answering.bus.replies = [sent refuse1 0] ++ [posted 5 counters1] ∧ (∀ g ∈ [sent refuse1 0], ∃ u ∈
      answering.store.queue, u.start ≤ g.seq ∧ g.seq < u.stop) ∧ (∀ u ∈ answering.store.queue, u.start ≤
      (posted 5 counters1).seq ∧ u.stop ≤ (posted 5 counters1).seq ∧ ∀ (before : Image), contentReads
      before u (posted 5 counters1).frame.payload = false)) := by
  and_intros <;> first
    | decide +kernel
    | exact fun u hu => by obtain rfl := List.mem_singleton.mp hu; exact ⟨by decide, by decide, fun _ =>
        rfl⟩

theorem witness_DecayLowersDemand :
    (Passes joining toNode ∧ joining.bus.replies.length < 8 ∧ joining.fire.node = .joining ∧
      (setupOf rawSetup).heat.ascends = true ∧ (setupOf rawSetup).smoke.ascends = true) ∧
    (busy.startup.decayTimer.isSome = true) ∧
    (decayOff.startup.decayTimer = none) := by
  and_intros <;> decide +kernel

theorem witness_StatePeriodRuns :
    (Calm busy ∧ posts busy = true ∧ (∀ sh ∈ shutterIds, (shutter busy sh).state = .opened)
      ∧ (∀ sd ∈ sides, (view busy sd).takenOwed = none)) ∧
    (Calm chuteShut ∧ chuteShut.motion.power = true ∧ ((shutter chuteShut .chute).state =
      ShutterState.closed ∨ (shutter chuteShut .chute).state = .unknown)) := by
  and_intros <;> decide +kernel

theorem witness_NeighbourEntryFollows :
    ((nbr out20 .west).station.isSome = true ∧ (nbr out20 .west).present = true) ∧
    (accepts busy fromWest = true ∧ posts busy = true ∧ sideOfStation busy fromWest.src = some .west
      ∧ announce8.role < 2 ∧ announce8.zone = BitVec.toNat zone15) ∧
    (accepts busy fromEast = true ∧ posts busy = true ∧ sideOfStation busy fromEast.src = some .east
      ∧ state10.zone = BitVec.toNat zone0 ∧ nodeStateOf state10.nodeState = some .safe) := by
  and_intros <;> decide +kernel

theorem witness_FramesNotTaken :
    (hearingLifts busy passing.src = false) ∧
    (Passes busy toNode ∧ ((rawKind 0 []).kind = 0 ∨ 36 < (rawKind 0 []).kind ∨ ∃ p ∈ [(1, 37), (3, 0),
      (6, 0), (7, 3), (8, 7), (9, 7), (10, 7), (11, 7), (12, 4), (13, 0), (14, 1), (15, 0), (16, 3),
      (17, 2), (18, 2), (19, 8), (20, 10), (21, 5), (22, 1), (23, 5), (24, 9), (25, 6), (26, 3), (27,
      44), (28, 2), (29, 2), (30, 2), (31, 1), (32, 44), (33, 2), (34, 10), (35, 1)], (rawKind 0
      []).kind = p.1 ∧ (rawKind 0 []).payload.length ≠ p.2)) ∧
    (Passes busy toNode ∧ ((rawKind 37 []).kind = 0 ∨ 36 < (rawKind 37 []).kind ∨ ∃ p ∈ [(1, 37), (3,
      0), (6, 0), (7, 3), (8, 7), (9, 7), (10, 7), (11, 7), (12, 4), (13, 0), (14, 1), (15, 0), (16, 3),
      (17, 2), (18, 2), (19, 8), (20, 10), (21, 5), (22, 1), (23, 5), (24, 9), (25, 6), (26, 3), (27,
      44), (28, 2), (29, 2), (30, 2), (31, 1), (32, 44), (33, 2), (34, 10), (35, 1)], (rawKind 37
      []).kind = p.1 ∧ (rawKind 37 []).payload.length ≠ p.2)) ∧
    (Passes busy toNode ∧ ((rawKind 1 [1, 2]).kind = 0 ∨ 36 < (rawKind 1 [1, 2]).kind ∨ ∃ p ∈ [(1, 37),
      (3, 0), (6, 0), (7, 3), (8, 7), (9, 7), (10, 7), (11, 7), (12, 4), (13, 0), (14, 1), (15, 0), (16,
      3), (17, 2), (18, 2), (19, 8), (20, 10), (21, 5), (22, 1), (23, 5), (24, 9), (25, 6), (26, 3),
      (27, 44), (28, 2), (29, 2), (30, 2), (31, 1), (32, 44), (33, 2), (34, 10), (35, 1)], (rawKind 1
      [1, 2]).kind = p.1 ∧ (rawKind 1 [1, 2]).payload.length ≠ p.2)) ∧
    (Passes busy toAll ∧ ((∃ p ∈ [(21, 5), (23, 5), (24, 9), (34, 10)], (rawKind 21 [1, 2, 3, 4,
      5]).kind = p.1 ∧ (rawKind 21 [1, 2, 3, 4, 5]).payload.length = p.2) ∨ (rawKind 21 [1, 2, 3, 4,
      5]).kind = 22 ∧ ∃ b, (rawKind 21 [1, 2, 3, 4, 5]).payload = [b] ∧ b ≠ 17)) ∧
    (Passes busy toAll ∧ ((∃ p ∈ [(21, 5), (23, 5), (24, 9), (34, 10)], (rawKind 22 [4]).kind = p.1 ∧
      (rawKind 22 [4]).payload.length = p.2) ∨ (rawKind 22 [4]).kind = 22 ∧ ∃ b, (rawKind 22
      [4]).payload = [b] ∧ b ≠ 17)) ∧
    (Passes busy toNode ∧ toNode.dst = busy.board.station ∧ busy.bus.replies.length < 8 ∧ (rawKind 16
      [6, 0, 0]).kind = 16 ∧ (rawKind 16 [6, 0, 0]).payload = [6, 0, 0] ∧ 5 < (6 : Byte).toNat) ∧
    (Passes (fullReplies busy) toNode ∧ toNode.dst = (fullReplies busy).board.station ∧ 8 ≤ (fullReplies
      busy).bus.replies.length ∧ (Instr.queryCounters toNode = Instr.queryJobSummary toNode ∨
      Instr.queryCounters toNode = Instr.queryDetectors toNode ∨ Instr.queryCounters toNode =
      Instr.queryNeighbours toNode ∨ Instr.queryCounters toNode = Instr.queryCounters toNode ∨ (∃ b,
      Instr.queryCounters toNode = Instr.queryBinRecord toNode b) ∨ ∃ k, Instr.queryCounters toNode =
      Instr.queryColumn toNode k)) ∧
    (Calm busy ∧ Passes busy toNode ∧ sideOfStation busy toNode.src = none ∧ ((∃ b, Instr.slotClaim
      toNode 20 = Instr.slotClaim toNode b) ∨ (∃ b, Instr.slotClaim toNode 20 = Instr.slotGrant toNode
      b) ∨ (∃ r, Instr.slotClaim toNode 20 = Instr.slotRefuse toNode r) ∨ (∃ r, Instr.slotClaim toNode
      20 = Instr.slotLoaded toNode r) ∨ ∃ b, Instr.slotClaim toNode 20 = Instr.slotTaken toNode b)) := by
  and_intros <;> first
    | decide +kernel
    | simp

theorem witness_InventoryQueriesAnswered :
    (Passes busy toNode ∧ toNode.dst = busy.board.station ∧ busy.bus.replies.length < 8 ∧ 1 ≤ 65534 ∧
      65534 ≤ 65534) ∧
    (Passes busy toNode ∧ toNode.dst = busy.board.station ∧ busy.bus.replies.length < 8 ∧ 11 <
      columnCount busy ∧ 11 < 65280) ∧
    (Passes busy toNode ∧ toNode.dst = busy.board.station ∧ busy.bus.replies.length < 8 ∧ 31 < 32) := by
  and_intros <;> decide +kernel

theorem witness_ReadsThatClear :
    (Passes busy toNode ∧ toNode.dst = busy.board.station ∧ busy.bus.replies.length < 8) ∧
    (Passes busy { src := 10, dst := 9, tag := 77 : Header } ∧ { src := 10, dst := 9, tag := 77 : Header
      }.dst = busy.board.station ∧ busy.bus.replies.length < 8) := by
  and_intros <;> decide +kernel

theorem witness_LendRefillWithdraw :
    (ItemOpReady busy toNode away13 0 500 ∧ away13.body.slots[0]? = some itemIn ∧ itemIn.state =
      ItemState.inBin ∧ itemIn.item = 500) ∧
    (ItemOpReady busy toNode away13 1 600 ∧ away13.body.slots[1]? = some itemOut ∧ itemOut.state =
      ItemState.lentOut ∧ itemOut.item = 600) ∧
    (ItemOpReady busy toNode away13 1 600 ∧ away13.body.slots[1]? = some itemOut ∧ itemOut.state ≠
      ItemState.inBin) ∧
    (ItemOpReady busy toNode away13 7 600 ∧ away13.body.slots[7]? = some itemEmpty ∧ itemEmpty.state ≠
      ItemState.lentOut) ∧
    (ItemOpReady busy toNode away13 0 501 ∧ away13.body.slots[0]? = some itemIn ∧ itemIn.state =
      ItemState.inBin ∧ itemIn.item ≠ 501) ∧
    (ItemOpReady busy toNode away13 1 601 ∧ away13.body.slots[1]? = some itemOut ∧ itemOut.state =
      ItemState.lentOut ∧ itemOut.item ≠ 601) ∧
    (ItemOpReady busy toNode away13 2 700 ∧ away13.body.slots[2]? = some itemClash ∧ (itemClash.state =
      ItemState.inBin ∨ itemClash.state = .clash) ∧ itemClash.item = 700) ∧
    (ItemOpReady busy toNode away13 2 701 ∧ away13.body.slots[2]? = some itemClash ∧ (itemClash.state =
      ItemState.inBin ∨ itemClash.state = .clash) ∧ itemClash.item ≠ 701) ∧
    (ItemOpReady busy toNode away13 7 701 ∧ away13.body.slots[7]? = some itemEmpty ∧ (itemEmpty.state =
      ItemState.lentOut ∨ itemEmpty.state = .empty)) := by
  and_intros <;> decide +kernel

theorem witness_AccessionAddsANewItem :
    (ItemOpReady busy toNode away13 7 700 ∧ away13.body.slots[7]? = some itemEmpty ∧ itemEmpty.state =
      ItemState.empty ∧ (∀ q ∈ busy.inv.records, ∀ j ∈ q.body.slots, ¬((j.state = .inBin ∨
      j.state = .lentOut) ∧ j.item = 700))) ∧
    (ItemOpReady busy toNode away13 7 600 ∧ away13.body.slots[7]? = some itemEmpty ∧ itemEmpty.state =
      ItemState.empty ∧ (∃ q ∈ busy.inv.records, ∃ j ∈ q.body.slots, (j.state = .inBin ∨
      j.state = .lentOut) ∧ j.item = 600)) ∧
    (ItemOpReady busy toNode away13 2 800 ∧ away13.body.slots[2]? = some itemClash ∧ itemClash.state ≠
      ItemState.empty) := by
  and_intros <;> decide +kernel

theorem witness_ItemOpsRefusedInOrder :
    (Passes busy toAll ∧ (Instr.lend toAll 99 0 5 = Instr.lend toAll 99 0 5 ∨ Instr.lend toAll 99 0 5 =
      Instr.refill toAll 99 0 5 ∨ Instr.lend toAll 99 0 5 = Instr.withdraw toAll 99 0 5 ∨ Instr.lend
      toAll 99 0 5 = Instr.accession toAll 99 0 5) ∧ (recordOf busy 99 = none ∨ isBinId 99 = false)) ∧
    (Passes busy toAll ∧ (Instr.refill toAll 65535 0 5 = Instr.lend toAll 65535 0 5 ∨ Instr.refill toAll
      65535 0 5 = Instr.refill toAll 65535 0 5 ∨ Instr.refill toAll 65535 0 5 = Instr.withdraw toAll
      65535 0 5 ∨ Instr.refill toAll 65535 0 5 = Instr.accession toAll 65535 0 5) ∧ (recordOf busy 65535
      = none ∨ isBinId 65535 = false)) ∧
    (Passes busy toAll ∧ (Instr.lend toAll 13 8 5 = Instr.lend toAll 13 8 5 ∨ Instr.lend toAll 13 8 5 =
      Instr.refill toAll 13 8 5 ∨ Instr.lend toAll 13 8 5 = Instr.withdraw toAll 13 8 5 ∨ Instr.lend
      toAll 13 8 5 = Instr.accession toAll 13 8 5) ∧ recordOf busy 13 = some away13 ∧ isBinId 13 = true
      ∧ busy.bus.replies.length < 8 ∧ (7 < 8 ∨ 5 = 0)) ∧
    (Passes surveying toAll ∧ (Instr.withdraw toAll 13 7 1 = Instr.lend toAll 13 7 1 ∨ Instr.withdraw
      toAll 13 7 1 = Instr.refill toAll 13 7 1 ∨ Instr.withdraw toAll 13 7 1 = Instr.withdraw toAll 13 7
      1 ∨ Instr.withdraw toAll 13 7 1 = Instr.accession toAll 13 7 1) ∧ recordOf surveying 13 = some
      away13 ∧ isBinId 13 = true ∧ surveying.bus.replies.length < 8 ∧ 7 ≤ 7 ∧ 1 ≠ 0 ∧ notReady surveying
      = true) ∧
    (Passes busy toAll ∧ (Instr.accession toAll 12 7 1 = Instr.lend toAll 12 7 1 ∨ Instr.accession toAll
      12 7 1 = Instr.refill toAll 12 7 1 ∨ Instr.accession toAll 12 7 1 = Instr.withdraw toAll 12 7 1 ∨
      Instr.accession toAll 12 7 1 = Instr.accession toAll 12 7 1) ∧ recordOf busy 12 = some (rec 12 0
      (Residence.resident 1 0)) ∧ isBinId 12 = true ∧ busy.bus.replies.length < 8 ∧ 7 ≤ 7 ∧ 1 ≠ 0 ∧
      notReady busy = false ∧ (rec 12 0 (Residence.resident 1 0)).residence ≠ .away) := by
  and_intros <;> decide +kernel

theorem witness_ReturnQueryFindsTheLoan :
    (Passes busy toAll ∧ 600 ≠ 0 ∧ (∃ r ∈ busy.inv.records, ∃ k ∈ r.body.slots, k.state =
      ItemState.lentOut ∧ k.item = 600) ∧ busy.bus.replies.length < 8) ∧
    (Passes busy toAll ∧ 500 ≠ 0 ∧ (∀ r ∈ busy.inv.records, ∀ k ∈ r.body.slots, ¬(k.state =
      ItemState.lentOut ∧ k.item = 500))) := by
  and_intros <;> decide +kernel

theorem witness_SetupTakenOrRefused :
    (Passes busy toNode ∧ busy.bus.replies.length < 8 ∧ busy.fire.node ≠ .joining) ∧
    (Passes joining toNode ∧ joining.bus.replies.length < 8 ∧ joining.fire.node = .joining ∧
      ((setupOf badSetup).heat.ascends = false ∨ (setupOf badSetup).smoke.ascends = false)) ∧
    (Passes joining toNode ∧ joining.bus.replies.length < 8 ∧ joining.fire.node = .joining ∧
      FireLaw joining ∧ (setupOf rawSetup).heat.ascends = true ∧ (setupOf rawSetup).smoke.ascends =
      true) := by
  and_intros <;> decide +kernel

theorem witness_ColumnLoadTakenOrRefused :
    (Passes busy toNode ∧ TablesSized busy ∧ busy.bus.replies.length < 8 ∧ busy.fire.node ∈
      [NodeState.survey, NodeState.joining, NodeState.run, NodeState.guarded, NodeState.safe] ∧
      loadRefusal busy 1 [13, 20].length [13, 20] = none) ∧
    (Passes (inNode .homing busy) toNode ∧ (inNode .homing busy).bus.replies.length <
      8 ∧ (inNode .homing busy).fire.node = .homing) ∧
    (Passes (inNode .resuming busy) toNode ∧ (inNode .resuming
      busy).bus.replies.length < 8 ∧ (inNode .resuming busy).fire.node = .resuming) ∧
    (Passes stopped toNode ∧ stopped.bus.replies.length < 8 ∧ stopped.fire.node = .shutdown) ∧
    (Passes busy toNode ∧ busy.bus.replies.length < 8 ∧ busy.fire.node ∈ [NodeState.survey,
      NodeState.joining, NodeState.run, NodeState.guarded, NodeState.safe] ∧ LoadRefused busy 12 2 [1,
      2] RefuseReason.malformed) ∧
    (Passes busy toNode ∧ busy.bus.replies.length < 8 ∧ busy.fire.node ∈ [NodeState.survey,
      NodeState.joining, NodeState.run, NodeState.guarded, NodeState.safe] ∧ LoadRefused busy 11 1
      [65535] RefuseReason.malformed) ∧
    (Passes busy toNode ∧ busy.bus.replies.length < 8 ∧ busy.fire.node ∈ [NodeState.survey,
      NodeState.joining, NodeState.run, NodeState.guarded, NodeState.safe] ∧ LoadRefused busy 11 1 [10]
      RefuseReason.malformed) ∧
    (Passes busy toNode ∧ busy.bus.replies.length < 8 ∧ busy.fire.node ∈ [NodeState.survey,
      NodeState.joining, NodeState.run, NodeState.guarded, NodeState.safe] ∧ LoadRefused busy 11 1 [14]
      RefuseReason.binMoving) ∧
    (Passes overflowing toNode ∧ overflowing.bus.replies.length < 8 ∧ overflowing.fire.node ∈
      [NodeState.survey, NodeState.joining, NodeState.run, NodeState.guarded, NodeState.safe] ∧
      LoadRefused overflowing 11 1 [13] RefuseReason.binMoving) ∧
    (Passes busy toNode ∧ busy.bus.replies.length < 8 ∧ busy.fire.node ∈ [NodeState.survey,
      NodeState.joining, NodeState.run, NodeState.guarded, NodeState.safe] ∧ LoadRefused busy 0 1 [10]
      RefuseReason.binBusy) ∧
    (Passes (offering none) toNode ∧ (offering none).bus.replies.length < 8 ∧ (offering none).fire.node
      ∈ [NodeState.survey, NodeState.joining, NodeState.run, NodeState.guarded, NodeState.safe] ∧
      LoadRefused (offering none) 3 1 [13] RefuseReason.binBusy) ∧
    (Passes landing toNode ∧ landing.bus.replies.length < 8 ∧ landing.fire.node ∈ [NodeState.survey,
      NodeState.joining, NodeState.run, NodeState.guarded, NodeState.safe] ∧ LoadRefused landing 2 1
      [13] RefuseReason.binBusy) ∧
    (Passes fullAway toNode ∧ fullAway.bus.replies.length < 8 ∧ fullAway.fire.node ∈ [NodeState.survey,
      NodeState.joining, NodeState.run, NodeState.guarded, NodeState.safe] ∧ LoadRefused fullAway 1 0 []
      RefuseReason.tableFull) := by
  and_intros <;> first
    | decide +kernel
    | exact .inl ⟨rfl, .inl (by decide +kernel)⟩
    | exact .inl ⟨rfl, .inr ⟨10, by decide +kernel, 0, 0, by decide +kernel⟩⟩
    | exact .inr ⟨by decide +kernel, loads_elsewhere (by decide +kernel), .inl ⟨rfl, 14, by decide, .inr
        (.inr (.inr (.inr (.inr (.inr ⟨5, by decide +kernel⟩)))))⟩⟩
    | exact .inr ⟨by decide +kernel, loads_elsewhere (by decide +kernel), .inl ⟨rfl, 13, by decide, .inl
        (by decide +kernel)⟩⟩
    | exact .inr ⟨by decide +kernel, loads_elsewhere (by decide +kernel), .inr ⟨loads_still
        (by decide +kernel), .inl ⟨rfl, by decide +kernel⟩⟩⟩
    | exact .inr ⟨by decide +kernel, loads_elsewhere (by decide +kernel), .inr ⟨loads_still
        (by decide +kernel), .inr (by decide +kernel)⟩⟩

theorem witness_LoadEndEntersJoining :
    (Passes (inNode .homing busy) toNode ∧ toNode.dst = (inNode .homing
      busy).board.station ∧ (inNode .homing busy).bus.replies.length < 8 ∧ ((inNode
      NodeState.homing busy).fire.node = .homing ∨ (inNode .homing busy).fire.node =
      NodeState.resuming)) ∧
    (Passes (inNode .resuming busy) toNode ∧ toNode.dst = (inNode .resuming
      busy).board.station ∧ (inNode .resuming busy).bus.replies.length < 8 ∧ ((inNode
      NodeState.resuming busy).fire.node = .homing ∨ (inNode .resuming busy).fire.node
      = .resuming)) ∧
    (Passes stopped toNode ∧ toNode.dst = stopped.board.station ∧ stopped.bus.replies.length < 8 ∧
      stopped.fire.node = .shutdown) ∧
    (Passes joining toNode ∧ toNode.dst = joining.board.station ∧ joining.bus.replies.length < 8 ∧
      joining.fire.node ∈ [NodeState.joining, NodeState.run, NodeState.guarded, NodeState.safe]) ∧
    (Passes surveying toAll ∧ toAll.dst = 0) ∧
    (Passes surveying toNode ∧ toNode.dst = surveying.board.station ∧ surveying.bus.replies.length < 8 ∧
      surveying.fire.node = .survey) := by
  and_intros <;> decide +kernel

theorem witness_SurveyRecordStored :
    ((rec 20 0 Residence.away).body.slots[1]? = some itemOut) ∧
    (Passes surveying toNode ∧ surveying.bus.replies.length < 8 ∧ surveying.fire.node = .survey
      ∧ recordInRange (raw 0) = false) ∧
    (Passes surveying toNode ∧ surveying.bus.replies.length < 8 ∧ surveying.fire.node = .survey
      ∧ recordInRange (raw 14) = true ∧ (surveying.inv.overflow = some (raw 14).bin ∨ ∃ p, residenceOf
      surveying (raw 14).bin = some p ∧ p ≠ .away ∧ ∀ (c i : Nat), p ≠ .resident c i)) ∧
    (Passes (inNode .survey overflowing) toNode ∧ (inNode .survey
      overflowing).bus.replies.length < 8 ∧ (inNode .survey overflowing).fire.node =
      NodeState.survey ∧ recordInRange (raw 13) = true ∧ ((inNode .survey
      overflowing).inv.overflow = some (raw 13).bin ∨ ∃ p, residenceOf (inNode .survey
      overflowing) (raw 13).bin = some p ∧ p ≠ .away ∧ ∀ (c i : Nat), p ≠ .resident c
      i)) ∧
    (Passes (inNode .survey fullAway) toNode ∧ (inNode .survey
      fullAway).bus.replies.length < 8 ∧ (inNode .survey fullAway).fire.node = .survey
      ∧ recordInRange (raw 20) = true ∧ (inNode .survey fullAway).inv.overflow ≠ some (raw
      20).bin ∧ recordOf (inNode .survey fullAway) (raw 20).bin = none ∧ findBin (inNode
      NodeState.survey fullAway) (raw 20).bin = none ∧ 32 ≤ awayTotal (inNode .survey
      fullAway)) ∧
    (Passes surveying toNode ∧ surveying.bus.replies.length < 8 ∧ surveying.fire.node = .survey
      ∧ recordInRange (raw 13) = true ∧ surveying.inv.overflow ≠ some (raw 13).bin ∧ residenceOf
      surveying (raw 13).bin = some .away ∧ (Residence.away = .away ∨ ∃ c i,
      Residence.away = .resident c i)) ∧
    (Passes surveying toNode ∧ surveying.bus.replies.length < 8 ∧ surveying.fire.node = .survey
      ∧ recordInRange (raw 11) = true ∧ surveying.inv.overflow ≠ some (raw 11).bin ∧ residenceOf
      surveying (raw 11).bin = some (.resident 0 1) ∧ (Residence.resident 0 1 = .away
      ∨ ∃ c i, Residence.resident 0 1 = .resident c i)) ∧
    (Passes (inNode .survey unrecorded) toNode ∧ (inNode .survey
      unrecorded).bus.replies.length < 8 ∧ (inNode .survey unrecorded).fire.node =
      NodeState.survey ∧ recordInRange (raw 30) = true ∧ (inNode .survey
      unrecorded).inv.overflow ≠ some (raw 30).bin ∧ recordOf (inNode .survey unrecorded) (raw
      30).bin = none ∧ findBin (inNode .survey unrecorded) (raw 30).bin = some (2, 0)) ∧
    (Passes surveying toNode ∧ surveying.bus.replies.length < 8 ∧ surveying.fire.node = .survey
      ∧ recordInRange (raw 20) = true ∧ surveying.inv.overflow ≠ some (raw 20).bin ∧ recordOf surveying
      (raw 20).bin = none ∧ findBin surveying (raw 20).bin = none ∧ awayTotal surveying < 32) := by
  and_intros <;> first
    | decide +kernel
    | exact .inr ⟨.handing 5, by decide +kernel, by simp, by simp⟩
    | exact .inl (by decide +kernel)
    | simp

theorem witness_JobRequestsJudged :
    (Calm busy ∧ Passes busy toAll ∧ TablesSized busy ∧ busy.bus.replies.length < 8 ∧ fetchClassOf 0 =
      some .loanFetch ∧ badFetchList [99, 12, 11].length [99, 12, 11] = false ∧ heldBins busy
      [99, 12, 11] ≠ [] ∧ claimRefusal busy (fetchRequest busy JobClass.loanFetch 3 [99, 12, 11]) = none
      ∧ freeCtx? busy = some 1) ∧
    ((inNode .guarded busy).fire.node = .guarded ∧ (inNode .guarded
      busy).motion.held = none ∧ Passes (inNode .guarded busy) toAll ∧ TablesSized (inNode
      NodeState.guarded busy) ∧ (inNode .guarded busy).bus.replies.length < 8 ∧ fetchClassOf 0
      = some .loanFetch ∧ badFetchList [12].length [12] = false ∧ heldBins (inNode
      NodeState.guarded busy) [12] ≠ [] ∧ claimRefusal (inNode .guarded busy) (fetchRequest
      (inNode .guarded busy) JobClass.loanFetch 3 [12]) = none ∧ freeCtx? (inNode
      NodeState.guarded busy) = some 1) ∧
    (Calm busy ∧ Passes busy toAll ∧ TablesSized busy ∧ busy.bus.replies.length < 8 ∧ heldBins busy [12]
      = [12] ∧ claimRefusal busy (verifyRequest busy 4 [12]) = none ∧ freeCtx? busy = some 1) ∧
    (idleBay.fire.node = .run ∧ idleBay.motion.gantry = .idle ∧ idleBay.motion.held
      = none ∧ idleBay.motion.putAway = none ∧ idleBay.motion.recovery = false ∧ idleBay.inv.overflow =
      none ∧ (∀ sd ∈ sides, (view idleBay sd).fireClosed = false) ∧ activeCtx? idleBay = none ∧ (∀ l ∈
      idleBay.sched.ready, l = []) ∧ idleBay.sched.stepEnded = none ∧ (∀ u ∈ idleBay.store.queue,
      u.stepCtx ≠ some 0) ∧ TablesSized idleBay ∧ Passes idleBay toAll ∧ idleBay.bus.replies.length < 8
      ∧ idleBay.setup.verify ≤ 10 ∧ heldBins idleBay [12] = [12] ∧ claimRefusal idleBay (verifyRequest
      idleBay 4 [12]) = none ∧ freeCtx? idleBay = some 0 ∧ residenceOf idleBay 12 = some
      (Residence.resident 1 0) ∧ depthOf idleBay 1 0 = 0 ∧ (∀ m ∈ ctxNumbers, (ctxOf idleBay m).lock ≠
      some 1)) ∧
    (Passes busy toAll ∧ fetchClassOf 0 = some .loanFetch ∧ badFetchList [99, 98].length [99,
      98] = false ∧ heldBins busy [99, 98] = []) ∧
    (Passes surveying toAll ∧ fetchClassOf 0 = some .loanFetch ∧ badFetchList [10].length [10] =
      false ∧ heldBins surveying [10] ≠ [] ∧ surveying.bus.replies.length < 8 ∧ RequestRefused surveying
      (fetchRequest surveying JobClass.loanFetch 3 [10]) RefuseReason.notReady) ∧
    (Passes stopped toAll ∧ fetchClassOf 0 = some .loanFetch ∧ badFetchList [10].length [10] =
      false ∧ heldBins stopped [10] ≠ [] ∧ stopped.bus.replies.length < 8 ∧ RequestRefused stopped
      (fetchRequest stopped JobClass.loanFetch 3 [10]) RefuseReason.fire) ∧
    (Passes unset toAll ∧ fetchClassOf 0 = some .loanFetch ∧ badFetchList [10].length [10] =
      false ∧ heldBins unset [10] ≠ [] ∧ unset.bus.replies.length < 8 ∧ RequestRefused unset
      (fetchRequest unset JobClass.loanFetch 3 [10]) RefuseReason.classOff) ∧
    (Passes (ctxsFull busy) toAll ∧ fetchClassOf 0 = some .loanFetch ∧ badFetchList [10].length
      [10] = false ∧ heldBins (ctxsFull busy) [10] ≠ [] ∧ (ctxsFull busy).bus.replies.length < 8 ∧
      RequestRefused (ctxsFull busy) (fetchRequest (ctxsFull busy) JobClass.loanFetch 3 [10])
      RefuseReason.tableFull) ∧
    (Passes busy toAll ∧ fetchClassOf 0 = some .loanFetch ∧ badFetchList [13].length [13] =
      false ∧ heldBins busy [13] ≠ [] ∧ busy.bus.replies.length < 8 ∧ RequestRefused busy (fetchRequest
      busy JobClass.loanFetch 3 [13]) RefuseReason.binAway) ∧
    (Passes busy toAll ∧ fetchClassOf 0 = some .loanFetch ∧ badFetchList [14].length [14] =
      false ∧ heldBins busy [14] ≠ [] ∧ busy.bus.replies.length < 8 ∧ RequestRefused busy (fetchRequest
      busy JobClass.loanFetch 3 [14]) RefuseReason.binMoving) ∧
    (Passes busy toAll ∧ fetchClassOf 0 = some .loanFetch ∧ badFetchList [10].length [10] =
      false ∧ heldBins busy [10] ≠ [] ∧ busy.bus.replies.length < 8 ∧ RequestRefused busy (fetchRequest
      busy JobClass.loanFetch 3 [10]) RefuseReason.binBusy) ∧
    (Passes suspect1 toAll ∧ fetchClassOf 0 = some .loanFetch ∧ badFetchList [12].length [12] =
      false ∧ heldBins suspect1 [12] ≠ [] ∧ suspect1.bus.replies.length < 8 ∧ RequestRefused suspect1
      (fetchRequest suspect1 JobClass.loanFetch 3 [12]) RefuseReason.columnSuspect) ∧
    (Passes busy toAll ∧ heldBins busy [13] = [13] ∧ busy.bus.replies.length < 8 ∧ RequestRefused busy
      (verifyRequest busy 4 [13]) RefuseReason.binAway) ∧
    (Passes surveying toAll ∧ heldBins surveying [12] = [12] ∧ surveying.bus.replies.length < 8 ∧
      RequestRefused surveying (verifyRequest surveying 4 [12]) RefuseReason.notReady) ∧
    (Passes busy toNode ∧ busy.bus.replies.length < 8 ∧ (toNode.dst = busy.board.station ∨ heldBins busy
      [] ≠ []) ∧ jobClassOf 0 = some .loanFetch ∧ (2 < 0 ∨ 0 ≠ ([] : List BinId).length ∨ ([] :
      List BinId) = [] ∨ 4 < ([] : List BinId).length ∨ (∃ b ∈ ([] : List BinId), b = 0 ∨ 65534 < b) ∨
      ¬([] : List BinId).Nodup)) ∧
    (Passes busy toAll ∧ busy.bus.replies.length < 8 ∧ (toAll.dst = busy.board.station ∨ heldBins busy
      [12, 12] ≠ []) ∧ jobClassOf 1 = some .staffFetch ∧ (2 < 1 ∨ 2 ≠ [12, 12].length ∨ [12, 12]
      = [] ∨ 4 < [12, 12].length ∨ (∃ b ∈ [12, 12], b = 0 ∨ 65534 < b) ∨ ¬[12, 12].Nodup)) ∧
    (Passes busy toNode ∧ busy.bus.replies.length < 8 ∧ (toNode.dst = busy.board.station ∨ heldBins busy
      [12, 12] ≠ []) ∧ (2 ≠ [12, 12].length ∨ [12, 12].length ≠ 1 ∨ ∃ b ∈ [12, 12], b = 0 ∨ 65534 < b)) := by
  and_intros <;> first
    | decide +kernel
    | exact .inl ⟨rfl, by decide +kernel⟩
    | exact .inr ⟨by decide +kernel, .inl ⟨rfl, by decide +kernel⟩⟩
    | exact .inr ⟨by decide +kernel, .inr ⟨by decide +kernel, by decide +kernel, .inl ⟨rfl,
        by decide +kernel⟩⟩⟩
    | exact .inr ⟨by decide +kernel, .inr ⟨by decide +kernel, by decide +kernel, .inr
        ⟨by decide +kernel, .inl ⟨rfl, by decide +kernel⟩⟩⟩⟩
    | exact judged_by_bin 13 (by decide +kernel) (.inl ⟨rfl, .inl (by decide +kernel)⟩)
    | exact judged_by_bin 14 (by decide +kernel) (.inr (.inl ⟨rfl, .inr (.inr ⟨5, by decide +kernel⟩)⟩))
    | exact judged_by_bin 10 (by decide +kernel) (.inr (.inr ⟨0, 0, by decide +kernel, .inl ⟨rfl,
        by decide +kernel⟩⟩))
    | exact judged_by_bin 12 (by decide +kernel) (.inr (.inr ⟨1, 0, by decide +kernel, .inr ⟨rfl,
        by decide +kernel, by decide +kernel⟩⟩))

theorem witness_CancelHaltsTheJob :
    (Calm held ∧ Passes held (tagged 78 toAll) ∧ TablesSized held ∧ List.filter (fun m => cancelMatches
      (tagged 78 toAll) (ctxOf held m)) ctxNumbers = [15] ∧ held.sched.doneQ.length < 8 ∧ ((ctxOf held
      15).state = .ready ∨ (ctxOf held 15).state = .stalled)) ∧
    (Calm busy ∧ Passes busy toAll ∧ TablesSized busy ∧ List.filter (fun m => cancelMatches toAll (ctxOf
      busy m)) ctxNumbers = [0] ∧ busy.sched.doneQ.length < 8 ∧ (ctxOf busy 0).state = .active) ∧
    (Passes (pausing .paused) (tagged 78 toAll) ∧ TablesSized (pausing .paused) ∧
      (pausing .paused).motion.held = none ∧ ((pausing .paused).fire.node ∈
      [NodeState.guarded, NodeState.shutdown, NodeState.safe] ∨ (pausing .paused).fire.node =
      NodeState.resuming ∧ (pausing .paused).fire.opening = false) ∧ List.filter (fun m =>
      cancelMatches (tagged 78 toAll) (ctxOf (pausing .paused) m)) ctxNumbers = [5] ∧ (pausing
      CtxState.paused).sched.doneQ.length < 8 ∧ (ctxOf (pausing .paused) 5).state =
      CtxState.paused ∧ (∀ (x : Xfer), (pausing .paused).motion.xfer = some x → ¬(x.setDown =
      true ∧ x.owner = some 5))) ∧
    (Passes stopping toAll ∧ TablesSized stopping ∧ stopping.motion.held = none ∧ (stopping.fire.node ∈
      [NodeState.guarded, NodeState.shutdown, NodeState.safe] ∨ stopping.fire.node = .resuming
      ∧ stopping.fire.opening = false) ∧ List.filter (fun m => cancelMatches toAll (ctxOf stopping m))
      ctxNumbers = [0] ∧ stopping.sched.doneQ.length < 8 ∧ (ctxOf stopping 0).state = .paused ∧
      stopping.motion.xfer = some abXfer ∧ abXfer.setDown = true ∧ abXfer.owner = some 0) ∧
    (Passes (inNode .guarded (finishing [4])) (tagged 78 toAll) ∧ TablesSized (inNode
      NodeState.guarded (finishing [4])) ∧ (inNode .guarded (finishing [4])).motion.held = none
      ∧ ((inNode .guarded (finishing [4])).fire.node ∈ [NodeState.guarded, NodeState.shutdown,
      NodeState.safe] ∨ (inNode .guarded (finishing [4])).fire.node = .resuming ∧
      (inNode .guarded (finishing [4])).fire.opening = false) ∧ List.filter (fun m =>
      cancelMatches (tagged 78 toAll) (ctxOf (inNode .guarded (finishing [4])) m)) ctxNumbers =
      [4] ∧ (inNode .guarded (finishing [4])).sched.doneQ.length < 8 ∧ (ctxOf (inNode
      NodeState.guarded (finishing [4])) 4).state = .ending) := by
  and_intros <;> decide +kernel

theorem witness_ScorerPicksLowest :
    choose busy 2 Pos.chute none none = some (11, score busy 2 Pos.chute 11) := by decide +kernel

theorem witness_PickPopsTheColumn :
    (Calm busy ∧ TablesSized busy ∧ 0 < 16 ∧ busy.motion.gantry = .movingEmpty ∧
      busy.motion.xfer = some digXfer ∧ digXfer.owner = some 0 ∧ digXfer.src = .column 0 ∧
      digXfer.setDown = false ∧ 0 < busy.inv.columns.length ∧ (column busy 0).bins = [10] ++ [11] ∧
      recordOf busy 11 = some (rec 11 2 (Residence.resident 0 1))) ∧
    (Calm fetchingIn ∧ TablesSized fetchingIn ∧ 0 < 16 ∧ fetchingIn.motion.gantry =
      GantryState.movingEmpty ∧ fetchingIn.motion.xfer = some chuteXfer ∧ chuteXfer.owner = some 0 ∧
      chuteXfer.src = .chute ∧ chuteXfer.setDown = false ∧ chuteRecord fetchingIn Direction.inward =
      some (rec 20 0 (Residence.atChute Direction.inward)) ∧ recordOf fetchingIn (rec 20 0
      (Residence.atChute Direction.inward)).body.bin = some (rec 20 0 (Residence.atChute
      Direction.inward))) ∧
    (Calm takingIn ∧ TablesSized takingIn ∧ 0 < 16 ∧ takingIn.motion.gantry = .movingEmpty ∧
      takingIn.motion.xfer = some westXfer ∧ westXfer.owner = some 0 ∧ westXfer.src = .slot Side.west
      ∧ westXfer.setDown = false ∧ (view takingIn .west).pend = none ∧ (view takingIn
      Side.west).raced = none ∧ ((∃ r, (ctxOf takingIn 0).carried = some (.foreign r) ∧ r.bin =
      40) ∨ (ctxOf takingIn 0).carried = some (.own 40) ∧ ∃ q, recordAt takingIn
      (Residence.inSlot Side.west) = some q ∧ q.body.bin = 40 ∧ recordOf takingIn 40 = some q)) ∧
    (Calm takingBack ∧ TablesSized takingBack ∧ 0 < 16 ∧ takingBack.motion.gantry =
      GantryState.movingEmpty ∧ takingBack.motion.xfer = some westXfer ∧ westXfer.owner = some 0 ∧
      westXfer.src = .slot Side.west ∧ westXfer.setDown = false ∧ (view takingBack .west).pend =
      none ∧ (view takingBack .west).raced = none ∧ ((∃ r, (ctxOf takingBack 0).carried = some
      (Carried.foreign r) ∧ r.bin = 20) ∨ (ctxOf takingBack 0).carried = some (.own 20) ∧ ∃ q,
      recordAt takingBack (Residence.inSlot Side.west) = some q ∧ q.body.bin = 20 ∧ recordOf takingBack
      20 = some q)) := by
  and_intros <;> first
    | decide +kernel
    | exact .inl ⟨(rec 40 3 .away).body, by decide +kernel, rfl⟩
    | exact .inr ⟨by decide +kernel, rec 20 0 (.inSlot .west), by decide +kernel, by decide +kernel,
        by decide +kernel⟩

theorem witness_PlacedEndsTheCarry :
    (loaded.fire.node ≠ .resuming ∧ loaded.motion.gantry = .loaded ∧
      loaded.motion.xfer = some digXfer ∧ (digXfer.dst = .column 2 ∨ digXfer.retarget = some
      (Pos.column 2)) ∧ 2 < loaded.inv.columns.length ∧ inHand loaded = some inHand15) ∧
    (loaded.fire.node ≠ .resuming ∧ loaded.motion.gantry = .loaded ∧
      loaded.motion.xfer = some digXfer ∧ digXfer.dst = .column 2 ∧ inHand loaded = some inHand15 ∧
      recordOf loaded inHand15.body.bin = some inHand15) ∧
    (delivering.fire.node ≠ .resuming ∧ delivering.motion.gantry = .loaded ∧
      delivering.motion.xfer = some delXfer ∧ delXfer.owner = some 0 ∧ delXfer.dst = .chute ∧
      delivering.motion.chute = .empty ∧ inHand delivering = some inHand15 ∧ recordOf
      delivering inHand15.body.bin = some inHand15) ∧
    (TablesSized (spilling dig15 NodeState.guarded) ∧ 0 < 16 ∧ (spilling dig15
      NodeState.guarded).motion.gantry = .loaded ∧ (spilling dig15
      NodeState.guarded).motion.xfer = some toWestXfer ∧ (spilling dig15 NodeState.guarded).motion.held
      = none ∧ toWestXfer.owner = some 0 ∧ (toWestXfer.dst = .slot Side.west ∨ toWestXfer.retarget =
      some (.slot Side.west)) ∧ inHand (spilling dig15 NodeState.guarded) = some inHand15 ∧ recordOf
      (spilling dig15 NodeState.guarded) inHand15.body.bin = some inHand15 ∧ recordAt (spilling dig15
      NodeState.guarded) (Residence.inSlot Side.west) = none ∧ (view (spilling dig15 NodeState.guarded)
      Side.west).pend = none ∧ ((spilling dig15 NodeState.guarded).fire.node = .guarded ∨
      (spilling dig15 NodeState.guarded).fire.node = .run ∧ ((ctxOf (spilling dig15
      NodeState.guarded) 0).kind = .stow ∨ (ctxOf (spilling dig15 NodeState.guarded) 0).kind =
      JobKind.spill) ∧ (∀ l ∈ (spilling dig15 NodeState.guarded).sched.ready, l = []) ∧ ∀ m ∈
      ctxNumbers, (ctxOf (spilling dig15 NodeState.guarded) m).state ≠ .stalled)) ∧
    (TablesSized (spilling put15 NodeState.run) ∧ 0 < 16 ∧ (spilling put15 NodeState.run).motion.gantry
      = .loaded ∧ (spilling put15 NodeState.run).motion.xfer = some toWestXfer ∧ (spilling
      put15 NodeState.run).motion.held = none ∧ toWestXfer.owner = some 0 ∧ (toWestXfer.dst = .slot
      Side.west ∨ toWestXfer.retarget = some (.slot Side.west)) ∧ inHand (spilling put15
      NodeState.run) = some inHand15 ∧ recordOf (spilling put15 NodeState.run) inHand15.body.bin = some
      inHand15 ∧ recordAt (spilling put15 NodeState.run) (Residence.inSlot Side.west) = none ∧ (view
      (spilling put15 NodeState.run) Side.west).pend = none ∧ ((spilling put15 NodeState.run).fire.node
      = .guarded ∨ (spilling put15 NodeState.run).fire.node = .run ∧ ((ctxOf (spilling
      put15 NodeState.run) 0).kind = .stow ∨ (ctxOf (spilling put15 NodeState.run) 0).kind =
      JobKind.spill) ∧ (∀ l ∈ (spilling put15 NodeState.run).sched.ready, l = []) ∧ ∀ m ∈ ctxNumbers,
      (ctxOf (spilling put15 NodeState.run) m).state ≠ .stalled)) ∧
    (TablesSized outranked ∧ 0 < 16 ∧ 1 < 16 ∧ outranked.fire.node = .run ∧ (∀ sd ∈ sides,
      (view outranked sd).fireClosed = false) ∧ outranked.inv.overflow = none ∧ outranked.motion.gantry
      = .loaded ∧ outranked.motion.xfer = some digXfer ∧ outranked.motion.held = none ∧
      outranked.motion.putAway = none ∧ outranked.motion.recovery = false ∧ digXfer.owner = some 0 ∧
      digXfer.dst = .column 2 ∧ inHand outranked = some inHand15 ∧ (ctxOf outranked 0).kind =
      JobKind.fetch ∧ (ctxOf outranked 0).state = .active ∧ Option.map (fun x => x.kind) (ctxOf
      outranked 0).step = some .dig ∧ (ctxOf outranked 0).halt = false ∧ (ctxOf outranked
      0).restoring = false ∧ (∃ j ∈ (ctxOf outranked 0).targets, j.status = TargetStatus.waiting) ∧ 1 ≤
      (ctxOf outranked 0).level ∧ (ctxOf outranked 0).level < (ctxOf outranked 1).level ∧ (ctxOf
      outranked 1).level ≤ 10 ∧ (∀ j ∈ ctxNumbers, (ctxOf outranked j).state = .active → j = 0)
      ∧ (∀ j ∈ ctxNumbers, (ctxOf outranked j).state ≠ .stalled) ∧ (ctxOf outranked 1).state =
      CtxState.ready ∧ (readyList outranked (ctxOf outranked 1).level).head? = some 1 ∧ (∀ (j : Nat),
      (ctxOf outranked 1).level < j → j ≤ 10 → readyList outranked j = []) ∧ (∀ l ∈
      outranked.sched.ready, 0 ∉ l) ∧ (ctxOf outranked 1).kind = .stow ∧ (ctxOf outranked
      1).carried = some (.own 20) ∧ outranked.motion.chute ≠ .blocked ∧ (∀ sd ∈ sides,
      (view outranked sd).ctx ≠ some 1) ∧ (∀ u ∈ outranked.store.queue, u.stepCtx ≠ some 1) ∧ 3 <
      columnCount outranked ∧ 3 ≠ 2 ∧ eligible outranked (some 1) none 3 = true) := by
  and_intros <;> first
    | decide +kernel
    | exact levels_above

theorem witness_ReportedColumnsAreMarked :
    (busy.fire.node ≠ .resuming ∧ busy.motion.gantry = .movingEmpty ∧
      busy.motion.xfer = some digXfer ∧ digXfer.owner = some 0 ∧ (ctxOf busy 0).state ≠ .free ∧
      digXfer.src = .column 0 ∧ 0 < busy.inv.columns.length) ∧
    (Calm loaded ∧ loaded.motion.gantry = .loaded ∧ loaded.motion.xfer = some digXfer ∧
      digXfer.owner = some 0 ∧ digXfer.setDown = false ∧ Option.map (fun x => x.kind) (ctxOf loaded
      0).step ≠ some .restore ∧ (ctxOf loaded 0).state = .active ∧ digXfer.retarget.getD
      digXfer.dst = .column 2 ∧ 2 < loaded.inv.columns.length) ∧
    (Calm allSuspect ∧ allSuspect.motion.gantry = .loaded ∧ allSuspect.motion.xfer = some
      digXfer ∧ digXfer.owner = some 0 ∧ digXfer.setDown = false ∧ Option.map (fun x => x.kind) (ctxOf
      allSuspect 0).step ≠ some .restore ∧ (ctxOf allSuspect 0).state = .active ∧
      digXfer.retarget.getD digXfer.dst = .column 2 ∧ 2 < allSuspect.inv.columns.length) := by
  and_intros <;> decide +kernel

theorem witness_DriveFaultStallsTheJob :
    (Calm busy ∧ TablesSized busy ∧ 0 < 16 ∧ (Instr.faultBlocked = Instr.faultBlocked ∨
      Instr.faultBlocked = Instr.faultDrive ∨ Instr.faultBlocked = Instr.motionTimerExpiry ∧
      busy.motion.timer.isSome = true) ∧ (busy.motion.gantry = .movingEmpty ∨
      busy.motion.gantry = .loaded) ∧ busy.motion.xfer = some digXfer ∧ digXfer.owner = some
      0 ∧ activeCtx? busy = some 0) ∧
    (Calm loaded ∧ TablesSized loaded ∧ 0 < 16 ∧ (Instr.motionTimerExpiry = Instr.faultBlocked ∨
      Instr.motionTimerExpiry = Instr.faultDrive ∨ Instr.motionTimerExpiry = Instr.motionTimerExpiry ∧
      loaded.motion.timer.isSome = true) ∧ (loaded.motion.gantry = .movingEmpty ∨
      loaded.motion.gantry = .loaded) ∧ loaded.motion.xfer = some digXfer ∧ digXfer.owner =
      some 0 ∧ activeCtx? loaded = some 0) ∧
    (Calm (atGantry .faulted none busy) ∧ (Instr.faultDrive = Instr.faultBlocked ∨
      Instr.faultDrive = Instr.faultDrive) ∧ ((atGantry .faulted none busy).motion.gantry =
      GantryState.off ∨ (atGantry .faulted none busy).motion.gantry = .faulted)) ∧
    (Calm (atGantry .off none busy) ∧ (Instr.faultBlocked = Instr.faultBlocked ∨
      Instr.faultBlocked = Instr.faultDrive) ∧ ((atGantry .off none busy).motion.gantry =
      GantryState.off ∨ (atGantry .off none busy).motion.gantry = .faulted)) := by
  and_intros <;> decide +kernel

theorem witness_ShutdownSequenceGoesOn :
    (TablesSized stopping ∧ 0 < 16 ∧ stopping.fire.node = .shutdown ∧ stopping.fire.closing =
      false ∧ stopping.motion.gantry = .movingEmpty ∧ stopping.motion.xfer = some abXfer ∧
      abXfer.abandonSent = true ∧ abXfer.owner = some 0 ∧ (ctxOf stopping 0).halt = false ∧
      stopping.motion.held = none) ∧
    ((inNode .shutdown allShut).fire.node = .shutdown ∧ (inNode .shutdown
      allShut).motion.gantry = .parking ∧ (inNode .shutdown allShut).motion.held =
      none) := by
  and_intros <;> decide +kernel

theorem witness_ShutterFollowsItsReports :
    (Resting busy ∧ ((shutter busy .west).asked = none ∨ (shutter busy .west).asked =
      some .opened)) ∧
    (Resting (closing busy) ∧ ((shutter (closing busy) ShutterId.west).asked = none ∨ (shutter (closing
      busy) ShutterId.west).asked = some .opened)) ∧
    (Resting State.reset ∧ ((shutter State.reset ShutterId.east).asked = none ∨ (shutter State.reset
      ShutterId.east).asked = some .closed)) ∧
    (Resting safeClosing ∧ ((shutter safeClosing .west).asked = none ∨ (shutter safeClosing
      ShutterId.west).asked = some .closed)) ∧
    (busy.motion.power = true ∧ (shutter busy .chute).asked = some .opened ∧
      ShutterPos.opened ≠ .closed ∧ (Calm busy ∧ ShutterPos.opened = .opened ∨
      (busy.fire.node = .guarded ∧ ShutterPos.opened = .closed ∧ ∃ sd, sideShutter sd
      = .chute ∧ sideAfire busy sd = true) ∨ busy.fire.node = .shutdown ∧
      ShutterPos.opened = .closed)) ∧
    (besideShut.motion.power = true ∧ (shutter besideShut .west).asked = some .closed
      ∧ ShutterPos.closed ≠ .opened ∧ (Calm besideShut ∧ ShutterPos.closed = .opened
      ∨ (besideShut.fire.node = .guarded ∧ ShutterPos.closed = .closed ∧ ∃ sd,
      sideShutter sd = .west ∧ sideAfire besideShut sd = true) ∨ besideShut.fire.node =
      NodeState.shutdown ∧ ShutterPos.closed = .closed)) ∧
    ((inNode .shutdown allShut).motion.power = true ∧ (shutter (inNode .shutdown
      allShut) ShutterId.chute).asked = some .closed ∧ ShutterPos.closed ≠ .opened ∧
      (Calm (inNode .shutdown allShut) ∧ ShutterPos.closed = .opened ∨ ((inNode
      NodeState.shutdown allShut).fire.node = .guarded ∧ ShutterPos.closed = .closed
      ∧ ∃ sd, sideShutter sd = .chute ∧ sideAfire (inNode .shutdown allShut) sd =
      true) ∨ (inNode .shutdown allShut).fire.node = .shutdown ∧ ShutterPos.closed =
      ShutterPos.closed)) ∧
    (Resting opening ∧ (shutter opening .east).timer.isSome = true) ∧
    (Resting (inNode .joining opening) ∧ (shutter (inNode .joining opening)
      ShutterId.east).timer.isSome = true) ∧
    (Resting (closing opening) ∧ (shutter (closing opening) ShutterId.east).timer.isSome = true) := by
  and_intros <;> first
    | decide +kernel
    | exact .inl (by decide +kernel)
    | exact .inr (.inl ⟨by decide +kernel, rfl, .west, rfl, by decide +kernel⟩)
    | exact .inr (.inr (by decide +kernel))

theorem witness_ChuteFollowsItsReports :
    ((withChute .inbound busy).fire.node ≠ .resuming ∧ (withChute .inbound
      busy).motion.chute ≠ .empty) ∧
    (busy.fire.node ≠ .resuming ∧ busy.motion.chute = .empty ∧ (∀ (b : BinId), none =
      some b → awaitingBin busy b = none)) ∧
    (expecting.fire.node ≠ .resuming ∧ expecting.motion.chute = .empty ∧ some 13 =
      some 13 ∧ awaitingBin expecting 13 = some 5 ∧ (ctxOf expecting 5).carried = some (.own 13)
      ∧ recordOf expecting 13 = some away13) ∧
    ((bidder .awaiting none).fire.node ≠ .resuming ∧ TablesSized (bidder
      CtxState.awaiting none) ∧ (bidder .awaiting none).motion.chute = .empty ∧ some
      40 = some 40 ∧ awaitingBin (bidder .awaiting none) 40 = some 15 ∧ (ctxOf (bidder
      CtxState.awaiting none) 15).carried = none) ∧
    ((atChute Direction.outward ChuteState.outbound).fire.node ≠ .resuming) := by
  and_intros <;> decide +kernel

theorem witness_ChuteClearEmptiesTheChute :
    (Passes (inNode .joining (atChute Direction.outward ChuteState.outbound)) toNode ∧ (inNode
      NodeState.joining (atChute Direction.outward ChuteState.outbound)).bus.replies.length < 8 ∧
      notReady (inNode .joining (atChute Direction.outward ChuteState.outbound)) = true) ∧
    (Passes fetchingIn toNode ∧ fetchingIn.bus.replies.length < 8 ∧ notReady fetchingIn = false ∧
      (fetchingIn.motion.chute = .inbound ∨ fetchingIn.motion.chute = .blocked) ∧
      chuteJobActive fetchingIn = true) ∧
    (Passes (atChute Direction.inward ChuteState.blocked) toNode ∧ (atChute Direction.inward
      ChuteState.blocked).bus.replies.length < 8 ∧ notReady (atChute Direction.inward
      ChuteState.blocked) = false ∧ (¬(((atChute Direction.inward ChuteState.blocked).motion.chute =
      ChuteState.inbound ∨ (atChute Direction.inward ChuteState.blocked).motion.chute =
      ChuteState.blocked) ∧ chuteJobActive (atChute Direction.inward ChuteState.blocked) = true))) ∧
    (Passes (atChute Direction.outward ChuteState.outbound) toNode ∧ (atChute Direction.outward
      ChuteState.outbound).bus.replies.length < 8 ∧ notReady (atChute Direction.outward
      ChuteState.outbound) = false ∧ (¬(((atChute Direction.outward ChuteState.outbound).motion.chute =
      ChuteState.inbound ∨ (atChute Direction.outward ChuteState.outbound).motion.chute =
      ChuteState.blocked) ∧ chuteJobActive (atChute Direction.outward ChuteState.outbound) = true))) ∧
    (Calm (clearing .stalled) ∧ TablesSized (clearing .stalled) ∧ Passes (clearing
      CtxState.stalled) toNode ∧ (clearing .stalled).bus.replies.length < 8 ∧ (clearing
      CtxState.stalled).sched.doneQ.length < 8 ∧ ((clearing .stalled).motion.chute =
      ChuteState.inbound ∨ (clearing .stalled).motion.chute = .blocked) ∧ chuteCtxs
      (clearing .stalled) = [0] ∧ ((ctxOf (clearing .stalled) 0).state = .ready
      ∨ (ctxOf (clearing .stalled) 0).state = .stalled ∨ (ctxOf (clearing
      CtxState.stalled) 0).state = .paused)) ∧
    (Calm (clearing .paused) ∧ TablesSized (clearing .paused) ∧ Passes (clearing
      CtxState.paused) toNode ∧ (clearing .paused).bus.replies.length < 8 ∧ (clearing
      CtxState.paused).sched.doneQ.length < 8 ∧ ((clearing .paused).motion.chute =
      ChuteState.inbound ∨ (clearing .paused).motion.chute = .blocked) ∧ chuteCtxs
      (clearing .paused) = [0] ∧ ((ctxOf (clearing .paused) 0).state = .ready ∨
      (ctxOf (clearing .paused) 0).state = .stalled ∨ (ctxOf (clearing .paused)
      0).state = .paused)) := by
  and_intros <;> decide +kernel

theorem witness_SenseReportReconciles :
    (State.reset.fire.node = .homing ∧ posts State.reset = true ∧
      State.reset.startup.reconciled = false ∧ State.reset.startup.homed = none) ∧
    ((homedFirst (.report HandReport.empty)).fire.node = .homing ∧ posts (homedFirst
      (HomeResult.report HandReport.empty)) = true ∧ (homedFirst (.report
      HandReport.empty)).startup.reconciled = false ∧ (homedFirst (.report
      HandReport.empty)).startup.homed = some (.report HandReport.empty)) ∧
    ((homingWith (HomeResult.report HandReport.empty)).fire.node = .homing ∧ posts (homingWith
      (HomeResult.report HandReport.empty)) = true ∧ (homingWith (HomeResult.report
      HandReport.empty)).startup.reconciled = false ∧ (homingWith (HomeResult.report
      HandReport.empty)).startup.homed = some (.report HandReport.empty)) ∧
    ((homingWith (HomeResult.report HandReport.empty)).fire.node = .homing ∧ posts (homingWith
      (HomeResult.report HandReport.empty)) = true ∧ (homingWith (HomeResult.report
      HandReport.empty)).startup.reconciled = false ∧ (homingWith (HomeResult.report
      HandReport.empty)).startup.homed = some (.report HandReport.empty) ∧ headerMatches
      (homingWith (HomeResult.report HandReport.empty)) = true ∧ sortedRecords (homingWith
      (HomeResult.report HandReport.empty)).inv.records ∧ (homingWith (HomeResult.report
      HandReport.empty)).motion.putAway = none ∧ (homingWith (HomeResult.report
      HandReport.empty)).motion.held = none ∧ (∀ (r : BinRecord), inHand (homingWith (HomeResult.report
      HandReport.empty)) = some r → jobOf (homingWith (HomeResult.report HandReport.empty)) r.body.bin =
      none)) ∧
    ((homingWith (HomeResult.report (HandReport.loaded none))).fire.node = .homing ∧ posts
      (homingWith (HomeResult.report (HandReport.loaded none))) = true ∧ (homingWith (HomeResult.report
      (HandReport.loaded none))).startup.reconciled = false ∧ (homingWith (HomeResult.report
      (HandReport.loaded none))).startup.homed = some (.report (HandReport.loaded none)) ∧
      headerMatches (homingWith (HomeResult.report (HandReport.loaded none))) = true ∧ sortedRecords
      (homingWith (HomeResult.report (HandReport.loaded none))).inv.records ∧ (homingWith
      (HomeResult.report (HandReport.loaded none))).motion.putAway = none ∧ (homingWith
      (HomeResult.report (HandReport.loaded none))).motion.held = none ∧ (∀ (r : BinRecord), inHand
      (homingWith (HomeResult.report (HandReport.loaded none))) = some r → jobOf (homingWith
      (HomeResult.report (HandReport.loaded none))) r.body.bin = none)) ∧
    ((homingWith HomeResult.failed).fire.node = .homing ∧ posts (homingWith HomeResult.failed)
      = true ∧ (homingWith HomeResult.failed).startup.reconciled = false ∧ (homingWith
      HomeResult.failed).startup.homed = some .failed ∧ headerMatches (homingWith
      HomeResult.failed) = true ∧ sortedRecords (homingWith HomeResult.failed).inv.records ∧ (homingWith
      HomeResult.failed).motion.putAway = none ∧ (homingWith HomeResult.failed).motion.held = none ∧ (∀
      (r : BinRecord), inHand (homingWith HomeResult.failed) = some r → jobOf (homingWith
      HomeResult.failed) r.body.bin = none)) ∧
    ((homingFull none).fire.node = .homing ∧ posts (homingFull none) = true ∧ (homingFull
      none).startup.reconciled = false ∧ (homingFull none).startup.homed = some (.report
      HandReport.empty) ∧ headerMatches (homingFull none) = true ∧ sortedRecords (homingFull
      none).inv.records ∧ (homingFull none).motion.putAway = none ∧ (homingFull none).motion.held = none
      ∧ (∀ (r : BinRecord), inHand (homingFull none) = some r → jobOf (homingFull none) r.body.bin =
      none)) ∧
    (Calm busy) ∧
    ((homingFull (some 140)).fire.node = .homing ∧ posts (homingFull (some 140)) = true ∧
      (homingFull (some 140)).startup.reconciled = false ∧ (homingFull (some 140)).startup.homed = some
      (HomeResult.report HandReport.empty) ∧ headerMatches (homingFull (some 140)) = true ∧
      sortedRecords (homingFull (some 140)).inv.records ∧ (homingFull (some 140)).motion.putAway = none
      ∧ (homingFull (some 140)).motion.held = none ∧ (∀ (r : BinRecord), inHand (homingFull (some 140))
      = some r → jobOf (homingFull (some 140)) r.body.bin = none)) := by
  and_intros <;> decide +kernel

theorem witness_StowReadyOpensAnOffer :
    (Passes surveying toAll ∧ surveying.bus.replies.length < 8 ∧ recordOf surveying 13 = some away13 ∧
      notReady surveying = true) ∧
    (Passes (offering none) toAll ∧ (offering none).bus.replies.length < 8 ∧ recordOf (offering none) 13
      = some away13 ∧ notReady (offering none) = false ∧ (away13.residence ≠ .away ∨ (offering
      none).inv.overflow = some 13 ∨ ∃ e ∈ (offering none).stow.offers, e.bin = 13)) ∧
    (Passes busy toAll ∧ busy.bus.replies.length < 8 ∧ recordOf busy 13 = some away13 ∧ notReady busy =
      false ∧ away13.residence = .away ∧ busy.inv.overflow ≠ some 13 ∧ (∀ e ∈ busy.stow.offers,
      e.bin ≠ 13)) := by
  and_intros <;> decide +kernel

theorem witness_OfferDrawsABid :
    (Passes busy toAll ∧ TablesSized busy ∧ busy.fire.node = .run ∧ gradeNum (bayGrade busy) <
      2 ∧ 0 < busy.setup.stow ∧ freeCtx? busy = some 1 ∧ committed busy < 8 ∧ canReserve busy = true ∧
      (offer40.holder = busy.board.station ∨ holdsBin busy offer40.bin = false) ∧ choose busy (min 7
      offer40.demand) Pos.chute none none = some (11, score busy 7 Pos.chute 11)) ∧
    (Passes (inNode .guarded busy) toAll ∧ ((inNode .guarded busy).fire.node ≠
      NodeState.run ∨ 2 ≤ gradeNum (bayGrade (inNode .guarded busy)))) := by
  and_intros <;> decide +kernel

theorem witness_FirstBidWinsTheOffer :
    (accepts (offering none) fromWest = true ∧ posts (offering none) = true ∧ (offering none).fire.node
      ≠ .resuming ∧ fromWest.src ≠ (offering none).board.station ∧ offerOf (offering none)
      fromWest.tag = some (offer13 none) ∧ (offer13 none).closeTimer.isSome = true ∧ (offer13
      none).winner = none ∧ recordOf (offering none) (offer13 none).bin = some away13) ∧
    (Passes (offering (some 4)) fromWest ∧ fromWest.src ≠ (offering (some 4)).board.station ∧ (offering
      (some 4)).bus.replies.length < 8 ∧ (offerOf (offering (some 4)) fromWest.tag = none ∨ ∃ e, offerOf
      (offering (some 4)) fromWest.tag = some e ∧ (e.closeTimer = none ∨ e.winner.isSome = true))) := by
  and_intros <;> decide +kernel

theorem witness_OfferClosedFreesTheBidder :
    (Calm (bidder .bidding none) ∧ Passes (bidder .bidding none) fromWest ∧ TablesSized
      (bidder .bidding none)) ∧
    (Calm (bidder .awaiting none) ∧ Passes (bidder .awaiting none) fromWest ∧
      TablesSized (bidder .awaiting none)) ∧
    (Calm (bidder .awaiting (some (.own 13))) ∧ Passes (bidder .awaiting (some
      (Carried.own 13))) fromWest ∧ TablesSized (bidder .awaiting (some (.own 13)))) ∧
    (Calm busy ∧ Passes busy fromWest ∧ TablesSized busy) := by
  and_intros <;> decide +kernel

theorem witness_RecordIsAdopted :
    (Passes (bidder .awaiting none) fromWest ∧ TablesSized (bidder .awaiting none) ∧
      (bidder .awaiting none).fire.node ≠ .survey ∧ adopter (bidder .awaiting
      none) fromWest.src fromWest.tag (raw 40).bin = some 15 ∧ holdsBin (bidder .awaiting none)
      (raw 40).bin = false) ∧
    (Passes busy fromWest ∧ busy.fire.node ≠ .survey ∧ (adopter busy fromWest.src fromWest.tag
      (raw 40).bin = none ∨ holdsBin busy (raw 40).bin = true)) := by
  and_intros <;> decide +kernel

theorem witness_AdoptedRemovesTheRecord :
    (accepts busy from5 = true ∧ posts busy = true ∧ busy.fire.node ≠ .resuming ∧ awayEntry
      busy 14 = some entry14 ∧ entry14.winner = some from5.src ∧ recordOf busy 14 = some (rec 14 0
      (Residence.handing 5)) ∧ ((rec 14 0 (Residence.handing 5)).residence = .away ∨ ∃ w, (rec
      14 0 (Residence.handing 5)).residence = .handing w)) ∧
    (accepts overflowing from5 = true ∧ posts overflowing = true ∧ overflowing.fire.node ≠
      NodeState.resuming ∧ awayEntry overflowing 14 = some entry14 ∧ entry14.winner = some from5.src ∧
      recordOf overflowing 14 = some (rec 14 0 (Residence.handing 5)) ∧ ((rec 14 0 (Residence.handing
      5)).residence = .away ∨ ∃ w, (rec 14 0 (Residence.handing 5)).residence =
      Residence.handing w)) ∧
    (accepts busy from6 = true ∧ posts busy = true ∧ busy.fire.node ≠ .resuming ∧ (∀ (e :
      AwayEntry), awayEntry busy 14 = some e → e.winner ≠ some from6.src)) := by
  and_intros <;> first
    | decide +kernel
    | exact .inr ⟨5, rfl⟩

theorem witness_StowWindowsExpire :
    (Calm (bidder .bidding none) ∧ TablesSized (bidder .bidding none) ∧ 15 < 16 ∧ (ctxOf
      (bidder .bidding none) 15).state = .bidding ∧ (ctxOf (bidder .bidding
      none) 15).bidTimer.isSome = true) ∧
    ((∃ k ∈ handing.stow.handovers, k.bin = 14) ∧ recordOf handing 14 = some (rec 14 0
      (Residence.handing 5)) ∧ (rec 14 0 (Residence.handing 5)).residence = .handing 5) ∧
    (Calm (bidder .awaiting none) ∧ TablesSized (bidder .awaiting none) ∧ 15 < 16 ∧
      (ctxOf (bidder .awaiting none) 15).state = .awaiting ∧ (ctxOf (bidder
      CtxState.awaiting none) 15).kind = .stow ∧ (ctxOf (bidder .awaiting none)
      15).arrivalTimer.isSome = true ∧ (bidder .awaiting none).sched.doneQ.length < 8) := by
  and_intros <;> decide +kernel

theorem witness_SlotClaimIsJudged :
    (Calm busy ∧ Passes busy fromWest ∧ TablesSized busy ∧ sideOfStation busy fromWest.src = some
      Side.west ∧ (view busy .west).state = .free ∧ (view busy .west).pend = none ∧
      (view busy .west).raced = none ∧ gradeNum (bayGrade busy) < 2 ∧ busy.fire.latch = false ∧
      notBay busy Side.west = false ∧ busy.setup.spill ≠ 0 ∧ freeCtx? busy = some 1 ∧ committed busy < 8
      ∧ busy.setup.reserve + 1 ≤ freePositions busy ∧ holdsBin busy 40 = false) ∧
    (Calm (latched busy) ∧ Passes (latched busy) fromWest ∧ TablesSized (latched busy) ∧ sideOfStation
      (latched busy) fromWest.src = some .west ∧ (view (latched busy) Side.west).state =
      ViewState.free ∧ (view (latched busy) Side.west).pend = none ∧ (view (latched busy)
      Side.west).raced = none ∧ ClaimRefused (latched busy) Side.west 40 SlotRefuseReason.hazard) ∧
    (Calm unset ∧ Passes unset fromWest ∧ TablesSized unset ∧ sideOfStation unset fromWest.src = some
      Side.west ∧ (view unset .west).state = .free ∧ (view unset .west).pend = none ∧
      (view unset .west).raced = none ∧ ClaimRefused unset Side.west 40 SlotRefuseReason.classOff) ∧
    (Calm (ctxsFull busy) ∧ Passes (ctxsFull busy) fromWest ∧ TablesSized (ctxsFull busy) ∧
      sideOfStation (ctxsFull busy) fromWest.src = some .west ∧ (view (ctxsFull busy)
      Side.west).state = .free ∧ (view (ctxsFull busy) Side.west).pend = none ∧ (view (ctxsFull
      busy) Side.west).raced = none ∧ ClaimRefused (ctxsFull busy) Side.west 40
      SlotRefuseReason.tableFull) ∧
    (Calm reserving ∧ Passes reserving fromWest ∧ TablesSized reserving ∧ sideOfStation reserving
      fromWest.src = some .west ∧ (view reserving .west).state = .free ∧ (view
      reserving Side.west).pend = none ∧ (view reserving .west).raced = none ∧ ClaimRefused
      reserving Side.west 40 SlotRefuseReason.noRoom) ∧
    (Calm busy ∧ Passes busy fromWest ∧ TablesSized busy ∧ sideOfStation busy fromWest.src = some
      Side.west ∧ (view busy .west).state = .free ∧ (view busy .west).pend = none ∧
      (view busy .west).raced = none ∧ ClaimRefused busy Side.west 10 SlotRefuseReason.busy) ∧
    (Calm (eastIn .mine) ∧ Passes (eastIn .mine) fromEast ∧ sideOfStation (eastIn
      ViewState.mine) fromEast.src = some .east ∧ (view (eastIn .mine) Side.east).state ∈
      [ViewState.claiming, ViewState.mine, ViewState.loadedOut, ViewState.loadedIn] ∧ (view (eastIn
      ViewState.mine) Side.east).pend = none) ∧
    (Calm claiming ∧ Passes claiming fromEast ∧ sideOfStation claiming fromEast.src = some .east ∧
      (view claiming .east).state ∈ [ViewState.claiming, ViewState.mine, ViewState.loadedOut,
      ViewState.loadedIn] ∧ (view claiming .east).pend = none) ∧
    (Calm claimSent ∧ Passes claimSent fromEast ∧ TablesSized claimSent ∧ sideOfStation claimSent
      fromEast.src = some .east ∧ (view claimSent .east).state = .claiming ∧ (view
      claimSent Side.east).pend = some (sent claim1 0) ∧ (sent claim1 0).frame.payload =
      Payload.slotClaim 12 ∧ (view claimSent .east).waiting = [] ∧ (view claimSent .east).ctx =
      some 3 ∧ 3 < 16 ∧ (ctxOf claimSent 3).state = .stalled ∧ (ctxOf claimSent 3).wait = some
      WaitReason.slotWait ∧ ClaimGranted claimSent Side.east 40 1) ∧
    (Calm claimSent ∧ Passes claimSent fromEast ∧ TablesSized claimSent ∧ sideOfStation claimSent
      fromEast.src = some .east ∧ (view claimSent .east).state = .claiming ∧ (view
      claimSent Side.east).pend = some (sent claim1 0) ∧ (sent claim1 0).frame.payload =
      Payload.slotClaim 12 ∧ (view claimSent .east).waiting = [] ∧ (view claimSent .east).ctx =
      some 3 ∧ 3 < 16 ∧ (ctxOf claimSent 3).state = .stalled ∧ (ctxOf claimSent 3).wait = some
      WaitReason.slotWait ∧ ClaimRefused claimSent Side.east 10 SlotRefuseReason.busy) ∧
    (Calm theirs ∧ Passes theirs fromWest ∧ TablesSized theirs ∧ sideOfStation theirs fromWest.src =
      some .west ∧ (view theirs .west).state = .theirs ∧ (view theirs .west).pend =
      none ∧ (view theirs .west).raced = none ∧ (view theirs .west).ctx = some 2 ∧ 2 < 16 ∧
      (ctxOf theirs 2).state = .awaiting ∧ theirs.sched.doneQ.length < 8 ∧ ClaimGranted (setCtx
      theirs 2 Ctx.blank) Side.west 41 1) ∧
    (Calm theirs ∧ Passes theirs fromWest ∧ TablesSized theirs ∧ sideOfStation theirs fromWest.src =
      some .west ∧ (view theirs .west).state = .theirs ∧ (view theirs .west).pend =
      none ∧ (view theirs .west).raced = none ∧ (view theirs .west).ctx = some 2 ∧ 2 < 16 ∧
      (ctxOf theirs 2).state = .awaiting ∧ theirs.sched.doneQ.length < 8 ∧ ClaimRefused (setCtx
      theirs 2 Ctx.blank) Side.west 10 SlotRefuseReason.busy) := by
  and_intros <;> decide +kernel

theorem witness_SlotGrantGivesTheSide :
    (Calm claiming ∧ Passes claiming fromEast ∧ TablesSized claiming ∧ 3 < 16 ∧ sideOfStation claiming
      fromEast.src = some .east ∧ (view claiming .east).state = .claiming ∧ (view
      claiming Side.east).tag = fromEast.tag ∧ (view claiming .east).ctx = some 3 ∧ (ctxOf claiming
      3).state = .stalled ∧ (ctxOf claiming 3).wait = some .slotWait) ∧
    (Calm busy ∧ Passes busy fromEast ∧ sideOfStation busy fromEast.src = some .east ∧ (view busy
      Side.east).pend = none ∧ (¬((view busy .east).state = .claiming ∧ (view busy
      Side.east).tag = fromEast.tag))) := by
  and_intros <;> decide +kernel

theorem witness_SlotRefusalIsTaken :
    (Calm claiming ∧ TablesSized claiming ∧ 3 < 16 ∧ (Instr.claimTimerExpiry Side.east =
      Instr.slotRefuse fromEast 0 ∧ Passes claiming fromEast ∧ sideOfStation claiming fromEast.src =
      some .east ∧ (view claiming .east).tag = fromEast.tag ∨ Instr.claimTimerExpiry Side.east =
      Instr.claimTimerExpiry Side.east ∧ (view claiming .east).claimTimer.isSome = true) ∧ (view
      claiming Side.east).state = .claiming ∧ (view claiming .east).raced = none ∧ (view
      claiming Side.east).ctx = some 3 ∧ (ctxOf claiming 3).state = .stalled ∧ (ctxOf claiming
      3).wait = some .slotWait) ∧
    (Calm (claimingWest true) ∧ TablesSized (claimingWest true) ∧ 3 < 16 ∧ (Instr.slotRefuse fromWest 0
      = Instr.slotRefuse fromWest 0 ∧ Passes (claimingWest true) fromWest ∧ sideOfStation (claimingWest
      true) fromWest.src = some .west ∧ (view (claimingWest true) Side.west).tag = fromWest.tag ∨
      Instr.slotRefuse fromWest 0 = Instr.claimTimerExpiry Side.west ∧ (view (claimingWest true)
      Side.west).claimTimer.isSome = true) ∧ (view (claimingWest true) Side.west).state =
      ViewState.claiming ∧ (view (claimingWest true) Side.west).raced = none ∧ (view (claimingWest true)
      Side.west).ctx = some 3 ∧ (ctxOf (claimingWest true) 3).state = .stalled ∧ (ctxOf
      (claimingWest true) 3).wait = some .slotWait) ∧
    (Calm (claimingWest false) ∧ TablesSized (claimingWest false) ∧ 3 < 16 ∧ (Instr.slotRefuse fromWest
      4 = Instr.slotRefuse fromWest 4 ∧ Passes (claimingWest false) fromWest ∧ sideOfStation
      (claimingWest false) fromWest.src = some .west ∧ (view (claimingWest false) Side.west).tag =
      fromWest.tag ∨ Instr.slotRefuse fromWest 4 = Instr.claimTimerExpiry Side.west ∧ (view
      (claimingWest false) Side.west).claimTimer.isSome = true) ∧ (view (claimingWest false)
      Side.west).state = .claiming ∧ (view (claimingWest false) Side.west).raced = none ∧ (view
      (claimingWest false) Side.west).ctx = some 3 ∧ (ctxOf (claimingWest false) 3).state =
      CtxState.stalled ∧ (ctxOf (claimingWest false) 3).wait = some .slotWait) ∧
    (Calm out20 ∧ Passes out20 fromWest ∧ sideOfStation out20 fromWest.src = some .west ∧ (view
      out20 Side.west).state = .loadedOut ∧ (view out20 .west).tag = fromWest.tag) ∧
    (Calm theirs ∧ Passes theirs fromWest ∧ TablesSized theirs ∧ 2 < 16 ∧ sideOfStation theirs
      fromWest.src = some .west ∧ (view theirs .west).state = .theirs ∧ (view theirs
      Side.west).tag = fromWest.tag ∧ (view theirs .west).ctx = some 2 ∧ (view theirs
      Side.west).raced = none ∧ (ctxOf theirs 2).state = .awaiting ∧ (ctxOf theirs 2).kind =
      JobKind.spill ∧ theirs.sched.doneQ.length < 8) ∧
    (Calm out20 ∧ Passes out20 (tagged 7 fromWest) ∧ sideOfStation out20 (tagged 7 fromWest).src = some
      Side.west ∧ (view out20 .west).tag ≠ (tagged 7 fromWest).tag) := by
  and_intros <;> decide +kernel

theorem witness_SlotLoadedIsTaken :
    (Calm theirs ∧ Passes theirs fromWest ∧ TablesSized theirs ∧ 2 < 16 ∧ sideOfStation theirs
      fromWest.src = some .west ∧ (view theirs .west).state = .theirs ∧ (view theirs
      Side.west).tag = fromWest.tag ∧ (view theirs .west).bin = some (raw 40).bin ∧ (view theirs
      Side.west).ctx = some 2 ∧ (view theirs .west).raced = none ∧ recordOf theirs (raw 40).bin =
      none) ∧
    (Calm busy ∧ Passes busy fromWest ∧ sideOfStation busy fromWest.src = some .west ∧ residenceOf
      busy (raw 10).bin = some (.resident 0 0) ∧ (Residence.resident 0 0 = .inHand ∨ ∃
      c i, Residence.resident 0 0 = .resident c i) ∧ (view busy .west).pend = none) ∧
    (Calm holding40 ∧ Passes holding40 fromWest ∧ TablesSized holding40 ∧ sideOfStation holding40
      fromWest.src = some .west ∧ (∀ (p : Residence), residenceOf holding40 (raw 40).bin = some p →
      p ≠ .inHand ∧ ∀ (c i : Nat), p ≠ .resident c i) ∧ (view holding40
      Side.west).state = .loadedIn ∧ (view holding40 .west).bin = some (raw 40).bin) ∧
    (Calm busy ∧ Passes busy fromWest ∧ TablesSized busy ∧ sideOfStation busy fromWest.src = some
      Side.west ∧ (∀ (p : Residence), residenceOf busy (raw 40).bin = some p → p ≠ .inHand ∧ ∀
      (c i : Nat), p ≠ .resident c i) ∧ (view busy .west).state = .free ∧
      ClaimGranted busy Side.west (raw 40).bin 1) ∧
    (Calm unset ∧ Passes unset fromWest ∧ TablesSized unset ∧ sideOfStation unset fromWest.src = some
      Side.west ∧ (∀ (p : Residence), residenceOf unset (raw 40).bin = some p → p ≠ .inHand ∧ ∀
      (c i : Nat), p ≠ .resident c i) ∧ (view unset .west).pend = none ∧ (view unset
      Side.west).state = .free ∧ ClaimRefused unset Side.west (raw 40).bin
      SlotRefuseReason.classOff) ∧
    (Calm (eastIn .mine) ∧ Passes (eastIn .mine) fromEast ∧ TablesSized (eastIn
      ViewState.mine) ∧ sideOfStation (eastIn .mine) fromEast.src = some .east ∧ (∀ (p :
      Residence), residenceOf (eastIn .mine) (raw 40).bin = some p → p ≠ .inHand ∧ ∀
      (c i : Nat), p ≠ .resident c i) ∧ (view (eastIn .mine) Side.east).pend = none ∧
      ((view (eastIn .mine) Side.east).state ∈ [ViewState.claiming, ViewState.mine,
      ViewState.loadedOut] ∨ (view (eastIn .mine) Side.east).state = .loadedIn ∧ (view
      (eastIn .mine) Side.east).bin ≠ some (raw 40).bin)) ∧
    (Calm theirs ∧ Passes theirs fromWest ∧ TablesSized theirs ∧ sideOfStation theirs fromWest.src =
      some .west ∧ (∀ (p : Residence), residenceOf theirs (raw 41).bin = some p → p ≠
      Residence.inHand ∧ ∀ (c i : Nat), p ≠ .resident c i) ∧ (view theirs .west).pend =
      none ∧ (view theirs .west).state = .theirs ∧ (view theirs .west).ctx = some 2 ∧ 2
      < 16 ∧ (ctxOf theirs 2).state = .awaiting ∧ (view theirs .west).raced = none ∧
      theirs.sched.doneQ.length < 8 ∧ ((view theirs .west).tag ≠ fromWest.tag ∨ (view theirs
      Side.west).bin ≠ some (raw 41).bin ∨ (recordOf theirs (raw 41).bin).isSome = true)) := by
  and_intros <;> first
    | decide +kernel
    | exact stands_off (by decide +kernel)
    | simp

theorem witness_SlotTakenSettlesTheLoad :
    (Calm out20 ∧ Passes out20 fromWest ∧ sideOfStation out20 fromWest.src = some .west ∧ (view
      out20 Side.west).state = .loadedOut ∧ (view out20 .west).tag = fromWest.tag ∧
      recordAt out20 (Residence.inSlot Side.west) = some (rec 20 0 (Residence.inSlot Side.west))) ∧
    (Calm out20 ∧ Passes out20 (tagged 7 fromWest) ∧ sideOfStation out20 (tagged 7 fromWest).src = some
      Side.west ∧ (view out20 .west).state = .loadedOut ∧ (view out20 .west).tag ≠
      (tagged 7 fromWest).tag) ∧
    (Calm theirs ∧ Passes theirs fromWest ∧ TablesSized theirs ∧ 2 < 16 ∧ sideOfStation theirs
      fromWest.src = some .west ∧ (view theirs .west).ctx = some 2 ∧ (view theirs
      Side.west).raced = none ∧ theirs.sched.doneQ.length < 8 ∧ (ctxOf theirs 2).kind = .spill ∧
      ((view theirs .west).tag = fromWest.tag ∨ (view theirs .west).bin = some 40) ∧ ((view
      theirs Side.west).state = .theirs ∧ (ctxOf theirs 2).state = .awaiting ∨ (view
      theirs Side.west).state = .loadedIn ∧ (ctxOf theirs 2).state ∈ [CtxState.ready,
      CtxState.stalled, CtxState.paused])) ∧
    (Calm (holdingIn CtxState.ready) ∧ Passes (holdingIn CtxState.ready) (tagged 7 fromWest) ∧
      TablesSized (holdingIn CtxState.ready) ∧ 2 < 16 ∧ sideOfStation (holdingIn CtxState.ready) (tagged
      7 fromWest).src = some .west ∧ (view (holdingIn CtxState.ready) Side.west).ctx = some 2 ∧
      (view (holdingIn CtxState.ready) Side.west).raced = none ∧ (holdingIn
      CtxState.ready).sched.doneQ.length < 8 ∧ (ctxOf (holdingIn CtxState.ready) 2).kind = .spill
      ∧ ((view (holdingIn CtxState.ready) Side.west).tag = (tagged 7 fromWest).tag ∨ (view (holdingIn
      CtxState.ready) Side.west).bin = some 40) ∧ ((view (holdingIn CtxState.ready) Side.west).state =
      ViewState.theirs ∧ (ctxOf (holdingIn CtxState.ready) 2).state = .awaiting ∨ (view
      (holdingIn CtxState.ready) Side.west).state = .loadedIn ∧ (ctxOf (holdingIn
      CtxState.ready) 2).state ∈ [CtxState.ready, CtxState.stalled, CtxState.paused])) ∧
    (Calm (holdingIn CtxState.active) ∧ Passes (holdingIn CtxState.active) fromWest ∧ TablesSized
      (holdingIn CtxState.active) ∧ 2 < 16 ∧ sideOfStation (holdingIn CtxState.active) fromWest.src =
      some .west ∧ (view (holdingIn CtxState.active) Side.west).ctx = some 2 ∧ (view (holdingIn
      CtxState.active) Side.west).raced = none ∧ (holdingIn CtxState.active).sched.doneQ.length < 8 ∧
      (ctxOf (holdingIn CtxState.active) 2).kind = .spill ∧ ((view (holdingIn CtxState.active)
      Side.west).tag = fromWest.tag ∨ (view (holdingIn CtxState.active) Side.west).bin = some 40) ∧
      (view (holdingIn CtxState.active) Side.west).state = .loadedIn ∧ (ctxOf (holdingIn
      CtxState.active) 2).state = .active) ∧
    (Calm reclaimReady ∧ Passes reclaimReady fromWest ∧ TablesSized reclaimReady ∧ 0 < 16 ∧
      sideOfStation reclaimReady fromWest.src = some .west ∧ (view reclaimReady .west).state =
      ViewState.loadedOut ∧ (view reclaimReady .west).tag = fromWest.tag ∧ recordAt reclaimReady
      (Residence.inSlot Side.west) = some (rec 20 0 (Residence.inSlot Side.west)) ∧
      reclaimReady.sched.doneQ.length < 8 ∧ (ctxOf reclaimReady 0).kind = .reclaim ∧ (ctxOf
      reclaimReady 0).side = some .west ∧ (∀ m ∈ ctxNumbers, m ≠ 0 → (ctxOf reclaimReady m).kind ≠
      JobKind.reclaim) ∧ (ctxOf reclaimReady 0).state ∈ [CtxState.ready, CtxState.stalled,
      CtxState.paused]) ∧
    (Calm busy ∧ Passes busy fromWest ∧ sideOfStation busy fromWest.src = some .west ∧ ((view busy
      Side.west).state ∈ [ViewState.free, ViewState.claiming, ViewState.mine] ∨ (view busy
      Side.west).state ∈ [ViewState.theirs, ViewState.loadedIn] ∧ (view busy .west).tag ≠
      fromWest.tag ∧ (view busy .west).bin ≠ some 20)) ∧
    (Calm theirs ∧ Passes theirs (tagged 7 fromWest) ∧ sideOfStation theirs (tagged 7 fromWest).src =
      some .west ∧ ((view theirs .west).state ∈ [ViewState.free, ViewState.claiming,
      ViewState.mine] ∨ (view theirs .west).state ∈ [ViewState.theirs, ViewState.loadedIn] ∧ (view
      theirs Side.west).tag ≠ (tagged 7 fromWest).tag ∧ (view theirs .west).bin ≠ some 20)) := by
  and_intros <;> decide +kernel

theorem witness_SlotReclaimTakesBack :
    (Calm (setView owing Side.west { view owing Side.west with resendOwed := false }) ∧ Passes owing
      toNode ∧ TablesSized owing ∧ owing.fire.latch = false ∧ (view owing .west).state =
      ViewState.loadedOut ∧ reclaimOn owing Side.west = false ∧ freeCtx? owing = some 1 ∧ recordAt owing
      (Residence.inSlot Side.west) = some (rec 20 0 (Residence.inSlot Side.west))) ∧
    (Calm (setView resending Side.west { view resending Side.west with resendOwed := false }) ∧ Passes
      resending toNode ∧ TablesSized resending ∧ resending.fire.latch = false ∧ (view resending
      Side.west).state = .loadedOut ∧ reclaimOn resending Side.west = false ∧ freeCtx?
      resending = some 1 ∧ recordAt resending (Residence.inSlot Side.west) = some (rec 20 0
      (Residence.inSlot Side.west))) ∧
    (Passes out20 toNode ∧ out20.bus.replies.length < 8 ∧ ReclaimRefused out20 2 RefuseReason.malformed) ∧
    (Passes out20 toNode ∧ out20.bus.replies.length < 8 ∧ ReclaimRefused out20 1 RefuseReason.slotState) ∧
    (Passes (inNode .safe out20) toNode ∧ (inNode .safe out20).bus.replies.length < 8
      ∧ ReclaimRefused (inNode .safe out20) 0 RefuseReason.fire) ∧
    (Passes (inNode .joining out20) toNode ∧ (inNode .joining
      out20).bus.replies.length < 8 ∧ ReclaimRefused (inNode .joining out20) 0
      RefuseReason.notReady) ∧
    (Passes reclaimed toNode ∧ reclaimed.bus.replies.length < 8 ∧ ReclaimRefused reclaimed 0
      RefuseReason.binBusy) ∧
    (Passes (ctxsFull out20) toNode ∧ (ctxsFull out20).bus.replies.length < 8 ∧ ReclaimRefused (ctxsFull
      out20) 0 RefuseReason.tableFull) := by
  and_intros <;> decide +kernel

theorem witness_TransmitterTakesTheBest :
    State.reset.bus.tx = none ∧ sendable State.reset ≠ [] := by
  and_intros <;> decide +kernel

theorem witness_SentFrameLeaves :
    (stating.bus.tx = some (onBus TxKey.state state1 0) ∧ (onBus TxKey.state state1 0).withdrawn = false
      ∧ (onBus TxKey.state state1 0).spoiled = false) ∧
    (Calm stating ∧ stating.bus.tx = some (onBus TxKey.state state1 0) ∧ (onBus TxKey.state state1
      0).withdrawn = false ∧ (onBus TxKey.state state1 0).spoiled = false ∧ (onBus TxKey.state state1
      0).key = .state ∧ sent state1 0 ∈ stating.bus.state ∧ (sent state1 0).seq = (onBus
      TxKey.state state1 0).pf.seq ∧ (onBus TxKey.state state1 0).pf.frame.payload = Payload.state
      (stateReport busy) ∧ (onBus TxKey.state state1 0).pf.frame.dst = 0) ∧
    (Calm claimSent ∧ claimSent.bus.tx = some (onBus (TxKey.slot Side.east) claim1 0) ∧ (onBus
      (TxKey.slot Side.east) claim1 0).withdrawn = false ∧ (onBus (TxKey.slot Side.east) claim1
      0).spoiled = false ∧ (onBus (TxKey.slot Side.east) claim1 0).key = .slot Side.east ∧ (view
      claimSent Side.east).pend = some (sent claim1 0) ∧ (sent claim1 0).seq = (onBus (TxKey.slot
      Side.east) claim1 0).pf.seq ∧ (view claimSent .east).waiting = [] ∧ (onBus (TxKey.slot
      Side.east) claim1 0).pf.frame.payload = Payload.slotClaim 12 ∧ (onBus (TxKey.slot Side.east)
      claim1 0).pf.frame.dst ≠ 0 ∧ (onBus (TxKey.slot Side.east) claim1 0).pf.frame.dst ≠
      claimSent.board.station ∧ (view claimSent .east).state = .claiming ∧ (view claimSent
      Side.east).tag = (onBus (TxKey.slot Side.east) claim1 0).pf.frame.tag) ∧
    (Calm bidSent ∧ TablesSized bidSent ∧ 15 < 16 ∧ bidSent.bus.tx = some (onBus (TxKey.bid 15) bid1 0)
      ∧ (onBus (TxKey.bid 15) bid1 0).withdrawn = false ∧ (onBus (TxKey.bid 15) bid1 0).spoiled = false
      ∧ (onBus (TxKey.bid 15) bid1 0).key = .bid 15 ∧ (ctxOf bidSent 15).bid = some (sent bid1 0) ∧
      (sent bid1 0).seq = (onBus (TxKey.bid 15) bid1 0).pf.seq ∧ (onBus (TxKey.bid 15) bid1
      0).pf.frame.payload = Payload.bid bid8.holder 40 ∧ (ctxOf bidSent 15).offer = some bid8 ∧
      bid8.holder ≠ bidSent.board.station) ∧
    (Calm (finishing []) ∧ TablesSized (finishing []) ∧ (finishing []).bus.tx = some (onBus TxKey.done
      done1 0) ∧ (onBus TxKey.done done1 0).withdrawn = false ∧ (onBus TxKey.done done1 0).spoiled =
      false ∧ (onBus TxKey.done done1 0).key = .done ∧ (onBus TxKey.done done1 0).pf.frame.payload
      = Payload.done (Tests.doneBody 1) ∧ (finishing []).sched.doneQ = [doneEntry1] ∧ doneEntry1.seq =
      (onBus TxKey.done done1 0).pf.seq ∧ (finishing []).sched.ending = []) ∧
    (Calm (finishing [4]) ∧ TablesSized (finishing [4]) ∧ (finishing [4]).bus.tx = some (onBus
      TxKey.done done1 0) ∧ (onBus TxKey.done done1 0).withdrawn = false ∧ (onBus TxKey.done done1
      0).spoiled = false ∧ (onBus TxKey.done done1 0).key = .done ∧ (onBus TxKey.done done1
      0).pf.frame.payload = Payload.done (Tests.doneBody 1) ∧ (finishing [4]).sched.doneQ = [doneEntry1]
      ∧ doneEntry1.seq = (onBus TxKey.done done1 0).pf.seq ∧ (finishing [4]).sched.ending = [4] ∧ 4 < 16
      ∧ (ctxOf (finishing [4]) 4).report = some (Tests.doneBody 4)) ∧
    (Calm (noticing false) ∧ TablesSized (noticing false) ∧ (noticing false).bus.tx = some (onBus
      TxKey.notice progress1 0) ∧ (onBus TxKey.notice progress1 0).withdrawn = false ∧ (onBus
      TxKey.notice progress1 0).spoiled = false ∧ (onBus TxKey.notice progress1 0).key = .notice ∧
      (onBus TxKey.notice progress1 0).pf.frame.payload = Payload.progress 0 0 10 1 ∧ (noticing
      false).sched.notice = [notice0] ∧ notice0.pf.seq = (onBus TxKey.notice progress1 0).pf.seq ∧ (∀ k
      ∈ ctxNumbers, (ctxOf (noticing false) k).noticeOwed = false)) ∧
    (Calm (noticing true) ∧ TablesSized (noticing true) ∧ (noticing true).bus.tx = some (onBus
      TxKey.notice progress1 0) ∧ (onBus TxKey.notice progress1 0).withdrawn = false ∧ (onBus
      TxKey.notice progress1 0).spoiled = false ∧ (onBus TxKey.notice progress1 0).key = .notice ∧
      (onBus TxKey.notice progress1 0).pf.frame.payload = Payload.progress 0 0 10 1 ∧ (noticing
      true).sched.notice = [notice0] ∧ notice0.pf.seq = (onBus TxKey.notice progress1 0).pf.seq ∧ 4 < 16
      ∧ (ctxOf (noticing true) 4).noticeOwed = true ∧ (∀ j < 4, (ctxOf (noticing true) j).noticeOwed =
      false) ∧ (ctxOf (noticing true) 4).lastNotice = some owed4) ∧
    (Calm (offerSent 0) ∧ OnTheBus (offerSent 0) (onBus TxKey.reply offer1 0) TxKey.reply (sent offer1
      0) ∧ (onBus TxKey.reply offer1 0).spoiled = false ∧ (offerSent 0).bus.replies = [sent offer1 0] ∧
      (onBus TxKey.reply offer1 0).pf.frame.payload = Payload.offer 9 13 7 1 4 ∧ (onBus TxKey.reply
      offer1 0).pf.frame.dst = 0) ∧
    (Calm ownBidding ∧ TablesSized ownBidding ∧ 15 < 16 ∧ OnTheBus ownBidding (onBus (TxKey.bid 15)
      ownBid1 0) (TxKey.bid 15) (sent ownBid1 0) ∧ (onBus (TxKey.bid 15) ownBid1 0).spoiled = false ∧
      (ctxOf ownBidding 15).bid = some (sent ownBid1 0) ∧ (onBus (TxKey.bid 15) ownBid1
      0).pf.frame.payload = Payload.bid ownRef.holder 13 ∧ (ctxOf ownBidding 15).offer = some ownRef ∧
      ownRef.holder = ownBidding.board.station ∧ offerOf ownBidding ownRef.tag = some (offer13 none) ∧
      (offer13 none).closeTimer.isSome = true ∧ (offer13 none).winner = none ∧ recordOf ownBidding
      (offer13 none).bin = some away13) := by
  and_intros <;> decide +kernel

theorem witness_VoidedFrameIsSentAgain :
    ((replying 6).bus.tx = some (onBus TxKey.reply refuse1 6) ∧ (onBus TxKey.reply refuse1 6).withdrawn
      = false ∧ (onBus TxKey.reply refuse1 6).key = .reply ∧ (replying 6).bus.replies = [sent
      refuse1 6, posted 1 refuse1] ∧ (sent refuse1 6).seq = (onBus TxKey.reply refuse1 6).pf.seq ∧
      (onBus TxKey.reply refuse1 6).pf.voids < 7) ∧
    ((replying 7).bus.tx = some (onBus TxKey.reply refuse1 7) ∧ (onBus TxKey.reply refuse1 7).withdrawn
      = false ∧ (onBus TxKey.reply refuse1 7).key = .reply ∧ (replying 7).bus.replies = [sent
      refuse1 7, posted 1 refuse1] ∧ (sent refuse1 7).seq = (onBus TxKey.reply refuse1 7).pf.seq ∧ 7 ≤
      (onBus TxKey.reply refuse1 7).pf.voids) ∧
    ((offerSent 7).bus.tx = some (onBus TxKey.reply offer1 7) ∧ (onBus TxKey.reply offer1 7).withdrawn =
      false ∧ (onBus TxKey.reply offer1 7).key = .reply ∧ (offerSent 7).bus.replies = [sent offer1
      7] ∧ (sent offer1 7).seq = (onBus TxKey.reply offer1 7).pf.seq ∧ 7 ≤ (onBus TxKey.reply offer1
      7).pf.voids) ∧
    (Calm bidFading ∧ TablesSized bidFading ∧ 15 < 16 ∧ OnTheBus bidFading (onBus (TxKey.bid 15) bid1 7)
      (TxKey.bid 15) (sent bid1 7) ∧ (ctxOf bidFading 15).bid = some (sent bid1 7) ∧ (ctxOf bidFading
      15).state = .bidding ∧ 7 ≤ (onBus (TxKey.bid 15) bid1 7).pf.voids) ∧
    (Calm (fading (claimingWest true) (Payload.slotClaim 12)) ∧ TablesSized (fading (claimingWest true)
      (Payload.slotClaim 12)) ∧ OnTheBus (fading (claimingWest true) (Payload.slotClaim 12)) (onBus
      (TxKey.slot Side.west) (westFrame (Payload.slotClaim 12)) 7) (TxKey.slot Side.west) (sent
      (westFrame (Payload.slotClaim 12)) 7) ∧ (view (fading (claimingWest true) (Payload.slotClaim 12))
      Side.west).pend = some (sent (westFrame (Payload.slotClaim 12)) 7) ∧ (view (fading (claimingWest
      true) (Payload.slotClaim 12)) Side.west).waiting = [] ∧ (view (fading (claimingWest true)
      (Payload.slotClaim 12)) Side.west).raced = none ∧ 7 ≤ (onBus (TxKey.slot Side.west) (westFrame
      (Payload.slotClaim 12)) 7).pf.voids ∧ (onBus (TxKey.slot Side.west) (westFrame (Payload.slotClaim
      12)) 7).pf.frame.payload = Payload.slotClaim 12 ∧ (view (fading (claimingWest true)
      (Payload.slotClaim 12)) Side.west).state = .claiming ∧ (view (fading (claimingWest true)
      (Payload.slotClaim 12)) Side.west).tag = (onBus (TxKey.slot Side.west) (westFrame
      (Payload.slotClaim 12)) 7).pf.frame.tag ∧ (view (fading (claimingWest true) (Payload.slotClaim
      12)) Side.west).ctx = some 3 ∧ 3 < 16 ∧ (ctxOf (fading (claimingWest true) (Payload.slotClaim 12))
      3).state = .stalled ∧ (ctxOf (fading (claimingWest true) (Payload.slotClaim 12)) 3).wait =
      some .slotWait) ∧
    (Calm (fading theirs (Payload.slotGrant 40)) ∧ TablesSized (fading theirs (Payload.slotGrant 40)) ∧
      OnTheBus (fading theirs (Payload.slotGrant 40)) (onBus (TxKey.slot Side.west) (westFrame
      (Payload.slotGrant 40)) 7) (TxKey.slot Side.west) (sent (westFrame (Payload.slotGrant 40)) 7) ∧
      (view (fading theirs (Payload.slotGrant 40)) Side.west).pend = some (sent (westFrame
      (Payload.slotGrant 40)) 7) ∧ (view (fading theirs (Payload.slotGrant 40)) Side.west).waiting = []
      ∧ (view (fading theirs (Payload.slotGrant 40)) Side.west).raced = none ∧ 7 ≤ (onBus (TxKey.slot
      Side.west) (westFrame (Payload.slotGrant 40)) 7).pf.voids ∧ (onBus (TxKey.slot Side.west)
      (westFrame (Payload.slotGrant 40)) 7).pf.frame.payload = Payload.slotGrant 40 ∧ (view (fading
      theirs (Payload.slotGrant 40)) Side.west).state = .theirs ∧ (view (fading theirs
      (Payload.slotGrant 40)) Side.west).tag = (onBus (TxKey.slot Side.west) (westFrame
      (Payload.slotGrant 40)) 7).pf.frame.tag ∧ (view (fading theirs (Payload.slotGrant 40))
      Side.west).ctx = some 2 ∧ 2 < 16 ∧ (ctxOf (fading theirs (Payload.slotGrant 40)) 2).state =
      CtxState.awaiting ∧ (fading theirs (Payload.slotGrant 40)).sched.doneQ.length < 8) ∧
    (Calm (fading out20 (Payload.slotLoaded (rec 20 0 Residence.away).body)) ∧ TablesSized (fading out20
      (Payload.slotLoaded (rec 20 0 Residence.away).body)) ∧ OnTheBus (fading out20 (Payload.slotLoaded
      (rec 20 0 Residence.away).body)) (onBus (TxKey.slot Side.west) (westFrame (Payload.slotLoaded (rec
      20 0 Residence.away).body)) 7) (TxKey.slot Side.west) (sent (westFrame (Payload.slotLoaded (rec 20
      0 Residence.away).body)) 7) ∧ (view (fading out20 (Payload.slotLoaded (rec 20 0
      Residence.away).body)) Side.west).pend = some (sent (westFrame (Payload.slotLoaded (rec 20 0
      Residence.away).body)) 7) ∧ (view (fading out20 (Payload.slotLoaded (rec 20 0
      Residence.away).body)) Side.west).waiting = [] ∧ (view (fading out20 (Payload.slotLoaded (rec 20 0
      Residence.away).body)) Side.west).raced = none ∧ 7 ≤ (onBus (TxKey.slot Side.west) (westFrame
      (Payload.slotLoaded (rec 20 0 Residence.away).body)) 7).pf.voids ∧ (onBus (TxKey.slot Side.west)
      (westFrame (Payload.slotLoaded (rec 20 0 Residence.away).body)) 7).pf.frame.payload =
      Payload.slotLoaded (rec 20 0 Residence.away).body ∧ (view (fading out20 (Payload.slotLoaded (rec
      20 0 Residence.away).body)) Side.west).state = .loadedOut ∧ (view (fading out20
      (Payload.slotLoaded (rec 20 0 Residence.away).body)) Side.west).tag = (onBus (TxKey.slot
      Side.west) (westFrame (Payload.slotLoaded (rec 20 0 Residence.away).body)) 7).pf.frame.tag ∧
      recordAt (fading out20 (Payload.slotLoaded (rec 20 0 Residence.away).body)) (Residence.inSlot
      Side.west) = some (rec 20 0 (Residence.inSlot Side.west))) ∧
    (Calm (fading busy (Payload.slotTaken 40)) ∧ TablesSized (fading busy (Payload.slotTaken 40)) ∧
      OnTheBus (fading busy (Payload.slotTaken 40)) (onBus (TxKey.slot Side.west) (westFrame
      (Payload.slotTaken 40)) 7) (TxKey.slot Side.west) (sent (westFrame (Payload.slotTaken 40)) 7) ∧
      (view (fading busy (Payload.slotTaken 40)) Side.west).pend = some (sent (westFrame
      (Payload.slotTaken 40)) 7) ∧ (view (fading busy (Payload.slotTaken 40)) Side.west).waiting = [] ∧
      (view (fading busy (Payload.slotTaken 40)) Side.west).raced = none ∧ 7 ≤ (onBus (TxKey.slot
      Side.west) (westFrame (Payload.slotTaken 40)) 7).pf.voids ∧ (onBus (TxKey.slot Side.west)
      (westFrame (Payload.slotTaken 40)) 7).pf.frame.payload = Payload.slotTaken 40) ∧
    (Calm (fading busy (Payload.slotRefuse SlotRefuseReason.busy)) ∧ TablesSized (fading busy
      (Payload.slotRefuse SlotRefuseReason.busy)) ∧ OnTheBus (fading busy (Payload.slotRefuse
      SlotRefuseReason.busy)) (onBus (TxKey.slot Side.west) (westFrame (Payload.slotRefuse
      SlotRefuseReason.busy)) 7) (TxKey.slot Side.west) (sent (westFrame (Payload.slotRefuse
      SlotRefuseReason.busy)) 7) ∧ (view (fading busy (Payload.slotRefuse SlotRefuseReason.busy))
      Side.west).pend = some (sent (westFrame (Payload.slotRefuse SlotRefuseReason.busy)) 7) ∧ (view
      (fading busy (Payload.slotRefuse SlotRefuseReason.busy)) Side.west).waiting = [] ∧ (view (fading
      busy (Payload.slotRefuse SlotRefuseReason.busy)) Side.west).raced = none ∧ 7 ≤ (onBus (TxKey.slot
      Side.west) (westFrame (Payload.slotRefuse SlotRefuseReason.busy)) 7).pf.voids ∧ (onBus (TxKey.slot
      Side.west) (westFrame (Payload.slotRefuse SlotRefuseReason.busy)) 7).pf.frame.payload =
      Payload.slotRefuse SlotRefuseReason.busy) := by
  and_intros <;> decide +kernel

theorem witness_FrameCheckPasses :
    (state1.level ≤ 15 ∧ state1.rank < 4096 ∧ state1.src < 32 ∧ state1.dst < 32 ∧ state1.tag < 256 ∧
      state1.payload.bytes.length ≤ 48) ∧
    (loaded20.frame.level ≤ 15 ∧ loaded20.frame.rank < 4096 ∧ loaded20.frame.src < 32 ∧
      loaded20.frame.dst < 32 ∧ loaded20.frame.tag < 256 ∧ loaded20.frame.payload.bytes.length ≤ 48) ∧
    (refuse1.level ≤ 15 ∧ refuse1.payload.bytes.length ≤ 48 ∧ 7 ≠ crc (checkedBits refuse1)) := by
  and_intros <;> decide +kernel

theorem witness_GuardHoldsTheBay :
    (accepts (burning 0 (inNode .run (pausing .stalled))) toAll = true ∧ TablesSized
      (burning 0 (inNode .run (pausing .stalled))) ∧ (burning 0 (inNode .run
      (pausing .stalled))).fire.node = .run ∧ (burning 0 (inNode .run (pausing
      CtxState.stalled))).motion.held = none ∧ bayGrade (burning 0 (inNode .run (pausing
      CtxState.stalled))) ≠ .alarm ∧ BitVec.getLsbD ((burning 0 (inNode .run (pausing
      CtxState.stalled))).fire.zones ||| 32) (BitVec.toNat (burning 0 (inNode .run (pausing
      CtxState.stalled))).board.zone) = false ∧ (∃ sd, BurnsBeside (burning 0 (inNode .run
      (pausing .stalled))) ((burning 0 (inNode .run (pausing
      CtxState.stalled))).fire.zones ||| 32) sd)) ∧
    (accepts (pausing .paused) toAll = true ∧ TablesSized (pausing .paused) ∧ (pausing
      CtxState.paused).fire.node = .guarded ∧ (pausing .paused).fire.latch = false ∧
      (pausing .paused).motion.gantry ≠ .idle ∧ bayGrade (pausing .paused) ≠
      Grade.alarm ∧ BitVec.getLsbD (pausing .paused).fire.zones (BitVec.toNat (pausing
      CtxState.paused).board.zone) = false ∧ (∀ (sd : Side), ¬BurnsBeside (pausing .paused)
      ((pausing .paused).fire.zones &&& ~~~32) sd)) ∧
    (TablesSized (lastOpening .run) ∧ (lastOpening .run).fire.node =
      NodeState.resuming ∧ (lastOpening .run).fire.opening = true ∧ (lastOpening
      NodeState.run).startup.reconciled = true ∧ (shutter (lastOpening .run)
      ShutterId.chute).asked = some .opened ∧ (∀ (k : ShutterId), k ≠ .chute →
      (shutter (lastOpening .run) k).state = .opened ∨ (shutter (lastOpening
      NodeState.run) k).state = .unknown) ∧ (lastOpening .run).motion.gantry ≠
      GantryState.idle) ∧
    (TablesSized (lastOpening .joining) ∧ (lastOpening .joining).fire.node =
      NodeState.resuming ∧ (lastOpening .joining).fire.opening = true ∧ (lastOpening
      NodeState.joining).startup.reconciled = true ∧ (shutter (lastOpening .joining)
      ShutterId.chute).asked = some .opened ∧ (∀ (k : ShutterId), k ≠ .chute →
      (shutter (lastOpening .joining) k).state = .opened ∨ (shutter (lastOpening
      NodeState.joining) k).state = .unknown) ∧ (lastOpening
      NodeState.joining).motion.gantry ≠ .idle) ∧
    (TablesSized (lastOpening .homing) ∧ (lastOpening .homing).fire.node =
      NodeState.resuming ∧ (lastOpening .homing).fire.opening = true ∧ (lastOpening
      NodeState.homing).startup.reconciled = true ∧ (shutter (lastOpening .homing)
      ShutterId.chute).asked = some .opened ∧ (∀ (k : ShutterId), k ≠ .chute →
      (shutter (lastOpening .homing) k).state = .opened ∨ (shutter (lastOpening
      NodeState.homing) k).state = .unknown) ∧ (lastOpening .homing).motion.gantry
      ≠ .idle) := by
  and_intros <;> first
    | decide +kernel
    | exact ⟨.west, by decide +kernel, 5, by decide +kernel, by decide +kernel⟩
    | exact no_side_burns
    | (rintro (_ | _ | _) <;> decide +kernel)

end Sys2Proof.Tests
end

section
/-! PROOFS. What the work at the desk can do. The operations on contexts, slot views, notices, completion
records and step starts change few parts of the state, and each only where it is asked to. `Within` says
so once; the invariants and frame facts of later parts are read off it. -/

namespace Sys2Proof.Machine

open Sys2Proof

-- In turn, so that the proofs do not hold more threads at once than the memory limit has stacks for.
set_option Elab.async false

/-! ### The scope of a piece of work -/

/-- What a piece of work may do beyond waking STALLED contexts: change the contexts `who` names, end
contexts (`ends`), start steps (`steps`), and follow the neighbours' zones (`guards`). -/
structure Scope where
  who : Nat → Prop
  ends : Prop
  steps : Prop
  guards : Prop

/-- Work that may do all of it. -/
def Scope.any : Scope := { who := fun _ => True, ends := True, steps := True, guards := True }

/-- What work of a scope leaves of the scheduler: the tables keep their sizes; a context that was not STALLED
and that the scope does not name keeps its state, enters no ready list and, but for an owed notice, is
left as it was; completion records only join the queue. -/
structure SchedMove (k : Scope) (s t : Sched) : Prop where
  ctxs : t.ctxs.length = s.ctxs.length
  ready : t.ready.length = s.ready.length
  state : ∀ m, ¬ k.who m → (s.ctxs.getD m Ctx.blank).state ≠ .stalled →
    (t.ctxs.getD m Ctx.blank).state = (s.ctxs.getD m Ctx.blank).state
  listed : ∀ m, ¬ k.who m → (s.ctxs.getD m Ctx.blank).state ≠ .stalled →
    (∃ l ∈ t.ready, m ∈ l) → ∃ l ∈ s.ready, m ∈ l
  others : ∀ m, ¬ k.who m → (s.ctxs.getD m Ctx.blank).state ≠ .stalled →
    (k.ends → (s.ctxs.getD m Ctx.blank).noticeOwed = false) →
    t.ctxs.getD m Ctx.blank = s.ctxs.getD m Ctx.blank
  done : s.doneQ <+: t.doneQ
  notDone : ¬ k.ends → t.doneQ = s.doneQ

/-- What work of a scope leaves of a slot view: no resend comes to be owed, and a LOADED_OUT view keeps its
state, its tag and its frame where no step is started. -/
structure ViewMove (k : Scope) (v w : SlotView) : Prop where
  fireClosed : ¬ k.guards → w.fireClosed = v.fireClosed
  resend : w.resendOwed = true → v.resendOwed = true
  loaded : ¬ k.steps → v.state = .loadedOut → w.state = .loadedOut ∧ w.tag = v.tag ∧
    w.loadRefused = v.loadRefused ∧ w.pend = v.pend

/-- The gantry's part of the motion port. -/
def Motion.drive (m : Motion) := (m.gantry, m.xfer, m.held, m.timer)

/-- What work of a scope leaves of the motion port. -/
structure PortMove (k : Scope) (m n : Motion) : Prop where
  chute : (n.chute, n.reason, n.putAway) = (m.chute, m.reason, m.putAway)
  power : (n.recovery, n.power) = (m.recovery, m.power)
  drive : ¬ k.steps → n.drive = m.drive

/-- `t` is reached from `s` by work within a scope. -/
structure Within (k : Scope) (s t : State) : Prop where
  lasts : lasting t = lasting s
  fire : t.fire = s.fire
  images : t.store.queue.map (·.image) = s.store.queue.map (·.image)
  inv : (k.ends → s.inv.overflow = none) → t.inv = s.inv
  port : PortMove k s.motion t.motion
  sched : SchedMove k s.sched t.sched
  views : ∀ sd, ViewMove k (view s sd) (view t sd)

/-! ### The relations are reflexive and transitive -/

theorem SchedMove.refl (k : Scope) (s : Sched) : SchedMove k s s where
  ctxs := rfl
  ready := rfl
  state _ _ _ := rfl
  listed _ _ _ h := h
  others _ _ _ _ := rfl
  done := List.prefix_rfl
  notDone _ := rfl

theorem ViewMove.refl (k : Scope) (v : SlotView) : ViewMove k v v where
  fireClosed _ := rfl
  resend h := h
  loaded _ h := ⟨h, rfl, rfl, rfl⟩

theorem ViewMove.trans {k : Scope} {u v w : SlotView} (h : ViewMove k u v) (g : ViewMove k v w) :
    ViewMove k u w where
  fireClosed hg := (g.fireClosed hg).trans (h.fireClosed hg)
  resend e := h.resend (g.resend e)
  loaded hs hu := by
    obtain ⟨h1, h2, h3, h4⟩ := h.loaded hs hu
    obtain ⟨g1, g2, g3, g4⟩ := g.loaded hs h1
    exact ⟨g1, g2.trans h2, g3.trans h3, g4.trans h4⟩

theorem PortMove.trans {k : Scope} {l m n : Motion} (h : PortMove k l m) (g : PortMove k m n) :
    PortMove k l n where
  chute := g.chute.trans h.chute
  power := g.power.trans h.power
  drive hs := (g.drive hs).trans (h.drive hs)

@[simp] theorem Within.refl (k : Scope) (s : State) : Within k s s where
  lasts := rfl
  fire := rfl
  images := rfl
  inv _ := rfl
  port := ⟨rfl, rfl, fun _ => rfl⟩
  sched := .refl k _
  views _ := .refl k _

/-! ### Elementary updates -/

section Updates

variable {k : Scope} {s t : State}

theorem ctxOf_setCtx (s : State) (n m : Nat) (c : Ctx) :
    ctxOf (setCtx s n c) m = if m = n ∧ n < s.sched.ctxs.length then c else ctxOf s m := by
  simp only [ctxOf, setCtx, State.withSched_sched, List.getD_eq_getElem?_getD, List.getElem?_set]
  by_cases hm : n = m
  · subst hm
    by_cases hl : n < s.sched.ctxs.length <;> simp [hl]
  · simp [hm, Ne.symm hm]

theorem ctxOf_setCtx_ne (s : State) {n m : Nat} (c : Ctx) (h : m ≠ n) :
    ctxOf (setCtx s n c) m = ctxOf s m := by simp [ctxOf_setCtx, h]

/-- A context that is STALLED now is one the scope names or was STALLED before. -/
theorem Within.of_stalled (h : Within k s t) {n : Nat} (hn : (ctxOf t n).state = .stalled) :
    k.who n ∨ (ctxOf s n).state = .stalled := by
  by_contra hc
  obtain ⟨hw, hs⟩ := not_or.mp hc
  exact hs ((h.sched.state n hw hs).symm.trans hn)

theorem Within.withSched (h : Within k s t) (v : Sched) (hv : SchedMove k s.sched v) :
    Within k s (t.withSched v) :=
  ⟨h.lasts, h.fire, h.images, h.inv, h.port, hv, h.views⟩

/-- A change of the scheduler's notices, stamps, wake marks and step mark. -/
theorem Within.marks (h : Within k s t) (v : Sched) (hc : v.ctxs = t.sched.ctxs := by rfl)
    (hr : v.ready = t.sched.ready := by rfl) (hd : v.doneQ = t.sched.doneQ := by rfl) :
    Within k s (t.withSched v) := by
  obtain ⟨h1, h2, h3, h4, h5, h6, h7⟩ := h.sched
  exact h.withSched v ⟨by rw [hc, h1], by rw [hr, h2], by rw [hc]; exact h3, by rw [hr]; exact h4,
    by rw [hc]; exact h5, by rw [hd]; exact h6, by rw [hd]; exact h7⟩

/-- A change of one context and of the ready lists, the context being one the scope names or one that was
STALLED, and no other entering a list. -/
theorem Within.ctx (h : Within k s t) {n : Nat} (hn : k.who n ∨ (ctxOf s n).state = .stalled)
    (c : Ctx) (v : Sched) (hc : v.ctxs = t.sched.ctxs.set n c)
    (hl : v.ready.length = t.sched.ready.length)
    (hr : ∀ m, m ≠ n → (∃ l ∈ v.ready, m ∈ l) → ∃ l ∈ t.sched.ready, m ∈ l)
    (hd : v.doneQ = t.sched.doneQ) : Within k s (t.withSched v) := by
  have hne : ∀ m, ¬ k.who m → (s.sched.ctxs.getD m Ctx.blank).state ≠ .stalled → m ≠ n := by
    rintro m hw hs rfl
    exact hn.elim hw hs
  have hget : ∀ m, m ≠ n → v.ctxs.getD m Ctx.blank = t.sched.ctxs.getD m Ctx.blank := by
    intro m hm
    rw [hc]
    exact ctxOf_setCtx_ne t c hm
  refine h.withSched v ⟨?_, ?_, ?_, ?_, ?_, ?_, ?_⟩
  · rw [hc, List.length_set, h.sched.ctxs]
  · rw [hl, h.sched.ready]
  · intro m hw hs
    rw [hget m (hne m hw hs)]
    exact h.sched.state m hw hs
  · exact fun m hw hs hx => h.sched.listed m hw hs (hr m (hne m hw hs) hx)
  · intro m hw hs ho
    rw [hget m (hne m hw hs)]
    exact h.sched.others m hw hs ho
  · rw [hd]; exact h.sched.done
  · rw [hd]; exact h.sched.notDone

theorem Within.after_setCtx (h : Within k s t) {n : Nat} (hn : k.who n ∨ (ctxOf s n).state = .stalled)
    (c : Ctx) : Within k s (setCtx t n c) :=
  h.ctx hn c _ rfl rfl (fun _ _ hx => hx) rfl

theorem Within.after_modCtx (h : Within k s t) {n : Nat} (hn : k.who n ∨ (ctxOf s n).state = .stalled)
    (f : Ctx → Ctx) : Within k s (modCtx t n f) := h.after_setCtx hn _

/-- A change of a context's notice where contexts may end. -/
theorem Within.modNotice (h : Within k s t) {n : Nat} (he : k.ends)
    (hn : k.who n ∨ (ctxOf s n).state = .stalled ∨ (ctxOf t n).noticeOwed = true) (f : Ctx → Ctx)
    (hf : ∀ c, (f c).state = c.state) : Within k s (modCtx t n f) := by
  have hstate : ∀ m, (ctxOf (modCtx t n f) m).state = (ctxOf t m).state := by
    intro m
    rw [modCtx, ctxOf_setCtx]
    split
    · rename_i hm; rw [hf, hm.1]
    · rfl
  refine h.withSched _ ⟨?_, h.sched.ready, ?_, h.sched.listed, ?_, h.sched.done, h.sched.notDone⟩
  · rw [List.length_set, h.sched.ctxs]
  · intro m hw hs
    exact (hstate m).trans (h.sched.state m hw hs)
  · intro m hw hs ho
    have heq := h.sched.others m hw hs ho
    by_cases hm : m = n
    · subst hm
      rcases hn with hn | hn | hn
      · exact absurd hn hw
      · exact absurd hn hs
      · have hfalse : (ctxOf t m).noticeOwed = false := (congrArg Ctx.noticeOwed heq).trans (ho he)
        rw [hfalse] at hn
        cases hn
    · exact (ctxOf_setCtx_ne t _ hm).trans heq

theorem view_setView (s : State) (sd e : Side) (v : SlotView) :
    view (setView s sd v) e = if e = sd then v else view s e := by
  cases sd <;> cases e <;> rfl

@[simp] theorem setView_sched (s : State) (sd : Side) (v : SlotView) :
    (setView s sd v).sched = s.sched := by cases sd <;> rfl

@[simp] theorem setView_motion (s : State) (sd : Side) (v : SlotView) :
    (setView s sd v).motion = s.motion := by cases sd <;> rfl

@[simp] theorem setView_inv (s : State) (sd : Side) (v : SlotView) :
    (setView s sd v).inv = s.inv := by cases sd <;> rfl

@[simp] theorem setView_fire (s : State) (sd : Side) (v : SlotView) :
    (setView s sd v).fire = s.fire := by cases sd <;> rfl

@[simp] theorem setView_store (s : State) (sd : Side) (v : SlotView) :
    (setView s sd v).store = s.store := by cases sd <;> rfl

theorem Within.after_setView (h : Within k s t) (sd : Side) (w : SlotView)
    (hv : ViewMove k (view t sd) w) : Within k s (setView t sd w) := by
  refine ⟨?_, ?_, ?_, ?_, ?_, ?_, ?_⟩
  · rw [lasting_setView, h.lasts]
  · rw [setView_fire, h.fire]
  · rw [setView_store, h.images]
  · rw [setView_inv]; exact h.inv
  · rw [setView_motion]; exact h.port
  · rw [setView_sched]; exact h.sched
  · intro e
    rw [view_setView]
    split
    · rename_i he; subst he; exact (h.views e).trans hv
    · exact h.views e

theorem Within.after_modView (h : Within k s t) (sd : Side) (f : SlotView → SlotView)
    (hv : ViewMove k (view t sd) (f (view t sd))) : Within k s (modView t sd f) :=
  h.after_setView sd _ hv

@[simp] theorem Within.after_bumpTag (h : Within k s t) : Within k s (bumpTag t) :=
  ⟨h.lasts, h.fire, h.images, h.inv, h.port, h.sched, h.views⟩

/-- A new posting number, or a mark on the frame in transmission. -/
theorem Within.bus (h : Within k s t) (q : Nat) (x : Option Tx) :
    Within k s (t.withBus { t.bus with seq := q, tx := x }) :=
  ⟨h.lasts, h.fire, h.images, h.inv, h.port, h.sched, h.views⟩

@[simp] theorem Within.after_bumpSeq (h : Within k s t) : Within k s (bumpSeq t) := h.bus _ _

@[simp] theorem Within.after_withdrawTx (h : Within k s t) (q : Nat) : Within k s (withdrawTx t q) := by
  unfold withdrawTx
  split
  · exact h
  · split
    · exact h.bus _ _
    · exact h

theorem Within.withMotion (h : Within k s t) (v : Motion) (hv : PortMove k t.motion v) :
    Within k s (t.withMotion v) := by
  refine ⟨?_, h.fire, h.images, h.inv, h.port.trans hv, h.sched, h.views⟩
  have hc := hv.chute
  simp only [Prod.mk.injEq] at hc
  obtain ⟨h1, h2, h3⟩ := hc
  rw [← h.lasts]
  simp only [lasting, goods, State.withMotion_motion, h1, h2, h3]
  rfl

@[simp] theorem Within.after_moveOverflow (h : Within k s t) (he : k.ends) :
    Within k s (moveOverflow t) := by
  have hl := lasting_moveOverflow t
  unfold moveOverflow at hl ⊢
  split at hl
  · exact h
  · rename_i b hb
    split at hl
    · rw [if_pos ‹_›]
      refine ⟨hl.trans h.lasts, h.fire, h.images, ?_, h.port, h.sched, h.views⟩
      intro hn
      rw [h.inv hn, hn he] at hb
      cases hb
    · rw [if_neg ‹_›]; exact h

/-- Forgetting a step's mark in the updates being written leaves their pictures. -/
@[simp] theorem Within.after_forgetStep (h : Within k s t) (n : Nat) : Within k s (forgetStep t n) := by
  have hu : ∀ q : List StoreUpdate,
      (q.map (fun u => if u.stepCtx = some n then { u with stepCtx := none } else u)).map (·.image) =
        q.map (·.image) := by
    intro q
    rw [List.map_map]
    exact List.map_congr_left (fun u _ => by simp only [Function.comp]; split <;> rfl)
  have hq : Within k s (t.withStore { t.store with queue := t.store.queue.map (fun u =>
      if u.stepCtx = some n then { u with stepCtx := none } else u) }) :=
    ⟨h.lasts, h.fire, (hu _).trans h.images, h.inv, h.port, h.sched, h.views⟩
  unfold forgetStep
  dsimp only
  split
  · exact hq.marks _
  · exact hq

/-- Work done over a list. -/
theorem Within.foldl {α : Type} (f : State → α → State) (l : List α)
    (hf : ∀ t, ∀ a ∈ l, Within k s t → Within k s (f t a)) (h : Within k s t) :
    Within k s (l.foldl f t) := by
  induction l generalizing t with
  | nil => exact h
  | cons a as ih =>
    exact ih (fun t b hb => hf t b (List.mem_cons_of_mem a hb)) (hf t a List.mem_cons_self h)

end Updates

end Sys2Proof.Machine
end

section
/-! PROOFS. Each operation on contexts, notices, completion records, slot views and step starts is work within
a scope. Read from left to right, each lemma goes on from work already done. -/

namespace Sys2Proof.Machine

open Sys2Proof

-- In turn, so that the proofs do not hold more threads at once than the memory limit has stacks for.
set_option Elab.async false

variable {k : Scope} {s t : State}

/-! ### Ready lists, stalls and wake-ups -/

/-- A change of one ready list brings no context into it that the change does not bring. -/
theorem listed_modify {m i : Nat} {f : List Nat → List Nat} (hf : ∀ l, m ∈ f l → m ∈ l)
    {ready : List (List Nat)} (h : ∃ l ∈ ready.modify i f, m ∈ l) : ∃ l ∈ ready, m ∈ l := by
  obtain ⟨l, hl, hm⟩ := h
  obtain ⟨j, hj⟩ := List.mem_iff_getElem?.mp hl
  rw [List.getElem?_modify] at hj
  obtain ⟨r, hr, rfl⟩ := Option.map_eq_some_iff.mp hj
  refine ⟨r, List.mem_of_getElem? hr, ?_⟩
  split at hm
  · exact hf r hm
  · exact hm

@[simp] theorem Within.after_leaveList (h : Within k s t) (n : Nat) : Within k s (leaveList t n) := by
  obtain ⟨h1, h2, h3, h4, h5, h6, h7⟩ := h.sched
  refine h.withSched _ ⟨h1, by simpa using h2, h3, ?_, h5, h6, h7⟩
  rintro m hw hs ⟨l, hl, hm⟩
  obtain ⟨r, hr, rfl⟩ := List.mem_map.mp hl
  exact h4 m hw hs ⟨r, hr, List.mem_of_mem_filter hm⟩

theorem Within.after_toTail' (h : Within k s t) {n : Nat}
    (hn : k.who n ∨ (ctxOf s n).state = .stalled) : Within k s (toTail t n) := by
  refine h.ctx hn _ _ rfl (by simp) ?_ rfl
  intro m hm hx
  refine listed_modify (fun l hl => ?_) hx
  simpa [hm] using hl

@[simp] theorem Within.after_toTail (h : Within k s t) {n : Nat} (hn : k.who n) :
    Within k s (toTail t n) := h.after_toTail' (.inl hn)

@[simp] theorem Within.after_toHead (h : Within k s t) {n : Nat} (hn : k.who n) :
    Within k s (toHead t n) := by
  refine h.ctx (.inl hn) _ _ rfl (by simp) ?_ rfl
  intro m hm hx
  refine listed_modify (fun l hl => ?_) hx
  simpa [hm] using hl

@[simp] theorem Within.after_enterPaused (h : Within k s t) {n : Nat} (hn : k.who n) :
    Within k s (enterPaused t n) :=
  h.ctx (.inl hn) _ _ rfl rfl (fun _ _ hx => hx) rfl

@[simp] theorem Within.after_readied (h : Within k s t) {n : Nat} (hn : k.who n) :
    Within k s (readied t n) := by
  unfold readied
  split <;> simp [h, hn]

@[simp] theorem Within.after_setCtx' (h : Within k s t) {n : Nat} (hn : k.who n) (c : Ctx) :
    Within k s (setCtx t n c) := h.after_setCtx (.inl hn) c

@[simp] theorem Within.after_modCtx' (h : Within k s t) {n : Nat} (hn : k.who n) (f : Ctx → Ctx) :
    Within k s (modCtx t n f) := h.after_modCtx (.inl hn) f

@[simp] theorem Within.after_pauseCtx (h : Within k s t) {n : Nat} (hn : k.who n) :
    Within k s (pauseCtx t n) := by simp [pauseCtx, h, hn]

theorem Within.after_stall' (h : Within k s t) {n : Nat} (hn : k.who n ∨ (ctxOf s n).state = .stalled)
    (r : WaitReason) : Within k s (stall t n r) := h.after_modCtx hn _

@[simp] theorem Within.after_stall (h : Within k s t) {n : Nat} (hn : k.who n) (r : WaitReason) :
    Within k s (stall t n r) := h.after_modCtx (.inl hn) _

@[simp] theorem Within.after_wakeWhere (h : Within k s t) (p : Nat → WaitReason → Bool) :
    Within k s (wakeWhere t p) := h.marks _

@[simp] theorem Within.after_wakeOn (h : Within k s t) (r : WaitReason) : Within k s (wakeOn t r) :=
  h.after_wakeWhere _

theorem mem_insertByStamp {s : State} {n m : Nat} {l : List Nat} (h : m ∈ insertByStamp s n l) :
    m = n ∨ m ∈ l := by
  induction l with
  | nil => simpa [insertByStamp] using h
  | cons a as ih =>
    unfold insertByStamp at h
    split at h
    · rcases List.mem_cons.mp h with h | h
      · exact .inr (h ▸ List.mem_cons_self)
      · exact (ih h).imp id (List.mem_cons_of_mem a)
    · simpa using h

/-- Ordering context numbers by age stamp brings in no other. -/
theorem mem_byStamp {s : State} {m : Nat} {l : List Nat} (h : m ∈ byStamp s l) : m ∈ l := by
  induction l with
  | nil => simp [byStamp] at h
  | cons a as ih =>
    rcases mem_insertByStamp (l := byStamp s as) h with h | h
    · exact h ▸ List.mem_cons_self
    · exact List.mem_cons_of_mem a (ih h)

@[simp] theorem Within.after_flushWoken (h : Within k s t) : Within k s (flushWoken t) := by
  have hm : Within k s (t.withSched { t.sched with woken := [] }) := h.marks _
  refine hm.foldl _ _ (fun u a ha hu => hu.after_toTail' (h.of_stalled ?_))
  have hw := (List.mem_filter.mp (mem_byStamp ha)).2
  simp only [isWoken, decide_eq_true_eq] at hw
  exact hw.2

@[simp] theorem Within.after_awayFreed (h : Within k s t) (he : k.ends) : Within k s (awayFreed t) := by
  unfold awayFreed
  split <;> simp [h, he]

@[simp] theorem Within.after_releaseLock (h : Within k s t) {n : Nat} (hn : k.who n) :
    Within k s (releaseLock t n) := by
  unfold releaseLock
  split <;> simp [h, hn]

@[simp] theorem Within.after_takeLock (h : Within k s t) {n : Nat} (hn : k.who n) (c : Nat) :
    Within k s (takeLock t n c) := by
  unfold takeLock
  split <;> simp [h, hn]

@[simp] theorem Within.after_pauseIn (h : Within k s t) (hw : ∀ n, k.who n) (p : CtxState → Bool) :
    Within k s (pauseIn t p) := h.foldl _ _ (fun _ n _ hu => hu.after_pauseCtx (hw n))

@[simp] theorem Within.after_releasePaused (h : Within k s t) (hw : ∀ n, k.who n) :
    Within k s (releasePaused t) := h.foldl _ _ (fun _ n _ hu => hu.after_toTail (hw n))

@[simp] theorem Within.after_withdrawBid (h : Within k s t) {n : Nat} (hn : k.who n) (he : k.ends) :
    Within k s (withdrawBid t n) := by
  unfold withdrawBid
  split
  · exact (h.after_setCtx (.inl hn) _).after_awayFreed he
  · exact ((h.after_withdrawTx _).after_setCtx (.inl hn) _).after_awayFreed he

@[simp] theorem Within.after_withdrawAllBids (h : Within k s t) (hw : ∀ n, k.who n) (he : k.ends) :
    Within k s (withdrawAllBids t) := h.foldl _ _ (fun _ n _ hu => hu.after_withdrawBid (hw n) he)

/-! ### Notices and completion records -/

@[simp] theorem Within.after_loadNotice (h : Within k s t) {n : Nat} (hn : k.who n) (b : NoticeBody) :
    Within k s (loadNotice t n b) :=
  ((h.marks _).after_modCtx (.inl hn) _).after_bumpSeq

@[simp] theorem Within.after_offerNotice (h : Within k s t) {n : Nat} (hn : k.who n) (b : NoticeBody) :
    Within k s (offerNotice t n b) := by
  unfold offerNotice
  dsimp only
  split <;> simp [h, hn]

@[simp] theorem Within.after_loadOwed (h : Within k s t) (he : k.ends) : Within k s (loadOwed t) := by
  unfold loadOwed
  split
  · exact h
  · rename_i n hf
    have ho := List.find?_some hf
    split
    · exact h
    · rename_i b _
      refine Within.after_bumpSeq (Within.modNotice ?_ he (.inr (.inr ?_)) _ (fun _ => rfl))
      · exact h.marks _
      · exact ho

@[simp] theorem Within.after_noticeLeaves (h : Within k s t) (he : k.ends) (p : Notice → Bool) :
    Within k s (noticeLeaves t p) := by
  have hm : Within k s (t.withSched { t.sched with notice := t.sched.notice.filter (fun m => !p m) }) :=
    h.marks _
  unfold noticeLeaves
  dsimp only
  split
  · exact hm.after_loadOwed he
  · exact hm

@[simp] theorem Within.after_withdrawNotice (h : Within k s t) (he : k.ends) (n : Nat) :
    Within k s (withdrawNotice t n) := by
  unfold withdrawNotice
  dsimp only
  split
  · exact h
  · exact (h.foldl _ _ (fun _ _ _ hu => hu.after_withdrawTx _)).after_noticeLeaves he _

theorem Within.appendDone (h : Within k s t) (he : k.ends) (e : DoneEntry) :
    Within k s (t.withSched { t.sched with doneQ := t.sched.doneQ ++ [e] }) := by
  obtain ⟨h1, h2, h3, h4, h5, h6, h7⟩ := h.sched
  exact h.withSched _ ⟨h1, h2, h3, h4, h5, h6.trans (List.prefix_append _ _), fun hn => absurd he hn⟩

@[simp] theorem Within.after_pushDone (h : Within k s t) (he : k.ends) (d : DoneBody) :
    Within k s (pushDone t d) := (h.appendDone he _).after_bumpSeq

@[simp] theorem Within.after_reportEnd (h : Within k s t) {n : Nat} (hn : k.who n) (he : k.ends)
    (d : DoneBody) : Within k s (reportEnd t n d) := by
  unfold reportEnd
  split
  · simp [h, hn, he]
  · exact (h.after_setCtx (.inl hn) _).marks _

/-! ### Slot views -/

@[simp] theorem modView_view (s : State) (sd : Side) (f : SlotView → SlotView) :
    view (modView s sd f) sd = f (view s sd) := by cases sd <;> rfl

/-- A change of a view that is not LOADED_OUT, or in a scope that starts steps, and that sets neither its
FIRE cause nor an owed resend. -/
theorem Within.after_modView' (h : Within k s t) (sd : Side) (f : SlotView → SlotView)
    (hs : k.steps ∨ (view t sd).state ≠ .loadedOut)
    (hf : ∀ v, (f v).fireClosed = v.fireClosed := by exact fun _ => rfl)
    (hr : ∀ v, (f v).resendOwed = true → v.resendOwed = true := by exact fun _ hv => hv) :
    Within k s (modView t sd f) :=
  h.after_modView sd f ⟨fun _ => hf _, hr _, fun hn hl => absurd hl (hs.resolve_left hn)⟩

/-- A change of a view that leaves its state, tag, refusal and frame, its FIRE cause and an owed resend. -/
theorem Within.modViewSame (h : Within k s t) (sd : Side) (f : SlotView → SlotView)
    (hf : ∀ v, (f v).fireClosed = v.fireClosed := by exact fun _ => rfl)
    (hr : ∀ v, (f v).resendOwed = true → v.resendOwed = true := by exact fun _ hv => hv)
    (hl : ∀ v, (f v).state = v.state ∧ (f v).tag = v.tag ∧ (f v).loadRefused = v.loadRefused ∧
      (f v).pend = v.pend := by exact fun _ => ⟨rfl, rfl, rfl, rfl⟩) : Within k s (modView t sd f) :=
  h.after_modView sd f ⟨fun _ => hf _, hr _, fun _ hst => by
    obtain ⟨h1, h2, h3, h4⟩ := hl (view t sd)
    exact ⟨h1.trans hst, h2, h3, h4⟩⟩

theorem Within.after_postSlot (h : Within k s t) (sd : Side) (g : Tag) (p : Payload)
    (hs : k.steps ∨ (view t sd).state ≠ .loadedOut) : Within k s (postSlot t sd g p) :=
  (h.after_modView' sd _ hs).after_bumpSeq

theorem Within.after_answerSlot (h : Within k s t) (sd : Side) (g : Tag) (p : Payload)
    (hs : k.steps ∨ (view t sd).state ≠ .loadedOut) : Within k s (answerSlot t sd g p) := by
  unfold answerSlot
  split
  · exact h.after_postSlot sd g p hs
  · exact h

theorem Within.after_postWaiting (h : Within k s t) (sd : Side) (w : SlotWait)
    (hs : k.steps ∨ (view t sd).state ≠ .loadedOut) : Within k s (postWaiting t sd w) := by
  unfold postWaiting
  split
  · exact h.after_postSlot sd _ _ hs
  · split
    · split
      · exact h.after_postSlot sd _ _ hs
      · exact h
    · exact h

@[simp] theorem view_bumpSeq (s : State) (sd : Side) : view (bumpSeq s) sd = view s sd := by
  cases sd <;> rfl

@[simp] theorem view_postWaiting_state (s : State) (sd : Side) (w : SlotWait) :
    (view (postWaiting s sd w) sd).state = (view s sd).state := by
  unfold postWaiting
  split
  · simp [postSlot]
  · split
    · split <;> simp [postSlot]
    · rfl

theorem Within.after_postFirst (h : Within k s t) (sd : Side) (ws : List SlotWait)
    (hs : k.steps ∨ (view t sd).state ≠ .loadedOut) : Within k s (postFirst t sd ws) := by
  induction ws generalizing t with
  | nil => exact h.modViewSame sd _
  | cons w ws ih =>
    have h1 : Within k s (modView t sd (fun v => { v with waiting := ws })) := h.modViewSame sd _
    have h2 := h1.after_postWaiting sd w (by simpa using hs)
    unfold postFirst
    dsimp only
    split
    · exact h2
    · exact ih h hs

theorem Within.after_slotFrameLeaves (h : Within k s t) (sd : Side)
    (hs : k.steps ∨ (view t sd).state ≠ .loadedOut) : Within k s (slotFrameLeaves t sd) :=
  (h.after_modView' sd _ hs).after_postFirst sd _ (by simpa using hs)

theorem Within.after_postSlotData (h : Within k s t) (sd : Side) (w : SlotWait)
    (hs : k.steps ∨ (view t sd).state ≠ .loadedOut) : Within k s (postSlotData t sd w) := by
  unfold postSlotData
  split
  · exact h.after_postWaiting sd w hs
  · split
    · exact h.after_postWaiting sd w hs
    · exact h.modViewSame sd _

@[simp] theorem view_bumpTag (s : State) (sd : Side) : view (bumpTag s) sd = view s sd := by
  cases sd <;> rfl

@[simp] theorem view_withdrawTx (s : State) (q : Nat) (sd : Side) :
    view (withdrawTx s q) sd = view s sd := by
  unfold withdrawTx
  split
  · rfl
  · split
    · cases sd <;> rfl
    · rfl

/-- A side that qualifies for a spill is FREE. -/
theorem qualifies_free {s : State} {sd : Side} (h : qualifies s sd = true) :
    (view s sd).state = .free := by
  simp only [qualifies, Bool.and_eq_true, decide_eq_true_eq] at h
  tauto

theorem Within.after_claimSide (h : Within k s t) (sd : Side) (n : Nat) (b : BinId)
    (hq : qualifies t sd = true) : Within k s (claimSide t sd n b) := by
  have hv : (view t sd).state ≠ .loadedOut := by rw [qualifies_free hq]; decide
  have h1 := h.after_bumpTag.after_postSlot sd t.slots.nextTag (.slotClaim b) (.inr (by simpa using hv))
  unfold claimSide
  dsimp only
  refine h1.after_modView' sd _ (.inr ?_)
  simpa [postSlot] using hv

@[simp] theorem Within.after_spillRequest (h : Within k s t) {n : Nat} (hn : k.who n) (b : BinId) :
    Within k s (spillRequest t n b) := by
  unfold spillRequest
  split
  · rename_i sd hf
    exact (h.after_claimSide sd n b (List.find?_some hf)).after_stall hn _
  · exact h.after_stall hn _

@[simp] theorem Within.after_refusalPath (h : Within k s t) (n : Nat) (sd : Side) :
    Within k s (refusalPath t n sd) := by
  unfold refusalPath
  split
  · rename_i hst
    simp only [stalledOn, decide_eq_true_eq] at hst
    split
    · rename_i hq
      exact h.after_claimSide _ _ _ hq.2
    · exact h.after_stall' (h.of_stalled hst.1) _
  · exact h

@[simp] theorem Within.after_settleRace (h : Within k s t) (sd : Side) : Within k s (settleRace t sd) := by
  unfold settleRace
  split
  · exact h
  · exact (h.modViewSame sd _).after_refusalPath _ _

theorem Within.after_freeView (h : Within k s t) (sd : Side)
    (hs : k.steps ∨ (view t sd).state ≠ .loadedOut) : Within k s (freeView t sd) := by
  have h1 := h.after_modView' sd (fun v =>
    { v with
      state := .free, tag := 0, ctx := none, bin := none, resendOwed := false,
      loadRefused := false, claimTimer := none, shelfFull := false })
    hs (fun _ => rfl) (fun _ hv => by cases hv)
  unfold freeView
  dsimp only
  split
  · exact h1.after_settleRace sd
  · exact (h1.after_wakeOn _).after_settleRace sd

@[simp] theorem view_postFirst_state (s : State) (sd : Side) (ws : List SlotWait) :
    (view (postFirst s sd ws) sd).state = (view s sd).state := by
  induction ws generalizing s with
  | nil => simp [postFirst]
  | cons w ws ih =>
    unfold postFirst
    dsimp only
    split
    · simp
    · rw [ih]

@[simp] theorem view_slotFrameLeaves_state (s : State) (sd : Side) :
    (view (slotFrameLeaves s sd) sd).state = (view s sd).state := by simp [slotFrameLeaves]

@[simp] theorem view_unpostClaim_state (s : State) (sd : Side) :
    (view (unpostClaim s sd) sd).state = (view s sd).state := by
  unfold unpostClaim
  split <;> simp

theorem Within.after_unpostClaim (h : Within k s t) (sd : Side)
    (hs : k.steps ∨ (view t sd).state ≠ .loadedOut) : Within k s (unpostClaim t sd) := by
  unfold unpostClaim
  split
  · exact h
  · exact (h.after_withdrawTx _).after_slotFrameLeaves sd (by simpa using hs)

@[simp] theorem Within.after_withdrawClaim (h : Within k s t) (sd : Side) :
    Within k s (withdrawClaim t sd) := by
  unfold withdrawClaim
  dsimp only
  split
  · rename_i hc
    simp only [claimPending, decide_eq_true_eq] at hc
    have hv : k.steps ∨ (view t sd).state ≠ .loadedOut := .inr (by rw [hc.1]; decide)
    have h1 := (h.after_unpostClaim sd hv).after_freeView sd (by simpa using hv)
    split
    · exact h1
    · exact h1.after_refusalPath _ _
  · exact h

theorem Within.after_claimRefused (h : Within k s t) (sd : Side)
    (hs : k.steps ∨ (view t sd).state ≠ .loadedOut) : Within k s (claimRefused t sd) := by
  unfold claimRefused
  dsimp only
  split
  · exact h.after_freeView sd hs
  · exact (h.after_freeView sd hs).after_refusalPath _ _

@[simp] theorem Within.after_overlayLifted (h : Within k s t) (sd : Side) :
    Within k s (overlayLifted t sd) := by
  unfold overlayLifted
  split <;> simp [h]

/-! ### The end of a context -/

theorem view_settleRace_west (s : State) : (view (settleRace s .west) .west).state = (view s .west).state := by
  unfold settleRace
  split
  · rfl
  · unfold refusalPath
    split
    · split
      · simp [claimSide, postSlot, modView, setView, view, bumpSeq, bumpTag]
      · rfl
    · simp

theorem view_settleRace_east (s : State) : (view (settleRace s .east) .east).state = (view s .east).state := by
  unfold settleRace
  split
  · rfl
  · unfold refusalPath
    split
    · rw [if_neg (by simp)]
      rfl
    · simp

/-- Freeing a view leaves it FREE. -/
theorem view_freeView_state (s : State) (sd : Side) : (view (freeView s sd) sd).state = .free := by
  have key : ∀ t : State, (view (settleRace t sd) sd).state = (view t sd).state := by
    intro t
    cases sd
    · exact view_settleRace_west t
    · exact view_settleRace_east t
  unfold freeView
  dsimp only
  split
  · rw [key]; simp
  · rw [key]
    cases sd <;> rfl

@[simp] theorem Within.after_leaveView (h : Within k s t) (n : Nat) (sd : Side) :
    Within k s (leaveView n t sd) := by
  have hctx : Within k s (modView t sd (fun v => { v with ctx := none })) :=
    h.modViewSame sd _
  unfold leaveView
  split
  · split
    · rename_i hst
      have hv : k.steps ∨ (view t sd).state ≠ .loadedOut := .inr (by rw [hst]; decide)
      split
      · exact (h.after_unpostClaim sd hv).after_freeView sd (by simpa using hv)
      · exact hctx
    · rename_i hst
      have hv : k.steps ∨ (view t sd).state ≠ .loadedOut := .inr (by rw [hst]; decide)
      exact (h.after_freeView sd hv).after_answerSlot sd _ _ (.inr (by rw [view_freeView_state]; decide))
    · exact hctx
  · exact h

@[simp] theorem Within.after_leaveRace (h : Within k s t) (n : Nat) (sd : Side) :
    Within k s (leaveRace n t sd) := by
  unfold leaveRace
  split
  · exact h.modViewSame sd _
  · exact h

@[simp] theorem Within.after_endCtx (h : Within k s t) {n : Nat} (hn : k.who n) (he : k.ends)
    (o : JobOutcome) (d : Nat) : Within k s (endCtx t n o d) := by
  unfold endCtx
  dsimp only
  split
  · exact h
  · refine Within.foldl _ _ (fun _ sd _ hu => hu.after_leaveView n sd) ?_
    refine Within.foldl _ _ (fun _ sd _ hu => hu.after_leaveRace n sd) ?_
    have h1 := (h.after_leaveList n).after_forgetStep n
    have h2 := (h1.after_withdrawNotice he n).after_reportEnd hn he
    exact ((h2 _).after_moveOverflow he).after_wakeWhere _

@[simp] theorem Within.after_voidGrant (h : Within k s t) (hw : ∀ n, k.who n) (he : k.ends)
    (hs : k.steps) (sd : Side) : Within k s (voidGrant t sd) := by
  unfold voidGrant
  split
  · split
    · exact h.after_freeView sd (.inl hs)
    · exact (h.after_endCtx (hw _) he _ _).after_freeView sd (.inl hs)
  · exact h

@[simp] theorem Within.after_resendLoaded (h : Within k s t) (hs : k.steps) (sd : Side) :
    Within k s (resendLoaded t sd) := by
  unfold resendLoaded
  split
  · refine Within.after_postWaiting ?_ sd _ (.inl hs)
    exact h.modViewSame sd _ (hr := fun _ hv => by cases hv)
  · exact h

end Sys2Proof.Machine
end

section
/-! PROOFS. Step starts, the scheduler's choice, the shutters and the sides' overlays are work within a scope
too, and so is the end of an event in a node state that the event's end does not change. -/

namespace Sys2Proof.Machine

open Sys2Proof

-- In turn, so that the proofs do not hold more threads at once than the memory limit has stacks for.
set_option Elab.async false

variable {k : Scope} {s t : State}

/-! ### The motion port -/

/-- A change of the shutters and of the commands sent. -/
theorem Within.shutters (h : Within k s t) (v : Motion)
    (hv : PortMove k t.motion v := by exact ⟨rfl, rfl, fun _ => rfl⟩) :
    Within k s (t.withMotion v) := h.withMotion v hv

theorem Within.after_setShutter (h : Within k s t) (sh : ShutterId) (v : Shutter) :
    Within k s (setShutter t sh v) := by
  cases sh <;> exact h.shutters _

theorem Within.after_send (h : Within k s t) (c : MotionCmd) : Within k s (send t c) := h.shutters _

theorem Within.after_askShutter (h : Within k s t) (sh : ShutterId) (p : ShutterPos) :
    Within k s (askShutter t sh p) := by
  unfold askShutter
  dsimp only
  split
  · exact h.after_setShutter sh _
  · exact h.after_setShutter sh _
  · exact h.after_setShutter sh _
  · exact h.after_setShutter sh _
  · split
    · exact (h.after_setShutter sh _).after_send _
    · exact h.after_setShutter sh _
  · split
    · exact (h.after_setShutter sh _).after_send _
    · exact h.after_setShutter sh _

theorem Within.after_launch (h : Within k s t) (hs : k.steps) (x : Xfer) : Within k s (launch t x) :=
  h.withMotion _ ⟨rfl, rfl, fun hn => absurd hs hn⟩

theorem Within.after_releaseHeld (h : Within k s t) (hs : k.steps) : Within k s (releaseHeld t) := by
  unfold releaseHeld
  split
  · exact h
  · split
    · exact h.after_launch hs _
    · split
      · exact h
      · exact h.after_launch hs _

theorem Within.after_beginTransfer (h : Within k s t) {n : Nat} (hn : k.who n) (hs : k.steps)
    (e : StepKind) (src dst : Pos) : Within k s (beginTransfer t n e src dst) := by
  have h1 := h.after_modCtx (.inl hn) (fun c => { c with step := some { kind := e, bin := none } })
  unfold beginTransfer
  dsimp only
  split
  · exact h1.withMotion _ ⟨rfl, rfl, fun hn => absurd hs hn⟩
  · exact h1.after_launch hs _

theorem Within.after_commandPutAway (h : Within k s t) (hs : k.steps) :
    Within k s (commandPutAway t) := by
  unfold commandPutAway
  split
  · exact h
  · split
    · split
      · exact h
      · exact h.after_launch hs _
    · exact h

/-! ### Step starts -/

theorem Within.after_skipEntries (h : Within k s t) {n : Nat} (hn : k.who n) (j : Nat) :
    Within k s (skipEntries j t n) := by
  induction j generalizing t with
  | zero => exact h
  | succ j ih =>
    unfold skipEntries
    split
    · exact h
    · split
      · exact ih (h.after_modCtx (.inl hn) _)
      · exact h

theorem Within.after_endRestore (h : Within k s t) {n : Nat} (hn : k.who n) :
    Within k s (endRestore t n) := (h.after_modCtx (.inl hn) _).after_releaseLock hn

theorem Within.after_restoreOver (h : Within k s t) {n : Nat} (hn : k.who n) :
    Within k s (restoreOver t n) := by
  unfold restoreOver
  split
  · exact h.after_endRestore hn
  · exact h

theorem Within.after_aim (h : Within k s t) {n : Nat} (hn : k.who n) (j : Nat) :
    Within k s (aim j t n).1 := by
  induction j generalizing t with
  | zero => exact h
  | succ j ih =>
    unfold aim
    split
    · exact h
    · split
      · have h1 : Within k s (if (ctxOf t n).tagFault = true then modCtx t n giveUpWaiting else t) := by
          split
          · exact h.after_modCtx (.inl hn) _
          · exact h
        dsimp only
        split
        · exact h1
        · exact ih (h1.after_modCtx (.inl hn) _)
      · split
        · split
          · exact ih (h.after_modCtx (.inl hn) _)
          · exact h
        · exact ih (h.after_modCtx (.inl hn) _)

theorem Within.after_spillOrWait (h : Within k s t) {n : Nat} (hn : k.who n) (b : BinId) :
    Within k s (spillOrWait t n b) := by
  unfold spillOrWait
  split
  · exact h.after_stall hn _
  · exact h.after_spillRequest hn b

theorem Within.after_intoSlot (h : Within k s t) {n : Nat} (hn : k.who n) (hs : k.steps)
    (e : StepKind) (src : Pos) (sd : Side) : Within k s (intoSlot t n e src sd) := by
  unfold intoSlot
  split
  · exact h.after_stall hn _
  · exact h.after_beginTransfer hn hs _ _ _

theorem Within.after_digStart (h : Within k s t) {n : Nat} (hn : k.who n) (hs : k.steps) (c : Nat) :
    Within k s (digStart t n c) := by
  unfold digStart
  split
  · exact h
  · split
    · exact h.after_intoSlot hn hs _ _ _
    · split
      · exact h.after_beginTransfer hn hs _ _ _
      · exact h.after_spillOrWait hn _

theorem Within.after_deliveryStart (h : Within k s t) {n : Nat} (hn : k.who n) (hs : k.steps)
    (c : Nat) : Within k s (deliveryStart t n c) := by
  have h1 := h.after_modCtx (.inl hn) (fun c => { c with reserved := true })
  unfold deliveryStart
  dsimp only
  split
  · split
    · exact h1.after_beginTransfer hn hs _ _ _
    · exact h1.after_stall hn _
  · exact h.after_stall hn _

theorem Within.after_targetStep (h : Within k s t) {n : Nat} (hn : k.who n) (hs : k.steps)
    (c i : Nat) : Within k s (targetStep t n c i) := by
  have h1 := h.after_modCtx (.inl hn) (fun e => { e with digRemaining := depthOf t c i })
  unfold targetStep
  dsimp only
  split
  · exact h1.after_digStart hn hs c
  · split
    · exact h1.after_beginTransfer hn hs _ _ _
    · exact h1.after_deliveryStart hn hs c

theorem Within.after_aimStart (h : Within k s t) {n : Nat} (hn : k.who n) (he : k.ends)
    (hs : k.steps) : Within k s (aimStart t n) := by
  have h1 := h.after_aim hn 9
  unfold aimStart
  split
  · rename_i u e
    rw [e] at h1
    exact h1.after_endCtx hn he _ _
  · rename_i u c i e
    rw [e] at h1
    split
    · exact h1.after_stall hn _
    · exact (h1.after_takeLock hn c).after_targetStep hn hs c i

theorem Within.after_retrievalStart (h : Within k s t) {n : Nat} (hn : k.who n) (he : k.ends)
    (hs : k.steps) : Within k s (retrievalStart t n) := by
  have h1 := h.after_skipEntries hn (ctxOf t n).reloc.length
  unfold retrievalStart
  dsimp only
  split
  · split
    · exact h1.after_beginTransfer hn hs _ _ _
    · exact (h1.after_endRestore hn).after_aimStart hn he hs
  · exact h.after_aimStart hn he hs

theorem Within.after_putAwayStart (h : Within k s t) {n : Nat} (hn : k.who n) (hs : k.steps)
    (b : BinId) (d : Nat) (src : Pos) : Within k s (putAwayStart t n b d src) := by
  unfold putAwayStart
  split
  · exact h.after_intoSlot hn hs _ _ _
  · split
    · exact h.after_beginTransfer hn hs _ _ _
    · exact h.after_spillOrWait hn _

theorem Within.after_stepStart (h : Within k s t) {n : Nat} (hn : k.who n) (he : k.ends)
    (hs : k.steps) : Within k s (stepStart t n) := by
  have hstow : Within k s (stowStart t n) := by
    unfold stowStart
    split
    · exact h.after_stall hn _
    · split
      · exact h.after_putAwayStart hn hs _ _ _
      · exact h.after_endCtx hn he _ _
  have hspill : Within k s (spillStart t n) := by
    unfold spillStart
    split
    · split
      · exact (h.after_freeView _ (.inl hs)).after_endCtx hn he _ _
      · split
        · exact h.after_stall hn _
        · exact h.after_putAwayStart hn hs _ _ _
    · exact h.after_endCtx hn he _ _
  have hreclaim : Within k s (reclaimStart t n) := by
    unfold reclaimStart
    split
    · split
      · exact h.after_endCtx hn he _ _
      · split
        · exact h.after_beginTransfer hn hs _ _ _
        · exact h.after_stall hn _
    · exact h.after_endCtx hn he _ _
  unfold stepStart
  split
  · exact h.after_retrievalStart hn he hs
  · exact h.after_retrievalStart hn he hs
  · exact hstow
  · exact hspill
  · exact hreclaim

theorem Within.after_activate (h : Within k s t) {n : Nat} (hn : k.who n) :
    Within k s (activate t n) := (h.after_leaveList n).after_modCtx (.inl hn) _

/-! ### The scheduler's choice -/

/-- The context the scheduler would choose stands in a ready list. -/
theorem headReady_listed {n : Nat} (h : headReady s = some n) : ∃ l ∈ s.sched.ready, n ∈ l := by
  obtain ⟨l, hl, hn⟩ := List.exists_of_findSome?_eq_some h
  exact ⟨l, List.mem_reverse.mp hl, List.mem_of_head? hn⟩

/-- The scheduler chooses no context that is out of its lists and cannot be woken into one. -/
theorem Within.after_runSchedule (h : Within k s t) (he : k.ends) (hs : k.steps)
    (hw : ∀ m, k.who m ∨ (ctxOf s m).state ≠ .stalled ∧ ¬ ∃ l ∈ s.sched.ready, m ∈ l) (j : Nat) :
    Within k s (runSchedule j t) := by
  induction j generalizing t with
  | zero => exact h.after_flushWoken
  | succ j ih =>
    have h1 := h.after_flushWoken
    unfold runSchedule
    dsimp only
    split
    · split
      · exact h1
      · rename_i n hn
        have hwho : k.who n := by
          by_contra hc
          obtain ⟨hst, hl⟩ := (hw n).resolve_left hc
          exact hl (h1.sched.listed n hc hst (headReady_listed hn))
        exact ih ((h1.after_activate hwho).after_stepStart hwho he hs)
    · exact h1

/-! ### The overlays -/

theorem Within.after_dropHeld (h : Within k s t) (hw : ∀ n, k.who n) (hs : k.steps) :
    Within k s (dropHeld t) := by
  unfold dropHeld
  dsimp only
  split
  · exact h
  · have h1 : Within k s (t.withMotion { t.motion with held := none }) :=
      h.withMotion _ ⟨rfl, rfl, fun hn => absurd hs hn⟩
    split
    · exact h1
    · exact h1.after_modCtx (.inl (hw _)) _

theorem dropHeldAt_none (s : State) (sd : Side) (h : s.motion.held = none) : dropHeldAt s sd = s := by
  simp [dropHeldAt, h]

/-- A side that closes stalls the context of a transfer held for it, if any is. -/
theorem Within.after_dropHeldAt (h : Within k s t) (sd : Side)
    (hh : t.motion.held = none ∨ (∀ n, k.who n) ∧ k.steps) : Within k s (dropHeldAt t sd) := by
  rcases hh with hh | ⟨hw, hs⟩
  · rw [dropHeldAt_none t sd hh]; exact h
  · unfold dropHeldAt
    split
    · split
      · exact h
      · exact (h.after_dropHeld hw hs).after_stall (hw _) _
    · exact h

/-- What follows from a change of an overlay is work on the state the change leaves. -/
theorem Within.after_changeOverlay {f : State → State} (h : Within k s (f t)) (sd : Side)
    (hh : (f t).motion.held = none ∨ (∀ n, k.who n) ∧ k.steps) :
    Within k s (changeOverlay sd f t) := by
  unfold changeOverlay
  dsimp only
  split
  · split
    · exact h
    · exact h.after_overlayLifted sd
  · split
    · exact (h.after_dropHeldAt sd hh).after_withdrawClaim sd
    · exact h

/-- A change of a side's FIRE cause, in a scope that follows the neighbours' zones. -/
theorem Within.fireCause (h : Within k s t) (hg : k.guards) (b : Bool) (sd : Side) :
    Within k s (modView t sd (fun v => { v with fireClosed := b })) :=
  h.after_modView sd _ ⟨fun hn => absurd hg hn, fun hv => hv, fun _ hl => ⟨hl, rfl, rfl, rfl⟩⟩

@[simp] theorem modView_motion (s : State) (sd : Side) (f : SlotView → SlotView) :
    (modView s sd f).motion = s.motion := by simp [modView]

theorem Within.after_setFireCause (h : Within k s t) (hg : k.guards) (b : Bool) (sd : Side)
    (hh : t.motion.held = none ∨ (∀ n, k.who n) ∧ k.steps) : Within k s (setFireCause t b sd) :=
  (h.fireCause hg b sd).after_changeOverlay sd (by simpa using hh)

@[simp] theorem nbr_modView (s : State) (sd e : Side) (f : SlotView → SlotView) :
    nbr (modView s sd f) e = nbr s e := by cases sd <;> cases e <;> rfl

/-- Lifting a FIRE cause closes no side. -/
theorem Within.after_liftFireCause (h : Within k s t) (hg : k.guards) (sd : Side) :
    Within k s (setFireCause t false sd) := by
  have h1 := h.fireCause hg false sd
  unfold setFireCause changeOverlay
  dsimp only
  split
  · split
    · exact h1
    · exact h1.after_overlayLifted sd
  · rename_i hc
    rw [if_neg]
    · exact h1
    · intro hx
      apply hc
      simp only [sideClosed, modView_view, notBay, absent, nbr_modView, decide_eq_true_eq] at hx ⊢
      tauto

/-- Following a neighbour's zone: only in GUARD may a side be closed. -/
theorem Within.after_guardSide (h : Within k s t) (hg : k.guards) (sd : Side)
    (hh : t.motion.held = none ∨ t.fire.node ≠ .guarded ∨ (∀ n, k.who n) ∧ k.steps) :
    Within k s (guardSide t sd) := by
  unfold guardSide
  split
  · rename_i hguard
    have h1 : Within k s (if (view t sd).fireClosed = true then t else setFireCause t true sd) := by
      split
      · exact h
      · refine h.after_setFireCause hg true sd ?_
        rcases hh with hh | hh | hh
        · exact .inl hh
        · exact absurd hguard.1 hh
        · exact .inr hh
    extract_lets u
    split
    · exact h1
    · exact h1.after_askShutter _ _
  · split
    · have h1 : Within k s (if (shutter t (sideShutter sd)).asked = some .opened then t
          else askShutter t (sideShutter sd) .opened) := by
        split
        · exact h
        · exact h.after_askShutter _ _
      extract_lets u
      split
      · exact h1.after_liftFireCause hg sd
      · exact h1
    · exact h

/-- The scope of following the neighbours' zones and nothing else. -/
def Scope.zones : Scope := { who := fun _ => False, ends := False, steps := False, guards := True }

theorem Within.after_guardSides (h : Within k s t) (hg : k.guards)
    (hh : t.motion.held = none ∨ t.fire.node ≠ .guarded ∨ (∀ n, k.who n) ∧ k.steps) :
    Within k s (guardSides t) := by
  have h1 := h.after_guardSide hg .west hh
  refine h1.after_guardSide hg .east ?_
  rcases hh with hh | hh | hh
  · have hz : Within Scope.zones t (guardSide t .west) :=
      (Within.refl _ t).after_guardSide trivial .west (.inl hh)
    have hd := hz.port.drive (fun hf => hf)
    simp only [Motion.drive, Prod.mk.injEq] at hd
    exact .inl (hd.2.2.1.trans hh)
  · refine .inr (.inl ?_)
    rw [h1.fire, ← h.fire]
    exact hh
  · exact .inr (.inr hh)

/-! ### The end of an event -/

theorem Within.after_resendAll (h : Within k s t) (hs : k.steps) :
    Within k s (sides.foldl resendLoaded t) :=
  h.foldl _ _ (fun _ sd _ hu => hu.after_resendLoaded hs sd)

/-- The end of an event in a node state that it does not decide anew. -/
theorem settle_eq (s : State) (hs : s.fire.node ≠ .shutdown) (hr : s.fire.node ≠ .resuming) :
    settle s = sides.foldl resendLoaded
      (runSchedule scheduleBound (commandPutAway (guardSides (moveOverflow s)))) := by
  have h1 : shutdownSync (moveOverflow s) = moveOverflow s :=
    shutdownSync_elsewhere _ (by rw [moveOverflow_fire]; exact hs)
  have h2 : resumeSync (moveOverflow s) = moveOverflow s :=
    resumeSync_elsewhere _ (by rw [moveOverflow_fire]; exact hr)
  rw [settle, h1, h2]

end Sys2Proof.Machine
end

section
/-! PROOFS. The laws at reset (O3), and a state that the law of the motion interface lets through and a step
takes out of it (O7). -/

namespace Sys2Proof.Machine

open Sys2Proof

-- In turn, so that the proofs do not hold more threads at once than the memory limit has stacks for.
set_option Elab.async false

/-- Settles O3. -/
theorem lawsHoldAtReset : Obligations.LawsHoldAtReset := by
  refine ⟨?_, ?_, ?_, ?_, ?_⟩ <;> decide

/-- A node in RUN beside a neighbour in zone 5, with a transfer of no context held for a store update, a record
in the overflow place, and a FIRE for zone 5 at the front of its queue. -/
def heldForNobody : State :=
  { State.reset with
    inv := { Image.blank with overflow := some 7 }
    fire := { State.reset.fire with node := .run }
    motion :=
      { State.reset.motion with
        held := some { src := .park, dst := .column 0, retarget := none, owner := none,
                       abandonSent := false, setDown := false } }
    bus :=
      { State.reset.bus with
        nbWest := { Neighbour.blank (some 8) with role := .bay, zone := some 5, present := true } }
    pending := [.fire { src := 3, dst := 0, tag := 0 } 32#16] }

/-- The entry into GUARD drops a held transfer by way of its context, and this one has none; the overflow
record's move is a store update, so the event's end keeps the transfer held. -/
theorem motionLaw_lost : MotionLaw heldForNobody ∧ ∃ t, step heldForNobody = .next t ∧ ¬ MotionLaw t :=
  ⟨by decide, _, rfl, by decide +kernel⟩

/-- Refutes O7, in its law of the motion interface: a transfer that no context owns stays held for a store
update through the entry into GUARD. -/
theorem not_tablesKeepTheirSizes : ¬ Obligations.TablesKeepTheirSizes := by
  unfold Obligations.TablesKeepTheirSizes
  rintro ⟨-, hmotion⟩
  obtain ⟨hlaw, t, ht, hlost⟩ := motionLaw_lost
  exact hlost (hmotion _ _ hlaw ht)

end Sys2Proof.Machine
end

section
/-! PROOFS. What a command can change. `Reach a s t` says that `t` differs from `s`, in the parts listed, only
where `a` allows it, and that the canonical form of the bin records is kept. -/

namespace Sys2Proof.Machine

open Sys2Proof

-- In turn, so that the proofs do not hold more threads at once than the memory limit has stacks for.
set_option Elab.async false

/-! ### Reaching a state -/

/-- The parts of the state that few commands change: the wares are the bin records, the columns and the chute. -/
inductive Part where
  | board | image | setup | det | latch | zones | stow | wares

/-- The bin records, the columns and the chute. -/
def waresOf (s : State) := (s.inv.records, s.inv.columns, s.motion.chute, s.motion.reason)

/-- RESUMING has asked its shutters OPEN, so the end of an event may end it. -/
def Opened (s : State) : Prop := s.fire.node = .resuming ∧ s.fire.opening = true

/-- `t` is reached from `s`, and only the parts that `a` allows have changed. -/
structure Reach (a : Part → Prop) (s t : State) : Prop where
  pending : t.pending = s.pending
  sorted : RecordsSorted s → RecordsSorted t
  board : ¬ a .board → t.board = s.board
  image : ¬ a .image → t.store.image = s.store.image
  setup : ¬ a .setup → t.setup = s.setup
  det : ¬ a .det → t.det = s.det
  latch : ¬ a .latch → t.fire.latch = s.fire.latch
  zones : ¬ a .zones → t.fire.zones = s.fire.zones
  stow : ¬ a .stow → t.stow = s.stow
  wares : ¬ a .wares → waresOf t = waresOf s
  opens : ¬ a .wares → Opened t → Opened s

theorem Reach.refl (a : Part → Prop) (s : State) : Reach a s s where
  pending := rfl
  sorted h := h
  board _ := rfl
  image _ := rfl
  setup _ := rfl
  det _ := rfl
  latch _ := rfl
  zones _ := rfl
  stow _ := rfl
  wares _ := rfl
  opens _ h := h

theorem Reach.trans {a : Part → Prop} {s t u : State} (h : Reach a s t) (g : Reach a t u) :
    Reach a s u where
  pending := g.pending.trans h.pending
  sorted hs := g.sorted (h.sorted hs)
  board ha := (g.board ha).trans (h.board ha)
  image ha := (g.image ha).trans (h.image ha)
  setup ha := (g.setup ha).trans (h.setup ha)
  det ha := (g.det ha).trans (h.det ha)
  latch ha := (g.latch ha).trans (h.latch ha)
  zones ha := (g.zones ha).trans (h.zones ha)
  stow ha := (g.stow ha).trans (h.stow ha)
  wares ha := (g.wares ha).trans (h.wares ha)
  opens ha ho := h.opens ha (g.opens ha ho)

/-- The updates being written keep their pictures in canonical form where their pictures are the same. -/
theorem queue_sorted {q r : List StoreUpdate} (h : r.map (·.image) = q.map (·.image))
    (hq : ∀ u ∈ q, sortedRecords u.image.records) : ∀ u ∈ r, sortedRecords u.image.records := by
  intro u hu
  have hmem : u.image ∈ q.map (·.image) := h ▸ List.mem_map_of_mem hu
  obtain ⟨v, hv, he⟩ := List.mem_map.mp hmem
  exact he ▸ hq v hv

/-- Work within any scope changes none of the parts. -/
theorem Within.reach {k : Scope} {s t : State} (a : Part → Prop) (w : Within k s t) : Reach a s t := by
  have hk := kept_of_lasting w.lasts
  have hg := goods_of_lasting w.lasts
  simp only [kept, goods, Prod.mk.injEq] at hk hg
  obtain ⟨h1, h2, h3, h4, h5, h6, h7, h8, h9, h10, h11, h12, h13, h14⟩ := hk
  obtain ⟨g1, g2, g3, g4, g5, g6, g7, g8⟩ := hg
  refine ⟨h10, ?_, fun _ => h1, fun _ => h2, fun _ => h7, fun _ => h4, fun _ => h6, fun _ => h5,
    fun _ => h3, fun _ => ?_, fun _ => ?_⟩
  · rintro ⟨hr, hi, hq⟩
    exact ⟨by rw [g1]; exact hr, by rw [h2]; exact hi, queue_sorted w.images hq⟩
  · simp only [waresOf, g1, g2, g6, g7]
  · rw [Opened, w.fire]; exact id

section Updates

variable {a : Part → Prop} {s t : State}

/-- Work within any scope. -/
theorem Reach.work (h : Reach a s t) {u : State} (w : Within Scope.any t u) : Reach a s u :=
  h.trans (w.reach a)

theorem Reach.sched (h : Reach a s t) (v : Sched) : Reach a s (t.withSched v) :=
  h.trans ⟨rfl, id, fun _ => rfl, fun _ => rfl, fun _ => rfl, fun _ => rfl, fun _ => rfl, fun _ => rfl,
    fun _ => rfl, fun _ => rfl, fun _ => id⟩

theorem Reach.slots (h : Reach a s t) (v : Slots) : Reach a s (t.withSlots v) :=
  h.trans ⟨rfl, id, fun _ => rfl, fun _ => rfl, fun _ => rfl, fun _ => rfl, fun _ => rfl, fun _ => rfl,
    fun _ => rfl, fun _ => rfl, fun _ => id⟩

theorem Reach.bus (h : Reach a s t) (v : Bus) : Reach a s (t.withBus v) :=
  h.trans ⟨rfl, id, fun _ => rfl, fun _ => rfl, fun _ => rfl, fun _ => rfl, fun _ => rfl, fun _ => rfl,
    fun _ => rfl, fun _ => rfl, fun _ => id⟩

theorem Reach.startup (h : Reach a s t) (v : Startup) : Reach a s (t.withStartup v) :=
  h.trans ⟨rfl, id, fun _ => rfl, fun _ => rfl, fun _ => rfl, fun _ => rfl, fun _ => rfl, fun _ => rfl,
    fun _ => rfl, fun _ => rfl, fun _ => id⟩

theorem Reach.free (h : Reach a s t) (v : Nat) : Reach a s (t.withFree v) :=
  h.trans ⟨rfl, id, fun _ => rfl, fun _ => rfl, fun _ => rfl, fun _ => rfl, fun _ => rfl, fun _ => rfl,
    fun _ => rfl, fun _ => rfl, fun _ => id⟩

theorem Reach.withStow (h : Reach a s t) (ha : a .stow) (v : Stow) : Reach a s (t.withStow v) :=
  h.trans ⟨rfl, id, fun _ => rfl, fun _ => rfl, fun _ => rfl, fun _ => rfl, fun _ => rfl, fun _ => rfl,
    fun hn => absurd ha hn, fun _ => rfl, fun _ => id⟩

theorem Reach.withDet (h : Reach a s t) (ha : a .det) (v : List DetInput) : Reach a s (t.withDet v) :=
  h.trans ⟨rfl, id, fun _ => rfl, fun _ => rfl, fun _ => rfl, fun hn => absurd ha hn, fun _ => rfl,
    fun _ => rfl, fun _ => rfl, fun _ => rfl, fun _ => id⟩

theorem Reach.withSetup (h : Reach a s t) (ha : a .setup) (v : Setup) : Reach a s (t.withSetup v) :=
  h.trans ⟨rfl, id, fun _ => rfl, fun _ => rfl, fun hn => absurd ha hn, fun _ => rfl, fun _ => rfl,
    fun _ => rfl, fun _ => rfl, fun _ => rfl, fun _ => id⟩

/-- A change of the motion port that leaves the chute, or may change the wares. -/
theorem Reach.motion (h : Reach a s t) (v : Motion)
    (hv : a .wares ∨ (v.chute, v.reason) = (t.motion.chute, t.motion.reason) := by exact .inr rfl) :
    Reach a s (t.withMotion v) := by
  refine h.trans ⟨rfl, id, fun _ => rfl, fun _ => rfl, fun _ => rfl, fun _ => rfl, fun _ => rfl,
    fun _ => rfl, fun _ => rfl, fun hn => ?_, fun _ => id⟩
  have hc := hv.resolve_left hn
  simp only [Prod.mk.injEq] at hc
  simp only [waresOf, State.withMotion_inv, State.withMotion_motion, hc.1, hc.2]

/-- A change of the fire controller that leaves the latch and the zones and does not open RESUMING's shutters. -/
theorem Reach.fire (h : Reach a s t) (v : FireCtl)
    (hl : a .latch ∨ v.latch = t.fire.latch := by exact .inr rfl)
    (hz : a .zones ∨ v.zones = t.fire.zones := by exact .inr rfl)
    (ho : a .wares ∨ (v.node = .resuming → v.opening = true → Opened t) := by exact .inr (fun hn _ => by cases hn)) :
    Reach a s (t.withFire v) :=
  h.trans ⟨rfl, id, fun _ => rfl, fun _ => rfl, fun _ => rfl, fun _ => rfl, fun hn => hl.resolve_left hn,
    fun hn => hz.resolve_left hn, fun _ => rfl, fun _ => rfl,
    fun hn hopen => (ho.resolve_left hn) hopen.1 hopen.2⟩

/-- A change of the inventory picture but for its records and columns. -/
theorem Reach.inv (h : Reach a s t) (v : Image)
    (hv : (v.records, v.columns) = (t.inv.records, t.inv.columns) := by exact rfl) :
    Reach a s (t.withInv v) := by
  simp only [Prod.mk.injEq] at hv
  refine h.trans ⟨rfl, ?_, fun _ => rfl, fun _ => rfl, fun _ => rfl, fun _ => rfl, fun _ => rfl,
    fun _ => rfl, fun _ => rfl, fun _ => ?_, fun _ => id⟩
  · rintro ⟨hr, hi, hq⟩
    exact ⟨by rw [State.withInv_inv, hv.1]; exact hr, hi, hq⟩
  · simp only [waresOf, State.withInv_inv, State.withInv_motion, hv.1, hv.2]

/-- A change of the inventory picture that keeps the canonical form of the records. -/
theorem Reach.goods (h : Reach a s t) (ha : a .wares) (v : Image)
    (hv : sortedRecords t.inv.records → sortedRecords v.records) : Reach a s (t.withInv v) := by
  refine h.trans ⟨rfl, ?_, fun _ => rfl, fun _ => rfl, fun _ => rfl, fun _ => rfl, fun _ => rfl,
    fun _ => rfl, fun _ => rfl, fun hn => absurd ha hn, fun hn => absurd ha hn⟩
  rintro ⟨hr, hi, hq⟩
  exact ⟨hv hr, hi, hq⟩

/-- A step done over a list. -/
theorem Reach.foldl {α : Type} (f : State → α → State) (l : List α)
    (hf : ∀ t, ∀ x ∈ l, Reach a s t → Reach a s (f t x)) (h : Reach a s t) :
    Reach a s (l.foldl f t) := by
  induction l generalizing t with
  | nil => exact h
  | cons x xs ih =>
    exact ih (fun t y hy => hf t y (List.mem_cons_of_mem x hy)) (hf t x List.mem_cons_self h)

/-! ### Records, columns and the away list -/

theorem Reach.after_putRecord (h : Reach a s t) (ha : a .wares) (r : BinRecord) :
    Reach a s (putRecord t r) := h.goods ha _ (sortedRecords_insert r _)

theorem Reach.after_dropRecord (h : Reach a s t) (ha : a .wares) (b : BinId) :
    Reach a s (dropRecord t b) := h.goods ha _ (sortedRecords_erase b _)

theorem Reach.after_modRecord (h : Reach a s t) (ha : a .wares) (b : BinId)
    (f : BinRecord → BinRecord) (hf : ∀ r, (f r).body.bin = r.body.bin := by exact fun _ => rfl) :
    Reach a s (modRecord t b f) := h.goods ha _ (modRecord_sorted t b f hf)

theorem Reach.after_setResidence (h : Reach a s t) (ha : a .wares) (b : BinId) (p : Residence) :
    Reach a s (setResidence t b p) := h.after_modRecord ha b _

theorem Reach.after_setColumn (h : Reach a s t) (ha : a .wares) (c : Nat) (v : Column) :
    Reach a s (setColumn t c v) := h.goods ha _ id

theorem Reach.after_markSuspect (h : Reach a s t) (ha : a .wares) (c : Nat) :
    Reach a s (markSuspect t c) := h.after_setColumn ha c _

theorem Reach.after_joinAway (h : Reach a s t) (b : BinId) : Reach a s (joinAway t b) := h.inv _

theorem Reach.after_leaveAway (h : Reach a s t) (b : BinId) : Reach a s (leaveAway t b) := h.inv _

theorem Reach.after_setWinner (h : Reach a s t) (b : BinId) (w : Station) :
    Reach a s (setWinner t b w) := h.inv _

theorem Reach.after_moveOverflow (h : Reach a s t) : Reach a s (moveOverflow t) :=
  h.work ((Within.refl _ t).after_moveOverflow trivial)

theorem Reach.after_chuteRecordsAway (h : Reach a s t) (ha : a .wares) (d : Direction) :
    Reach a s (chuteRecordsAway t d) :=
  h.goods ha _ (sortedRecords_map _ (by intro r; split <;> rfl) _)

/-! ### The bus -/

theorem Reach.after_bumpSeq (h : Reach a s t) : Reach a s (bumpSeq t) := h.bus _

theorem Reach.after_countReceived (h : Reach a s t) : Reach a s (countReceived t) := h.bus _

theorem Reach.after_countDropped (h : Reach a s t) : Reach a s (countDropped t) := h.bus _

theorem Reach.after_postReply (h : Reach a s t) (f : Frame) : Reach a s (postReply t f) := by
  unfold postReply
  split
  · exact h.bus _
  · exact h

theorem Reach.after_respond (h : Reach a s t) {act : State → State} (answer : State → Frame)
    (hact : Reach a s (act t)) : Reach a s (respond t act answer) := by
  unfold respond
  split
  · exact hact.after_postReply _
  · exact h.after_countDropped

theorem Reach.after_refuseAt (h : Reach a s t) (level : Nat) (m : Header) (r : RefuseReason) :
    Reach a s (refuseAt t level m r) := h.after_respond _ h

theorem Reach.after_withdrawTx (h : Reach a s t) (q : Nat) : Reach a s (withdrawTx t q) :=
  h.work ((Within.refl _ t).after_withdrawTx q)

theorem Reach.after_withdrawAnnounce (h : Reach a s t) : Reach a s (withdrawAnnounce t) :=
  Reach.foldl _ _ (fun _ _ _ hu => hu.after_withdrawTx _) (h.bus _)

theorem Reach.after_postState (h : Reach a s t) : Reach a s (postState t) := by
  unfold postState postStateFrame
  split
  · exact h.bus _
  · exact h

theorem Reach.after_postAnnounce (h : Reach a s t) : Reach a s (postAnnounce t) := by
  unfold postAnnounce
  split
  · exact h.bus _
  · exact h

/-! ### The motion port -/

theorem Reach.after_send (h : Reach a s t) (c : MotionCmd) : Reach a s (send t c) := h.motion _

theorem Reach.after_startTimer (h : Reach a s t) : Reach a s (startTimer t) := h.motion _

theorem Reach.after_gantryIdle (h : Reach a s t) : Reach a s (gantryIdle t) := h.motion _

theorem Reach.after_retargetXfer (h : Reach a s t) (x : Xfer) (c : Nat) :
    Reach a s (retargetXfer t x c) := ((h.motion _).after_send _).after_startTimer

theorem Reach.after_abandonXfer (h : Reach a s t) (x : Xfer) : Reach a s (abandonXfer t x) :=
  ((h.motion _).after_send _).after_startTimer

theorem Reach.after_parkPlain (h : Reach a s t) : Reach a s (parkPlain t) :=
  ((h.motion _).after_send _).after_startTimer

theorem Reach.after_parkReconcile (h : Reach a s t) : Reach a s (parkReconcile t) :=
  ((h.motion _).after_send _).after_startTimer

theorem Reach.after_setShutter (h : Reach a s t) (sh : ShutterId) (v : Shutter) :
    Reach a s (setShutter t sh v) := h.work ((Within.refl _ t).after_setShutter sh v)

theorem Reach.after_askShutter (h : Reach a s t) (sh : ShutterId) (p : ShutterPos) :
    Reach a s (askShutter t sh p) := h.work ((Within.refl _ t).after_askShutter sh p)

theorem Reach.after_askAll (h : Reach a s t) (p : ShutterPos) : Reach a s (askAll t p) :=
  h.foldl _ _ (fun _ sh _ hu => hu.after_askShutter sh p)

theorem Reach.after_powerOn (h : Reach a s t) : Reach a s (powerOn t) := by
  refine Reach.foldl _ _ (fun u sh _ hu => ?_) ((h.motion _).after_send _)
  unfold sendHeldOpen
  split
  · exact (hu.after_setShutter sh _).after_send _
  · exact hu

theorem Reach.after_powerOff (h : Reach a s t) : Reach a s (powerOff t) := (h.motion _).after_send _

theorem Reach.after_noPutAway (h : Reach a s t) : Reach a s (noPutAway t) := h.motion _

theorem Reach.after_faultGantry (h : Reach a s t) : Reach a s (faultGantry t) := h.motion _

theorem Reach.after_blockChute (h : Reach a s t) (ha : a .wares) (r : BlockReason) :
    Reach a s (blockChute t r) := h.motion _ (.inl ha)

theorem Reach.after_wakeOn (h : Reach a s t) (r : WaitReason) : Reach a s (wakeOn t r) := h.sched _

theorem Reach.after_wakeWhere (h : Reach a s t) (p : Nat → WaitReason → Bool) :
    Reach a s (wakeWhere t p) := h.sched _

theorem Reach.after_chuteEmptied (h : Reach a s t) (ha : a .wares) : Reach a s (chuteEmptied t) := by
  have h1 : Reach a s (t.withMotion { t.motion with chute := .empty, reason := .none }) :=
    h.motion _ (.inl ha)
  unfold chuteEmptied
  dsimp only
  split
  · exact h1.after_wakeOn _
  · exact h1

/-! ### Contexts and views -/

theorem Reach.after_setCtx (h : Reach a s t) (n : Nat) (c : Ctx) : Reach a s (setCtx t n c) := h.sched _

theorem Reach.after_modCtx (h : Reach a s t) (n : Nat) (f : Ctx → Ctx) : Reach a s (modCtx t n f) :=
  h.sched _

theorem Reach.after_endCtx (h : Reach a s t) (n : Nat) (o : JobOutcome) (d : Nat) :
    Reach a s (endCtx t n o d) := h.work ((Within.refl _ t).after_endCtx trivial trivial o d)

theorem Reach.after_modView (h : Reach a s t) (sd : Side) (f : SlotView → SlotView) :
    Reach a s (modView t sd f) := by
  cases sd
  · exact h.slots _
  · exact h.slots _

theorem Reach.after_freeView (h : Reach a s t) (sd : Side) : Reach a s (freeView t sd) :=
  h.work ((Within.refl _ t).after_freeView sd (.inl trivial))

theorem Reach.after_answerSlot (h : Reach a s t) (sd : Side) (g : Tag) (p : Payload) :
    Reach a s (answerSlot t sd g p) :=
  h.work ((Within.refl _ t).after_answerSlot sd g p (.inl trivial))

theorem Reach.after_postSlotData (h : Reach a s t) (sd : Side) (w : SlotWait) :
    Reach a s (postSlotData t sd w) :=
  h.work ((Within.refl _ t).after_postSlotData sd w (.inl trivial))

theorem Reach.after_voidGrant (h : Reach a s t) (sd : Side) : Reach a s (voidGrant t sd) :=
  h.work ((Within.refl _ t).after_voidGrant (fun _ => trivial) trivial trivial sd)

theorem Reach.after_readied (h : Reach a s t) (n : Nat) : Reach a s (readied t n) :=
  h.work ((Within.refl _ t).after_readied trivial)

theorem Reach.after_withdrawBid (h : Reach a s t) (n : Nat) : Reach a s (withdrawBid t n) :=
  h.work ((Within.refl _ t).after_withdrawBid trivial trivial)

theorem Reach.after_awayFreed (h : Reach a s t) : Reach a s (awayFreed t) :=
  h.work ((Within.refl _ t).after_awayFreed trivial)

theorem Reach.after_changeOverlay {f : State → State} (h : Reach a s (f t)) (sd : Side) :
    Reach a s (changeOverlay sd f t) :=
  h.work ((Within.refl _ (f t)).after_changeOverlay sd (.inr ⟨fun _ => trivial, trivial⟩))

theorem Reach.after_setFireCause (h : Reach a s t) (b : Bool) (sd : Side) :
    Reach a s (setFireCause t b sd) :=
  (h.after_modView sd (fun v => { v with fireClosed := b })).after_changeOverlay sd

theorem Reach.after_guardSides (h : Reach a s t) : Reach a s (guardSides t) :=
  h.work ((Within.refl _ t).after_guardSides trivial (.inr (.inr ⟨fun _ => trivial, trivial⟩)))

theorem Reach.after_restoreOver (h : Reach a s t) (n : Nat) : Reach a s (restoreOver t n) :=
  h.work ((Within.refl _ t).after_restoreOver trivial)

end Updates

end Sys2Proof.Machine
end

section
/-! PROOFS. What the units of the node can change: the fire controller, the start-up logic, the drive's reports,
the stow agent and the transmitter; and what the end of an event adds. -/

namespace Sys2Proof.Machine

open Sys2Proof

-- In turn, so that the proofs do not hold more threads at once than the memory limit has stacks for.
set_option Elab.async false

variable {a : Part → Prop} {s t : State}

/-! ### The fire controller -/

theorem Reach.after_setNode (h : Reach a s t) (n : NodeState) (hn : n ≠ .resuming) :
    Reach a s (setNode t n) := h.fire _ (ho := .inr (fun e _ => absurd e hn))

theorem Reach.after_pauseHeld (h : Reach a s t) : Reach a s (pauseHeld t) := by
  unfold pauseHeld
  split
  · exact h
  · have w : Within Scope.any t (dropHeld t) :=
      (Within.refl _ t).after_dropHeld (fun _ => trivial) trivial
    exact h.work (w.after_pauseCtx trivial)

theorem Reach.after_enterGuard (h : Reach a s t) : Reach a s (enterGuard t) := by
  have h1 := h.after_setNode .guarded (by decide)
  have h2 := (h1.work ((Within.refl _ _).after_pauseIn (fun _ => trivial)
    CtxState.waitsGantry)).after_pauseHeld
  have h3 := h2.work ((Within.refl _ _).after_withdrawAllBids (fun _ => trivial) trivial)
  refine Reach.after_guardSides (h3.foldl _ _ (fun u sd _ hu => ?_))
  exact hu.work ((Within.refl _ u).after_withdrawClaim sd)

theorem Reach.after_reopenSide (h : Reach a s t) (sd : Side) : Reach a s (reopenSide t sd) := by
  unfold reopenSide
  split
  · exact h.after_askShutter _ _
  · exact h

theorem Reach.after_reopenLeft (h : Reach a s t) (was : State) : Reach a s (reopenLeft was t) := by
  refine h.foldl _ _ (fun u sd _ hu => ?_)
  split
  · exact hu.after_reopenSide sd
  · exact hu

theorem Reach.after_releasePaused (h : Reach a s t) : Reach a s (releasePaused t) :=
  h.work ((Within.refl _ t).after_releasePaused (fun _ => trivial))

theorem Reach.after_leaveGuard (h : Reach a s t) : Reach a s (leaveGuard t) :=
  ((h.after_setNode .run (by decide)).foldl _ _
    (fun _ sd _ hu => hu.after_reopenSide sd)).after_guardSides.after_releasePaused

theorem Reach.after_enterRun (h : Reach a s t) : Reach a s (enterRun t) := by
  unfold enterRun
  split
  · exact h.after_enterGuard
  · exact (h.after_setNode .run (by decide)).after_releasePaused

theorem Reach.after_setDownLoaded (h : Reach a s t) (x : Xfer) : Reach a s (setDownLoaded t x) := by
  have h1 : Reach a s (t.withMotion { t.motion with xfer := some x }) := h.motion _
  unfold setDownLoaded
  dsimp only
  split
  · split
    · exact h1.after_retargetXfer _ _
    · exact h1
  · exact h1

theorem Reach.after_beginSetDown (h : Reach a s t) : Reach a s (beginSetDown t) := by
  unfold beginSetDown
  split
  · exact h
  · split
    · exact h.after_abandonXfer _
    · exact h.after_setDownLoaded _

theorem Reach.after_dropPutAway (h : Reach a s t) : Reach a s (dropPutAway t) := by
  unfold dropPutAway
  split
  · exact h.motion _
  · exact h

theorem Reach.after_enterShutdown (h : Reach a s t) : Reach a s (enterShutdown t) := by
  have h1 : Reach a s (t.withFire
      { t.fire with
        node := .shutdown, chuteHold := true, closing := false, opening := false,
        resumeTo := if t.fire.node = .resuming then t.fire.resumeTo else t.fire.node }) := h.fire _
  have h2 := (h1.inv { t.inv with fireStop := true }).after_withdrawAnnounce
  have h3 := (h2.work ((Within.refl _ _).after_pauseIn (fun _ => trivial) CtxState.runs)).work
    ((Within.refl _ _).after_withdrawAllBids (fun _ => trivial) trivial)
  have h4 := (h3.work ((Within.refl _ _).after_dropHeld (fun _ => trivial) trivial)).after_dropPutAway
  exact (h4.foldl _ _ (fun _ sd _ hu => hu.after_setFireCause true sd)).after_beginSetDown

theorem Reach.after_markFault (h : Reach a s t) : Reach a s (markFault t) :=
  h.fire _ (ho := .inr (fun hn ho => ⟨hn, ho⟩))

theorem Reach.after_safeEntry (h : Reach a s t) : Reach a s (safeEntry t) := by
  unfold safeEntry
  split
  · exact h.after_powerOff.fire _
  · exact h

theorem Reach.after_closeShutters (h : Reach a s t) : Reach a s (closeShutters t) :=
  ((h.fire { t.fire with closing := true }
    (ho := .inr (fun hn ho => ⟨hn, ho⟩))).after_askAll .closed).after_safeEntry

theorem Reach.after_shutdownSync (h : Reach a s t) : Reach a s (shutdownSync t) := by
  unfold shutdownSync
  split
  · split
    · exact h.after_safeEntry
    · split
      · exact h.after_parkPlain
      · exact h.after_closeShutters
      · exact h.after_markFault.after_closeShutters
      · exact h
      · exact h
      · exact h
      · exact h
  · exact h

theorem Reach.after_decideState (h : Reach a s t) : Reach a s (decideState t) := by
  unfold decideState
  split
  · exact h.after_enterShutdown
  · split
    · exact h.after_enterGuard
    · split
      · exact h.after_leaveGuard
      · exact h

theorem Reach.after_addZones (h : Reach a s t) (ha : a .zones) (z : ZoneSet) :
    Reach a s (addZones t z) :=
  (h.fire { t.fire with zones := t.fire.zones ||| z } (hz := .inl ha)
    (ho := .inr (fun hn ho => ⟨hn, ho⟩))).after_decideState

theorem Reach.after_postAlarm (h : Reach a s t) : Reach a s (postAlarm t) := by
  unfold postAlarm
  split
  · exact (h.fire { t.fire with alarm := some (pframe t (frameOf t 15 0 0 0 (.alarm t.board.zone))) }
      (ho := .inr (fun hn ho => ⟨hn, ho⟩))).after_bumpSeq
  · exact h

theorem Reach.after_gradeChanged (h : Reach a s t) (ha : a .zones) (was : Grade) :
    Reach a s (gradeChanged was t) := by
  have h1 : Reach a s (if gradeWarns t = true then withdrawAllBids t else t) := by
    split
    · exact h.work ((Within.refl _ t).after_withdrawAllBids (fun _ => trivial) trivial)
    · exact h
  unfold gradeChanged
  split
  · exact h
  · extract_lets u
    split
    · exact (Reach.after_postAlarm h1).after_addZones ha _
    · exact Reach.after_decideState h1

/-! ### The start-up logic -/

theorem Reach.after_settleJob (h : Reach a s t) (n : Nat) (p : Option Nat) :
    Reach a s (settleJob t n p) := by
  have h1 : Reach a s (modCtx (t.withSched { t.sched with stepEnded := some n }) n
      (fun c => { c with step := none })) := (h.sched _).after_modCtx n _
  unfold settleJob
  dsimp only
  split
  iterate 3
    · split
      · exact h1.after_endCtx n _ _
      · exact h1.after_endCtx n _ _
  iterate 2
    · split
      · split
        · exact (h1.after_modCtx n _).after_restoreOver n
        · exact h1
      · split
        · exact (h1.after_modCtx n _).after_restoreOver n
        · exact h1
      · exact h1.after_modCtx n _
      · exact (h1.after_modCtx n _).after_restoreOver n
      · exact h1
      · exact h1

theorem Reach.after_settleHand (h : Reach a s t) (b : BinId) (p : Option Nat) :
    Reach a s (settleHand t b p) := by
  unfold settleHand
  split
  · exact h
  · exact h.after_settleJob _ p

theorem Reach.of_goneFromHand (h : Reach a s t) (ha : a .wares) {b : BinId} {u : State}
    (hu : goneFromHand t b = some u) : Reach a s u := by
  unfold goneFromHand at hu
  split at hu
  · cases hu
    exact ((h.after_modCtx _ _).after_setResidence ha b _).after_joinAway b
  · split at hu
    · cases hu
      exact (h.after_setResidence ha b _).after_joinAway b
    · split at hu
      · cases hu
        exact (h.inv _).after_setResidence ha b _
      · cases hu

theorem Reach.after_markTag (h : Reach a s t) (ha : a .wares) (b : BinId) :
    Reach a s (markTag t b) := h.after_modRecord ha b _

theorem Reach.after_pendPutAway (h : Reach a s t) (ha : a .wares) (b : BinId) (tag : Option BinId)
    (w : Bool) : Reach a s (pendPutAway t b tag w) := by
  have h1 : Reach a s (if tag = some b then t else markTag t b) := by
    split
    · exact h
    · exact h.after_markTag ha b
  exact h1.motion _

theorem Reach.after_endRecovery (h : Reach a s t) : Reach a s (endRecovery t) :=
  (h.after_noPutAway.motion _).after_wakeOn _

theorem Reach.after_reconcileHand (h : Reach a s t) (ha : a .wares) (hand : HandReport)
    (place : Bool) : Reach a s (reconcileHand t hand place) := by
  unfold reconcileHand
  split
  · exact h.after_endRecovery
  · split
    · exact h.after_faultGantry
    · rename_i u hu
      exact ((h.of_goneFromHand ha hu).after_settleHand _ _).after_endRecovery
  · exact h.after_faultGantry
  · split
    · exact h.after_pendPutAway ha _ _ _
    · rename_i tag r _ _
      have h1 : Reach a s (if tag = some r.body.bin then t else markTag t r.body.bin) := by
        split
        · exact h
        · exact h.after_markTag ha _
      exact h1.motion _

theorem Reach.after_reconcileHandStart (h : Reach a s t) (ha : a .wares) (r : HomeResult) :
    Reach a s (reconcileHandStart t r) := by
  unfold reconcileHandStart
  split
  · exact h
  · exact h
  · split
    · exact h.after_faultGantry
    · rename_i u hu
      exact h.of_goneFromHand ha hu
  · exact h.after_faultGantry
  · exact h.after_pendPutAway ha _ _ _

theorem Reach.after_reconcileChute (h : Reach a s t) (ha : a .wares) (o : Bool) :
    Reach a s (reconcileChute t o) := by
  unfold reconcileChute
  split
  · split
    · exact h.motion _ (.inl ha)
    · exact h.after_blockChute ha _
  · exact ((h.after_chuteRecordsAway ha _).after_chuteRecordsAway ha _).after_chuteEmptied ha

theorem Reach.after_reconcileHandovers (h : Reach a s t) (ha : a .wares) :
    Reach a s (reconcileHandovers t) :=
  h.goods ha _ (sortedRecords_map _ (by intro r; split <;> rfl) _)

theorem Reach.after_enterJoining (h : Reach a s t) : Reach a s (enterJoining t) :=
  (h.after_setNode .joining (by decide)).after_postAnnounce

theorem Reach.after_emptyImage (h : Reach a s t) (ha : a .wares) : Reach a s (emptyImage t) := by
  unfold emptyImage
  split
  · exact h.goods ha _ (sortedRecords_filter _ _)
  · refine Reach.after_noPutAway (Reach.foldl _ _ (fun _ sd _ hu => hu.after_freeView sd) ?_)
    exact h.goods ha _ (fun _ => List.Pairwise.nil)

theorem Reach.after_leaveHoming (h : Reach a s t) (ha : a .wares) : Reach a s (leaveHoming t) := by
  unfold leaveHoming
  split
  · exact h.after_enterJoining
  · exact (h.after_emptyImage ha).after_setNode .survey (by decide)

theorem Reach.after_startReconcile (h : Reach a s t) (ha : a .wares) (o : Bool) (r : HomeResult) :
    Reach a s (startReconcile t o r) := by
  have h1 := ((h.after_reconcileHandStart ha r).after_reconcileChute ha o).after_reconcileHandovers ha
  have h2 := h1.foldl oweResend sides (fun _ sd _ hu => hu.after_modView sd _)
  have h3 := h2.startup
    { (sides.foldl oweResend (reconcileHandovers (reconcileChute (reconcileHandStart t r) o))).startup with
      reconciled := true, sense := none, homed := none }
  unfold startReconcile
  dsimp only
  split
  · exact (h3.after_askAll .opened).after_leaveHoming ha
  · exact h3

theorem Reach.after_tryReconcile (h : Reach a s t) (ha : a .wares) : Reach a s (tryReconcile t) := by
  unfold tryReconcile
  split
  · exact h.after_startReconcile ha _ _
  · exact h

theorem Reach.after_homeEnds (h : Reach a s t) (ha : a .wares) (r : HomeResult) :
    Reach a s (homeEnds t r) := (h.startup _).after_tryReconcile ha

theorem Reach.after_resumeOpen (h : Reach a s t) (ha : a .wares) : Reach a s (resumeOpen t) :=
  (h.fire { t.fire with opening := true } (ho := .inl ha)).after_askAll .opened

/-! ### Drive faults -/

theorem Reach.after_faultOwner (h : Reach a s t) (n : Nat) : Reach a s (faultOwner t n) := by
  unfold faultOwner
  dsimp only
  split
  · exact h.after_endCtx n _ _
  · split
    · exact h.after_modCtx n _
    · exact h

theorem Reach.after_stallActive (h : Reach a s t) : Reach a s (stallActive t) := by
  unfold stallActive
  split
  · exact h
  · exact h.after_modCtx _ _

/-- A drive fault reaches the wares in HOMING and RESUMING alone, where it ends the reconcile PARK. -/
theorem Reach.after_driveFault (h : Reach a s t)
    (hn : a .wares ∨ t.fire.node ≠ .homing ∧ t.fire.node ≠ .resuming) : Reach a s (driveFault t) := by
  have h2 : Reach a s (match (currentXfer t).bind (·.owner) with
      | none => faultGantry t
      | some n => faultOwner (faultGantry t) n) := by
    split
    · exact h.after_faultGantry
    · exact h.after_faultGantry.after_faultOwner _
  have h3 := h2.after_stallActive
  unfold driveFault
  extract_lets u v
  split
  · exact h3.after_markFault
  · rename_i hnode
    have ha := hn.resolve_right (fun hc => hc.1 hnode)
    split
    · exact h3.after_homeEnds ha _
    · exact h3
  · rename_i hnode
    have ha := hn.resolve_right (fun hc => hc.2 hnode)
    split
    · refine Reach.after_resumeOpen ?_ ha
      split
      · exact h3
      · exact h3.after_homeEnds ha _
    · exact h3
  iterate 5
    · exact h3

theorem Reach.after_unexpectedMotion (h : Reach a s t)
    (hn : a .wares ∨ t.fire.node ≠ .homing ∧ t.fire.node ≠ .resuming) :
    Reach a s (unexpectedMotion t) := by
  unfold unexpectedMotion
  split
  · exact h
  · exact h
  · exact h.after_driveFault hn

/-! ### The end of an event -/

theorem Reach.after_resumeSync (h : Reach a s t) (hw : a .wares ∨ ¬ Opened t) :
    Reach a s (resumeSync t) := by
  unfold resumeSync
  split
  · rename_i hr
    have ha := hw.resolve_right (fun hc => hc ⟨hr.1, hr.2.1⟩)
    have h1 : Reach a s (t.withFire { t.fire with opening := false }) := h.fire _ (ho := .inl ha)
    unfold endResuming
    dsimp only
    split
    · exact h1.after_enterRun
    · exact h1.after_enterRun
    · exact h1.after_setNode .survey (by decide)
    · exact h1.after_enterJoining
    · exact h1.after_leaveHoming ha
  · exact h

/-- The end of an event reaches the wares where it ends RESUMING alone. -/
theorem Reach.after_settle (h : Reach a s t) (hw : a .wares ∨ ¬ Opened t) : Reach a s (settle t) := by
  have hsync : Reach a t (shutdownSync (moveOverflow t)) :=
    (Reach.refl a t).after_moveOverflow.after_shutdownSync
  have hw' : a .wares ∨ ¬ Opened (shutdownSync (moveOverflow t)) := by
    by_cases ha : a .wares
    · exact .inl ha
    · exact .inr (fun ho => (hw.resolve_left ha) (hsync.opens ha ho))
  have h1 := ((h.trans hsync).after_resumeSync hw').after_guardSides
  have h2 := h1.work ((Within.refl _ _).after_commandPutAway trivial)
  have h3 := h2.work ((Within.refl _ _).after_runSchedule trivial trivial
    (fun _ => .inl trivial) scheduleBound)
  exact h3.work ((Within.refl _ _).after_resendAll trivial)

/-- The update that ends an event holds the picture the event leaves. -/
theorem Reach.after_commit (h : Reach a s t) (was : State) : Reach a s (commit was t) := by
  have h1 : Reach a s (t.withSched { t.sched with stepEnded := none }) := h.sched _
  unfold commit
  dsimp only
  split
  · exact h1.work ((Within.refl _ _).after_releaseHeld trivial)
  · refine h1.trans ⟨rfl, ?_, fun _ => rfl, fun _ => rfl, fun _ => rfl, fun _ => rfl, fun _ => rfl,
      fun _ => rfl, fun _ => rfl, fun _ => rfl, fun _ => id⟩
    rintro ⟨hr, hi, hq⟩
    refine ⟨hr, hi, ?_⟩
    intro u hu
    rcases List.mem_append.mp hu with hu | hu
    · exact hq u hu
    · rw [List.mem_singleton.mp hu]; exact hr

theorem Reach.after_endEvent (h : Reach a s t) (was : State) : Reach a s (endEvent was t) := by
  refine Reach.after_commit ?_ was
  unfold reportChange
  split
  · exact h
  · exact h.after_postState

theorem Reach.clearOut (h : Reach a s t) : Reach a s (clearOut t) := (h.motion _).sched _

theorem reach_fullEvent {body : State → State} (h : Reach a (clearOut s) (body (clearOut s)))
    (hw : a .wares ∨ ¬ Opened s) : Reach a s (fullEvent body s) := by
  refine ((Reach.refl a s).clearOut.trans (h.after_settle ?_)).after_endEvent _
  by_cases ha : a .wares
  · exact .inl ha
  · exact .inr (fun ho => (hw.resolve_left ha) (h.opens ha ho))

theorem reach_quietEvent {body : State → State} (h : Reach a (clearOut s) (body (clearOut s))) :
    Reach a s (quietEvent body s) := ((Reach.refl a s).clearOut.trans h).after_endEvent _

theorem Reach.after_hear (h : Reach a s t) (st : Station) : Reach a s (hear t st) := by
  unfold hear
  split
  · exact h
  · rename_i sd _
    refine h.trans (Reach.after_changeOverlay ?_ sd)
    cases sd
    · exact (Reach.refl a t).bus _
    · exact (Reach.refl a t).bus _

theorem Reach.after_takeFrame (h : Reach a s t) (m : Header) (always : Bool) {body : State → State}
    (hb : ∀ u, Reach a t u → Reach a t (body u)) : Reach a s (takeFrame m always body t) := by
  have h1 := (Reach.refl a t).after_hear m.src
  refine h.trans ?_
  unfold takeFrame
  dsimp only
  split
  · split
    · exact hb _ h1.after_countReceived
    · exact h1.after_countReceived
  · exact h1

/-- A received frame: what its owner may change, its event may change. -/
theorem reach_receive {m : Header} {body : State → State}
    (hb : ∀ u, Reach a (clearOut s) u → Reach a (clearOut s) (body u)) (hw : a .wares ∨ ¬ Opened s) :
    Reach a s (receive m body s) :=
  reach_fullEvent ((Reach.refl a _).after_takeFrame m false hb) hw

theorem reach_receiveFire {m : Header} {body : State → State}
    (hb : ∀ u, Reach a (clearOut s) u → Reach a (clearOut s) (body u)) (hw : a .wares ∨ ¬ Opened s) :
    Reach a s (receiveFire m body s) :=
  reach_fullEvent ((Reach.refl a _).after_takeFrame m true hb) hw

theorem reach_receiveQuiet {m : Header} {body : State → State}
    (hb : ∀ u, Reach a (clearOut s) u → Reach a (clearOut s) (body u)) (hw : a .wares ∨ ¬ Opened s) :
    Reach a s (receiveQuiet m body s) := by
  unfold receiveQuiet
  split
  · exact reach_fullEvent ((Reach.refl a _).after_takeFrame m false hb) hw
  · exact reach_quietEvent ((Reach.refl a _).after_takeFrame m false hb)

end Sys2Proof.Machine
end

section
/-! PROOFS. What the drive's reports, the stow agent and the transmitter can change. -/

namespace Sys2Proof.Machine

open Sys2Proof

-- In turn, so that the proofs do not hold more threads at once than the memory limit has stacks for.
set_option Elab.async false

variable {a : Part → Prop} {s t : State}

/-! ### Picks -/

theorem Reach.after_popColumn (h : Reach a s t) (ha : a .wares) (c : Nat) :
    Reach a s (popColumn t c) := by
  unfold popColumn
  split
  · exact h
  · exact (h.after_setColumn ha c _).after_setResidence ha _ _

theorem Reach.after_pushColumn (h : Reach a s t) (ha : a .wares) (c : Nat) (b : BinId) :
    Reach a s (pushColumn t c b) := by
  unfold pushColumn
  exact (h.after_setColumn ha c _).after_setResidence ha b _

theorem Reach.after_checkTag (h : Reach a s t) (ha : a .wares) (n : Nat) (b : BinId)
    (tag : Option BinId) : Reach a s (checkTag t n b tag) := by
  unfold checkTag
  split
  · exact h
  · exact (h.after_markTag ha b).after_modCtx n _

theorem Reach.after_pickColumn (h : Reach a s t) (ha : a .wares) (n c : Nat) (b : BinId)
    (tag : Option BinId) : Reach a s (pickColumn t n c b tag) := by
  have h1 := (h.after_popColumn ha c).after_checkTag ha n b tag
  unfold pickColumn
  dsimp only
  refine Reach.after_wakeWhere ?_ _
  split
  · exact h1.after_modCtx n _
  · exact h1

theorem Reach.after_pickChute (h : Reach a s t) (ha : a .wares) (n : Nat) (b : BinId)
    (tag : Option BinId) : Reach a s (pickChute t n b tag) := by
  have h1 := (((h.after_setResidence ha b .inHand).after_leaveAway b).after_modCtx n
    (fun c => { c with reserved := true })).after_checkTag ha n b tag
  unfold pickChute
  dsimp only
  split
  · exact h1.after_chuteEmptied ha
  · exact h1

theorem Reach.after_pickSlot (h : Reach a s t) (ha : a .wares) (n : Nat) (sd : Side) (b : BinId)
    (tag : Option BinId) : Reach a s (pickSlot t n sd b tag) := by
  unfold pickSlot
  dsimp only
  refine Reach.after_postSlotData (Reach.after_freeView (Reach.after_checkTag ?_ ha n b tag) sd) sd _
  split
  · exact (h.after_putRecord ha _).after_modCtx n _
  · exact h.after_setResidence ha b _

theorem Reach.after_pickAt (h : Reach a s t) (ha : a .wares) (n : Nat) (src : Pos) (b : BinId)
    (tag : Option BinId) : Reach a s (pickAt t n src b tag) := by
  unfold pickAt
  split
  · exact h.after_pickColumn ha n _ b tag
  · exact h.after_pickChute ha n b tag
  · exact h.after_pickSlot ha n _ b tag
  · exact h

theorem Reach.after_pickReport (h : Reach a s t) (ha : a .wares) (tag : Option BinId) :
    Reach a s (pickReport t tag) := by
  unfold pickReport
  split
  · rename_i x _ _
    split
    · exact h.after_driveFault (.inl ha)
    · split
      · exact h.after_driveFault (.inl ha)
      · rename_i n _ _ b _
        have h1 := h.motion { t.motion with gantry := .loaded, xfer := some { x with abandonSent := false } }
        have h2 := (h1.after_pickAt ha n x.src b tag).after_modCtx n
          (fun c => { c with step := c.step.map (fun k => { k with bin := some b }) })
        dsimp only
        split
        · exact h2.after_setDownLoaded _
        · exact h2
  · exact h.after_unexpectedMotion (.inl ha)

/-! ### Places -/

theorem Reach.after_placeAt (h : Reach a s t) (ha : a .wares) (n : Nat) (p : Pos) (b : BinId) :
    Reach a s (placeAt t n p b) := by
  unfold placeAt
  split
  · rename_i c
    exact ((h.after_pushColumn ha c b).after_modCtx n _).after_restoreOver n
  · exact (((h.after_modRecord ha b (fun r =>
      { r with
        body := { r.body with demand := min 7 (r.body.demand + 1) }
        residence := .atChute .outward })).after_joinAway b).after_modCtx n _).motion _ (.inl ha)
  · rename_i sd
    unfold placeSlot
    exact (((h.after_setResidence ha b _).after_modView sd _).after_postSlotData sd _).after_modCtx n _
  · exact h

theorem Reach.after_toHead (h : Reach a s t) (n : Nat) : Reach a s (toHead t n) :=
  h.work ((Within.refl _ t).after_toHead trivial)

theorem Reach.after_pauseCtx (h : Reach a s t) (n : Nat) : Reach a s (pauseCtx t n) :=
  h.work ((Within.refl _ t).after_pauseCtx trivial)

theorem Reach.after_haltEnd (h : Reach a s t) (n : Nat) (kind : StepKind) (p : Pos) :
    Reach a s (haltEnd t n kind p) := by
  unfold haltEnd
  dsimp only
  split
  · exact (h.after_modCtx n _).after_endCtx n _ _
  · exact h.after_endCtx n _ _

theorem Reach.after_boundary (h : Reach a s t) (n : Nat) (kind : StepKind) (p : Pos) :
    Reach a s (boundary t n kind p) := by
  unfold boundary
  dsimp only
  split
  · exact h.after_haltEnd n kind p
  · split
    · exact h.after_endCtx n _ _
    · split
      · exact h.after_pauseCtx n
      · split
        · exact h.after_toHead n
        · exact h.work ((Within.refl _ t).after_stepStart trivial trivial trivial)

theorem Reach.after_setDownEnd (h : Reach a s t) (n : Nat) (kind : StepKind) (p : Pos) :
    Reach a s (setDownEnd t n kind p) := by
  unfold setDownEnd
  dsimp only
  split
  · exact h.after_haltEnd n kind p
  · split
    · exact h.after_endCtx n _ _
    · exact h

theorem Reach.after_afterPlace (h : Reach a s t) (n : Nat) (kind : StepKind) (p : Pos)
    (note : NoticeBody) : Reach a s (afterPlace t n kind p note) := by
  have h1 : Reach a s (if (ctxOf t n).notify then offerNotice t n note else t) := by
    split
    · exact h.work ((Within.refl _ t).after_offerNotice trivial note)
    · exact h
  unfold afterPlace
  split
  iterate 3
    · exact h.after_endCtx n _ _
  iterate 2
    · split
      · exact h1.after_boundary n kind p
      · exact h.after_setDownEnd n kind p

theorem Reach.after_placeHoming (h : Reach a s t) (ha : a .wares) (c : Nat) (b : BinId) :
    Reach a s (placeHoming t c b) := by
  have h1 := (h.after_pushColumn ha c b).after_settleHand b (some c)
  unfold placeHoming
  dsimp only
  split
  · exact h1.after_endRecovery
  · exact h1.after_noPutAway

theorem Reach.after_placeFor (h : Reach a s t) (ha : a .wares) (n : Nat) (p : Pos) (b : BinId) :
    Reach a s (placeFor t n p b) := by
  unfold placeFor
  exact (((h.sched { t.sched with stepEnded := some n }).after_placeAt ha n p b).after_modCtx n
    _).after_afterPlace n _ p _

theorem Reach.after_placeReport (h : Reach a s t) (ha : a .wares) (p : Pos) :
    Reach a s (placeReport t p) := by
  unfold placeReport
  split
  · split
    · dsimp only
      split
      · exact h.after_gantryIdle.after_placeFor ha _ _ _
      · exact h.after_gantryIdle.after_placeHoming ha _ _
      · exact h.after_driveFault (.inl ha)
    · exact h.after_driveFault (.inl ha)
  · exact h.after_unexpectedMotion (.inl ha)

/-! ### Empty picks and occupied places -/

theorem Reach.after_emptyPickJob (h : Reach a s t) (ha : a .wares) (n : Nat) (p : Pos) :
    Reach a s (emptyPickJob t n p) := by
  unfold emptyPickJob
  split
  · exact (h.after_markSuspect ha _).after_endCtx n _ _
  · have h1 := h.after_chuteRecordsAway ha .inward
    dsimp only
    refine Reach.after_endCtx ?_ n _ _
    split
    · exact h1
    · exact h1.after_blockChute ha _
  · rename_i sd
    split
    · split
      · exact h.after_endCtx n _ _
      · exact (h.after_modView sd _).after_endCtx n _ _
    · split
      · exact (h.after_freeView sd).after_endCtx n _ _
      · exact ((h.after_freeView sd).after_answerSlot sd _ _).after_endCtx n _ _
  · exact h

theorem Reach.after_emptyPickReport (h : Reach a s t) (ha : a .wares) :
    Reach a s (emptyPickReport t) := by
  unfold emptyPickReport
  split
  · split
    · exact h.after_driveFault (.inl ha)
    · split
      · unfold emptyPickOver
        split
        · exact h.after_gantryIdle.after_markSuspect ha _
        iterate 3
          · exact h.after_gantryIdle
      · exact h.after_gantryIdle.after_emptyPickJob ha _ _
  · exact h.after_unexpectedMotion (.inl ha)

theorem Reach.after_markOccupied (h : Reach a s t) (ha : a .wares) (p : Pos) :
    Reach a s (markOccupied t p) := by
  unfold markOccupied
  split
  · exact h.after_markSuspect ha _
  · split
    · exact h.after_blockChute ha _
    · exact h
  · exact h.after_modView _ _
  · exact h

theorem Reach.after_skipOccupied (h : Reach a s t) (n : Nat) : Reach a s (skipOccupied t n) := by
  unfold skipOccupied
  split
  · exact (h.after_modCtx n _).after_restoreOver n
  · exact h

theorem Reach.after_occupiedPlaceReport (h : Reach a s t) (ha : a .wares) :
    Reach a s (occupiedPlaceReport t) := by
  unfold occupiedPlaceReport
  split
  · rename_i x _ _
    have h1 := h.after_markOccupied ha (destination x)
    have h2 : Reach a s (match x.owner with
        | none => markOccupied t (destination x)
        | some n => skipOccupied (markOccupied t (destination x)) n) := by
      split
      · exact h1
      · exact h1.after_skipOccupied _
    dsimp only
    split
    · exact h2.after_retargetXfer _ _
    · exact h2.after_driveFault (.inl ha)
  · exact h.after_unexpectedMotion (.inl ha)

/-! ### Abandoned, parked and homed -/

theorem Reach.after_abandonReport (h : Reach a s t)
    (hn : a .wares ∨ t.fire.node ≠ .homing ∧ t.fire.node ≠ .resuming) :
    Reach a s (abandonReport t) := by
  unfold abandonReport
  split
  · split
    · dsimp only
      split
      · exact h.after_gantryIdle
      · split
        · exact (h.after_gantryIdle.after_modCtx _ _).after_endCtx _ _ _
        · exact h.after_gantryIdle.after_modCtx _ _
    · exact h.after_driveFault hn
  · exact h.after_unexpectedMotion hn

theorem Reach.after_parkedReport (h : Reach a s t)
    (hn : a .wares ∨ t.fire.node ≠ .homing ∧ t.fire.node ≠ .resuming) :
    Reach a s (parkedReport t) := by
  unfold parkedReport
  split
  · dsimp only
    split
    · exact h.after_gantryIdle.after_closeShutters
    · exact h.after_gantryIdle
  · exact h.after_unexpectedMotion hn

theorem Reach.after_homedReport (h : Reach a s t) (ha : a .wares) (hand : HandReport) :
    Reach a s (homedReport t hand) := by
  unfold homedReport
  split
  · have h1 := h.after_gantryIdle
    dsimp only
    split
    · exact h1.after_homeEnds ha _
    · refine Reach.after_closeShutters ?_
      split
      · exact (h1.after_reconcileHand ha hand false).after_markFault
      · exact h1.after_reconcileHand ha hand false
    · refine Reach.after_resumeOpen ?_ ha
      split
      · exact h1.after_reconcileHand ha hand true
      · exact h1.after_homeEnds ha _
    · exact h1.after_reconcileHand ha hand true
  · exact h.after_unexpectedMotion (.inl ha)

/-! ### The stow agent -/

theorem Reach.after_dropOffers (h : Reach a s t) (ha : a .stow) (p : OfferEntry → Bool) :
    Reach a s (dropOffers t p) := h.withStow ha _

theorem Reach.after_modOffer (h : Reach a s t) (ha : a .stow) (tag : Tag)
    (f : OfferEntry → OfferEntry) : Reach a s (modOffer t tag f) := h.withStow ha _

theorem Reach.after_takeOffer (h : Reach a s t) (f : OfferFrame) (tag : Tag) :
    Reach a s (takeOffer t f tag) := by
  unfold takeOffer
  split
  · split
    · exact ((h.after_setCtx _ _).after_modCtx _ _).after_bumpSeq
    · exact h
  · exact h

theorem Reach.after_refuseClosed (h : Reach a s t) (st : Station) (tag : Tag) :
    Reach a s (refuseClosed t st tag) := h.after_respond _ h

theorem Reach.after_ownBidWins (h : Reach a s t) (ha : a .wares) (own : Option Nat) (b : BinId) :
    Reach a s (ownBidWins t own b) := by
  have h1 := h.after_setResidence ha b .arriving
  unfold ownBidWins
  dsimp only
  split
  · exact h1
  · split
    · exact (h1.after_modCtx _ _).after_awayFreed
    · exact h1

theorem Reach.after_startHandover (h : Reach a s t) (ha : a .wares) (hs : a .stow) (tag : Tag)
    (b : BinId) (w : Station) : Reach a s (startHandover t tag b w) := by
  have h1 := h.after_setResidence ha b (.handing w)
  unfold startHandover
  dsimp only
  split
  · exact h1
  · exact (h1.withStow hs _).after_bumpSeq

theorem Reach.after_holderTakesBid (h : Reach a s t) (ha : a .wares) (hs : a .stow)
    (own : Option Nat) (st : Station) (tag : Tag) : Reach a s (holderTakesBid t own st tag) := by
  unfold holderTakesBid
  split
  · split
    · have h1 := (h.after_modOffer hs tag (fun k => { k with winner := some st })).after_setWinner
      dsimp only
      split
      · exact (h1 _ _).after_ownBidWins ha own _
      · exact (h1 _ _).after_startHandover ha hs tag _ st
    · exact h.after_refuseClosed st tag
  · exact h.after_refuseClosed st tag

theorem Reach.after_takeBid (h : Reach a s t) (ha : a .wares) (hs : a .stow) (st holder : Station)
    (tag : Tag) : Reach a s (takeBid t st holder tag) := by
  have h1 := h.foldl withdrawBid (stowCtxs t .bidding holder tag) (fun _ n _ hu => hu.after_withdrawBid n)
  unfold takeBid
  dsimp only
  split
  · exact h1.after_holderTakesBid ha hs _ st tag
  · exact h1

theorem Reach.after_ownBidSent (h : Reach a s t) (ha : a .wares) (hs : a .stow) (n : Nat) :
    Reach a s (ownBidSent t n) := by
  unfold ownBidSent
  split
  · exact h
  · dsimp only
    split
    · exact (h.after_modCtx n _).after_holderTakesBid ha hs _ _ _
    · exact h.after_modCtx n _

theorem Reach.after_takeOfferClosed (h : Reach a s t) (st : Station) (tag : Tag) :
    Reach a s (takeOfferClosed t st tag) :=
  h.foldl _ _ (fun _ n _ hu => hu.after_withdrawBid n)

theorem Reach.after_dropHandover (h : Reach a s t) (hs : a .stow) (b : BinId) :
    Reach a s (dropHandover t b) := by
  unfold dropHandover
  dsimp only
  split
  · exact h.withStow hs _
  · exact (h.after_withdrawTx _).withStow hs _

theorem Reach.after_takeAdopted (h : Reach a s t) (ha : a .wares) (hs : a .stow) (st : Station)
    (b : BinId) : Reach a s (takeAdopted t st b) := by
  unfold takeAdopted
  split
  · exact ((((h.after_dropRecord ha b).after_leaveAway b).after_dropHandover hs b).after_dropOffers
      hs _).after_awayFreed
  · exact h

theorem Reach.after_adopt (h : Reach a s t) (ha : a .wares) (hs : a .stow) (n : Nat) (st : Station)
    (tag : Tag) (r : RecordBody) : Reach a s (adopt t n st tag r) :=
  ((((h.after_putRecord ha _).after_joinAway r.bin).after_modCtx n _).withStow hs _).after_bumpSeq

theorem Reach.after_takeRecord (h : Reach a s t) (ha : a .wares) (hs : a .stow) (st : Station)
    (tag : Tag) (r : RecordBody) : Reach a s (takeRecord t st tag r) := by
  unfold takeRecord
  split
  · split
    · exact h.after_countDropped
    · exact h.after_adopt ha hs _ st tag r
  · exact h.after_countDropped

/-! ### The transmitter -/

theorem Reach.after_contend (h : Reach a s t) (back : ReadBack) : Reach a s (contend t back) := by
  unfold contend
  split
  · exact h
  · split
    · exact h
    · split
      · exact h.bus _
      · exact h.bus _

theorem Reach.after_popDone (h : Reach a s t) : Reach a s (popDone t) := by
  have h1 := h.sched { t.sched with doneQ := t.sched.doneQ.drop 1 }
  unfold popDone
  extract_lets _ u
  split
  · exact h1
  · rename_i n rest _
    have h2 := (h1.sched { u.sched with ending := rest }).after_setCtx n Ctx.blank
    dsimp only
    split
    · exact h2
    · exact (h2.sched _).after_bumpSeq

theorem Reach.after_removePending (h : Reach a s t) (hs : a .stow) (k : TxKey) (q : Nat) :
    Reach a s (removePending t k q) := by
  unfold removePending
  split
  · exact h.fire { t.fire with alarm := none } (ho := .inr (fun hn ho => ⟨hn, ho⟩))
  · exact h.bus _
  · exact h.bus _
  · exact h.work ((Within.refl _ t).after_slotFrameLeaves _ (.inl trivial))
  · exact h.withStow hs _
  · exact h.withStow hs _
  · exact h.after_modCtx _ _
  · exact h.bus _
  · exact h.work ((Within.refl _ t).after_noticeLeaves trivial _)
  · exact h.after_popDone

theorem Reach.after_claimRefused (h : Reach a s t) (sd : Side) : Reach a s (claimRefused t sd) :=
  h.work ((Within.refl _ t).after_claimRefused sd (.inl trivial))

theorem Reach.after_ownerSent (h : Reach a s t) (ha : a .wares) (hs : a .stow) (k : TxKey) (f : Frame) :
    Reach a s (ownerSent t k f) := by
  unfold ownerSent
  split
  · exact h.after_modView _ _
  · exact h.after_modView _ _
  · exact h.after_ownBidSent ha hs _
  · exact h.after_modOffer hs _ _
  · exact h

theorem Reach.after_takeOwn (h : Reach a s t) (hz : a .zones) (f : Frame) :
    Reach a s (takeOwn t f) := by
  unfold takeOwn
  split
  · have h1 := h.after_countReceived
    dsimp only
    split
    · exact h1.after_takeOffer _ _
    · exact h1.after_addZones hz _
    · exact h1.after_takeOfferClosed _ _
    · exact h1
  · exact h

theorem Reach.after_countFrameVoid (h : Reach a s t) (hs : a .stow) (k : TxKey) (q v : Nat) :
    Reach a s (countFrameVoid t k q v) := by
  unfold countFrameVoid
  split
  · exact h.fire { t.fire with alarm := t.fire.alarm.map (setVoids v) }
      (ho := .inr (fun hn ho => ⟨hn, ho⟩))
  · exact h.bus _
  · exact h.bus _
  · exact h.after_modView _ _
  · exact h.withStow hs _
  · exact h.withStow hs _
  · exact h.after_modCtx _ _
  · exact h.bus _
  · exact h.sched _
  · exact h.sched _

theorem Reach.after_ownerDropped (h : Reach a s t) (hs : a .stow) (k : TxKey) (f : Frame) :
    Reach a s (ownerDropped t k f) := by
  unfold ownerDropped
  split
  · split
    · exact h.after_claimRefused _
    · exact h
  · split
    · exact h.after_voidGrant _
    · exact h
  · exact h.after_modView _ _
  · exact h.after_modView _ _
  · exact h.after_withdrawBid _
  · exact h.after_dropOffers hs _
  · exact h

theorem Reach.after_frameVoided (h : Reach a s t) (hs : a .stow) : Reach a s (frameVoided t) := by
  unfold frameVoided
  split
  · exact h.bus _
  · have h1 : Reach a s (clearTx (countVoid t)) := (h.bus _).bus _
    dsimp only
    split
    · exact h1
    · split
      · exact h1.after_countFrameVoid hs _ _ _
      · exact (h1.after_removePending hs _ _).after_ownerDropped hs _ _

theorem Reach.after_frameSent (h : Reach a s t) (ha : a .wares) (hs : a .stow) (hz : a .zones) :
    Reach a s (frameSent t) := by
  unfold frameSent
  split
  · exact h
  · split
    · exact h.after_frameVoided hs
    · rename_i x _ _
      have h1 : Reach a s (clearTx (t.withBus { t.bus with
          counters := { t.bus.counters with sent := count16 t.bus.counters.sent } })) := (h.bus _).bus _
      unfold frameCarried
      dsimp only
      refine Reach.after_takeOwn ?_ hz _
      split
      · exact (h1.after_removePending hs _ _).after_ownerSent ha hs _ _
      · exact h1

end Sys2Proof.Machine
end

section
/-! PROOFS. What each command can change: O2 and O4. -/

namespace Sys2Proof.Machine

open Sys2Proof

-- In turn, so that the proofs do not hold more threads at once than the memory limit has stacks for.
set_option Elab.async false

section Bodies

variable {a : Part → Prop} {s t : State}

/-! ### The store, the timers and the samples -/

theorem Reach.after_lineChange (h : Reach a s t) (hl : a .latch) (hz : a .zones) (level : Bool) :
    Reach a s (lineChange level t) := by
  unfold lineChange
  split
  · split
    · exact h
    · exact (h.fire { t.fire with latch := true } (hl := .inl hl)
        (ho := .inr (fun hn ho => ⟨hn, ho⟩))).after_addZones hz _
  · exact h.fire { t.fire with latch := false } (hl := .inl hl)
      (ho := .inr (fun hn ho => ⟨hn, ho⟩))

theorem Reach.after_sample (h : Reach a s t) (hd : a .det) (hz : a .zones) (n x : Nat) :
    Reach a s (sample n x t) := by
  unfold sample
  split
  · exact (h.withDet hd _).after_gradeChanged hz _
  · exact h

/-- The oldest update becomes the retained image, so its canonical form is the image's. -/
theorem Reach.after_storeComplete (h : Reach a s t) (hi : a .image) : Reach a s (storeComplete t) := by
  unfold storeComplete
  split
  · exact h
  · rename_i u us hq
    refine Reach.bus (h.trans ?_) _
    refine ⟨rfl, ?_, fun _ => rfl, fun hn => absurd hi hn, fun _ => rfl, fun _ => rfl, fun _ => rfl,
      fun _ => rfl, fun _ => rfl, fun _ => rfl, fun _ => id⟩
    rintro ⟨hr, _, hus⟩
    rw [hq] at hus
    exact ⟨hr, hus u List.mem_cons_self, fun v hv => hus v (List.mem_cons_of_mem u hv)⟩

theorem Reach.after_decay (h : Reach a s t) (ha : a .wares) : Reach a s (decay t) := by
  unfold decay
  split
  · exact (h.goods ha _ (sortedRecords_map decayRecord (fun _ => rfl) _)).startup _
  · exact h

theorem Reach.after_retryShutter (h : Reach a s t) (sh : ShutterId) : Reach a s (retryShutter t sh) := by
  unfold retryShutter
  split
  · exact h.after_askShutter sh _
  · exact h

theorem Reach.after_repostTaken (h : Reach a s t) (sd : Side) : Reach a s (repostTaken t sd) := by
  unfold repostTaken
  split
  · exact h
  · split
    · exact h
    · exact h.after_postSlotData sd _

theorem Reach.after_modNbr (h : Reach a s t) (sd : Side) (f : Neighbour → Neighbour) :
    Reach a s (modNbr t sd f) := by
  cases sd
  · exact h.bus _
  · exact h.bus _

theorem Reach.after_statePeriod (h : Reach a s t) : Reach a s (statePeriod t) := by
  have h1 := ((h.foldl ageNeighbour sides (fun _ sd _ hu => hu.after_modNbr sd _)).foldl retryShutter
    shutterIds (fun _ sh _ hu => hu.after_retryShutter sh)).foldl repostTaken sides
    (fun _ sd _ hu => hu.after_repostTaken sd)
  unfold statePeriod
  dsimp only
  refine Reach.after_postState (Reach.startup ?_ _)
  split
  · exact h1.after_postAnnounce
  · exact h1

/-! ### The motion port -/

theorem Reach.after_shutterReport (h : Reach a s t) (sh : ShutterId) (p : ShutterPos) :
    Reach a s (shutterReport sh p t) := by
  unfold shutterReport
  extract_lets k u
  have h1 : Reach a s u := h.after_setShutter sh _
  split
  · cases k.asked with
    | none => exact h1
    | some q => exact h1.after_askShutter sh q
  · split
    · unfold shutterOpened
      split
      · split
        · exact h1.after_setFireCause _ _
        · exact h1
      · have h2 : Reach a s (if fireReason u sh then u
            else u.withFire { u.fire with chuteHold := false }) := by
          split
          · exact h1
          · exact h1.fire { u.fire with chuteHold := false } (ho := .inr (fun hn ho => ⟨hn, ho⟩))
        extract_lets v
        split
        · exact Reach.after_wakeOn h2 _
        · exact h2
    · exact h1

theorem Reach.after_shutterExpiry (h : Reach a s t) (sh : ShutterId) :
    Reach a s (shutterExpiry sh t) := by
  unfold shutterExpiry
  dsimp only
  split
  · split
    · exact (h.after_setShutter sh _).after_markFault
    · exact h.after_setShutter sh _
  · exact h

theorem Reach.after_motionExpiry (h : Reach a s t)
    (hn : a .wares ∨ t.fire.node ≠ .homing ∧ t.fire.node ≠ .resuming) :
    Reach a s (motionExpiry t) := by
  unfold motionExpiry
  split
  · exact h.after_unexpectedMotion hn
  · exact h

theorem Reach.after_arrive (h : Reach a s t) (ha : a .wares) (tag : Option BinId) :
    Reach a s (arrive tag t) := by
  unfold arrive
  split
  · unfold arrivalEmpty
    split
    · exact h.after_blockChute ha _
    · split
      · exact h.after_blockChute ha _
      · split
        · exact (((h.after_setResidence ha _ _).motion _ (.inl ha)).after_modCtx _ _).after_readied _
        · exact (h.after_endCtx _ _ _).after_blockChute ha _
  iterate 3
    · exact h.after_blockChute ha _

theorem Reach.after_collected (h : Reach a s t) (ha : a .wares) : Reach a s (collected t) := by
  unfold collected
  split
  · exact h
  · exact (h.after_chuteRecordsAway ha _).after_chuteEmptied ha
  · exact h.after_blockChute ha _
  · exact h.after_chuteRecordsAway ha _

theorem Reach.after_sense (h : Reach a s t) (ha : a .wares) (o : Bool) : Reach a s (sense o t) := by
  unfold sense
  split
  · exact (h.startup _).after_tryReconcile ha
  · exact h

/-! ### The windows -/

theorem Reach.after_oweResend (h : Reach a s t) (sd : Side) : Reach a s (oweResend t sd) :=
  h.after_modView sd _

theorem Reach.after_neighbourLost (h : Reach a s t) (sd : Side) : Reach a s (neighbourLost sd t) := by
  unfold neighbourLost
  split
  · exact (Reach.after_changeOverlay
      (f := fun u => modNbr u sd (fun n => { n with present := false, lost := true }))
      (h.after_modNbr sd _) sd).after_oweResend sd
  · exact h

theorem Reach.after_claimExpiry (h : Reach a s t) (sd : Side) : Reach a s (claimExpiry sd t) := by
  unfold claimExpiry
  split
  · exact h.after_claimRefused sd
  · exact h

theorem Reach.after_bidExpiry (h : Reach a s t) (n : Nat) : Reach a s (bidExpiry n t) := by
  unfold bidExpiry
  split
  · exact h.after_withdrawBid n
  · exact h

theorem Reach.after_handoverExpiry (h : Reach a s t) (ha : a .wares) (hs : a .stow) (b : BinId) :
    Reach a s (handoverExpiry b t) := by
  unfold handoverExpiry
  dsimp only
  split
  · exact (h.after_dropHandover hs b).after_modRecord ha b _ (by intro r; split <;> rfl)
  · exact h

theorem Reach.after_arrivalExpiry (h : Reach a s t) (ha : a .wares) (n : Nat) :
    Reach a s (arrivalExpiry n t) := by
  unfold arrivalExpiry
  dsimp only
  split
  · refine Reach.after_endCtx ?_ n _ _
    split
    · exact h.after_setResidence ha _ _
    · exact h
  · exact h

/-! ### Frames of configuration and inventory -/

theorem Reach.after_ignoreFrame (h : Reach a s t) (m : Header) (f : RawBody) :
    Reach a s (ignoreFrame m f t) := by
  unfold ignoreFrame
  split
  · exact h.after_countDropped
  · split
    · exact h.after_refuseAt _ _ _
    · exact h

theorem Reach.after_acceptSetup (h : Reach a s t) (hset : a .setup) (hd : a .det) (hz : a .zones)
    (v : Setup) : Reach a s (acceptSetup v t) := by
  have h1 := ((((h.withSetup hset v).withDet hd ((t.det.zip v.types).map retypeInput)).bus
    { t.bus with
      nbWest := { t.bus.nbWest with phase := .restarted }
      nbEast := { t.bus.nbEast with phase := .restarted } }).startup
    { t.startup with stateTimer := v.statePeriod, decayTimer := decayTimerOf v.decayPeriod })
  have h2 : Reach a s (withdrawAnnounce (gradeChanged (bayGrade t) (applySetup v t))) :=
    (Reach.after_gradeChanged (t := applySetup v t) h1 hz _).after_withdrawAnnounce
  unfold acceptSetup
  dsimp only
  split
  · exact h2.after_enterRun
  · exact h2

theorem Reach.after_takeSetup (h : Reach a s t) (hset : a .setup) (hd : a .det) (hz : a .zones)
    (m : Header) (f : SetupFrame) : Reach a s (takeSetup m f t) := by
  unfold takeSetup
  split
  · exact h.after_refuseAt _ _ _
  · split
    · refine h.after_respond _ ?_
      have h1 := h.after_acceptSetup hset hd hz (setupOf f)
      unfold alignSender
      split
      · exact h1
      · exact h1.after_modNbr _ _
    · exact h.after_refuseAt _ _ _

theorem Reach.after_placeLoaded (h : Reach a s t) (ha : a .wares) (c : Nat) (p : BinId × Nat) :
    Reach a s (placeLoaded c t p) := by
  unfold placeLoaded
  split
  · exact h.after_putRecord ha _
  · exact (h.after_leaveAway p.1).after_putRecord ha _

theorem Reach.after_loadColumn (h : Reach a s t) (ha : a .wares) (c : Nat) (bins : List BinId) :
    Reach a s (loadColumn c bins t) := by
  have h1 := h.foldl (placeLoaded c) bins.zipIdx (fun _ p _ hu => hu.after_placeLoaded ha c p)
  refine Reach.after_setColumn (h1.foldl removeLoaded _ (fun _ b _ hu => ?_)) ha c _
  exact (hu.after_setResidence ha b _).after_joinAway b

theorem Reach.after_takeColumnLoad (h : Reach a s t) (ha : a .wares) (m : Header) (c count : Nat)
    (bins : List BinId) : Reach a s (takeColumnLoad m c count bins t) := by
  have hload : Reach a s (match loadRefusal t c count bins with
      | some r => refuseAt t 2 m r
      | none => respond t (acceptLoad c bins)
          (fun u => replyFrame m (.columnLoad c (column u c).suspect (column u c).bins) u)) := by
    split
    · exact h.after_refuseAt _ _ _
    · exact h.after_respond _ ((h.after_loadColumn ha c bins).after_moveOverflow.after_wakeWhere _)
  unfold takeColumnLoad
  split
  iterate 3
    · exact h.after_refuseAt _ _ _
  iterate 5
    · exact hload

theorem Reach.after_takeLoadEnd (h : Reach a s t) (m : Header) : Reach a s (takeLoadEnd m t) := by
  unfold takeLoadEnd
  split
  · exact h
  · split
    · exact h.after_refuseAt _ _ _
    · exact h.after_refuseAt _ _ _
    · exact h.after_refuseAt _ _ _
    · exact h.after_respond _ ((h.inv { t.inv with
        hdrW := t.board.w, hdrD := t.board.d, hdrC := t.board.c, valid := true }).after_enterJoining)
    iterate 4
      · exact h.after_refuseAt _ _ _

theorem Reach.after_storeSurvey (h : Reach a s t) (ha : a .wares) (r : RecordBody) :
    Reach a s (storeSurvey t r) := by
  unfold storeSurvey
  dsimp only
  split
  · exact h.after_putRecord ha _
  · split
    · exact h.after_putRecord ha _
    · exact (h.after_putRecord ha _).after_joinAway _

theorem Reach.after_recordFrame (h : Reach a s t) (ha : a .wares) (hs : a .stow) (m : Header)
    (r : RawRecord) : Reach a s (recordFrame m r t) := by
  unfold recordFrame
  split
  · unfold takeSurvey
    split
    · exact h.after_refuseAt _ _ _
    · exact h.after_respond _ (h.after_storeSurvey ha _)
  · exact h.after_takeRecord ha hs _ _ _

theorem Reach.after_queryBin (h : Reach a s t) (m : Header) (b : BinId) :
    Reach a s (queryBin m b t) := by
  unfold queryBin
  split
  · split
    · exact h.after_refuseAt _ _ _
    · exact h
  · split
    · exact h.after_respond _ h
    · exact h

theorem Reach.after_queryCol (h : Reach a s t) (m : Header) (arg : Nat) :
    Reach a s (queryCol m arg t) := by
  unfold queryCol
  split
  · exact h
  · split
    · exact h.after_respond _ h
    · split
      · exact h.after_respond _ h
      · exact h.after_refuseAt _ _ _

theorem Reach.after_queryJobs (h : Reach a s t) (m : Header) : Reach a s (queryJobs m t) := by
  unfold queryJobs
  split
  · exact h.after_respond _ h
  · exact h

theorem Reach.after_queryDets (h : Reach a s t) (hd : a .det) (m : Header) :
    Reach a s (queryDets m t) := by
  unfold queryDets
  split
  · exact h.after_respond _ (h.withDet hd _)
  · exact h

theorem Reach.after_queryNbrs (h : Reach a s t) (m : Header) : Reach a s (queryNbrs m t) := by
  unfold queryNbrs
  split
  · exact h.after_respond _ ((h.foldl clearLost sides (fun _ sd _ hu => hu.after_modNbr sd _)).free _)
  · exact h

theorem Reach.after_queryCounts (h : Reach a s t) (m : Header) : Reach a s (queryCounts m t) := by
  unfold queryCounts
  split
  · exact h.after_respond _ (h.bus _)
  · exact h

/-! ### Frames of the jobs -/

theorem Reach.after_malformedRequest (h : Reach a s t) (m : Header) (level : Nat) (bins : List BinId) :
    Reach a s (malformedRequest m level bins t) := by
  unfold malformedRequest
  split
  · exact h.after_refuseAt _ _ _
  · exact h

theorem Reach.after_judgeRequest (h : Reach a s t) (m : Header) (q : JobRequest) :
    Reach a s (judgeRequest m q t) := by
  unfold judgeRequest
  split
  · exact h.after_refuseAt _ _ _
  · refine h.after_respond _ ?_
    unfold createReady
    split
    · exact h
    · exact (h.after_setCtx _ _).after_readied _

theorem Reach.after_takeFetch (h : Reach a s t) (m : Header) (cls : Nat) (flags : Byte) (count : Nat)
    (bins : List BinId) : Reach a s (takeFetch m cls flags count bins t) := by
  unfold takeFetch
  split
  · unfold badClassFetch
    split
    · exact h.after_malformedRequest _ _ _
    · split
      · exact (h.free _).after_refuseAt _ _ _
      · exact h
  · split
    · exact h.after_malformedRequest _ _ _
    · split
      · exact h
      · exact h.after_judgeRequest _ _

theorem Reach.after_takeVerify (h : Reach a s t) (m : Header) (flags : Byte) (count : Nat)
    (bins : List BinId) : Reach a s (takeVerify m flags count bins t) := by
  unfold takeVerify
  split
  · exact h.after_malformedRequest _ _ _
  · split
    · exact h
    · exact h.after_judgeRequest _ _

theorem Reach.after_cancelJobs (h : Reach a s t) (m : Header) : Reach a s (cancelJobs m t) := by
  refine h.foldl _ _ (fun u n _ hu => ?_)
  unfold cancelCtx
  split
  · exact hu.after_endCtx n _ _
  · exact hu.after_endCtx n _ _
  · split
    · exact hu.after_modCtx n _
    · exact hu.after_endCtx n _ _
  · exact hu.after_modCtx n _
  iterate 4
    · exact hu

/-! ### Frames of the stow agent and the loan unit -/

theorem Reach.after_takeStowReady (h : Reach a s t) (hs : a .stow) (m : Header) (b : BinId)
    (desk : Station) : Reach a s (takeStowReady m b desk t) := by
  unfold takeStowReady
  split
  · exact h
  · split
    · exact h.after_refuseAt _ _ _
    · split
      · exact h.after_refuseAt _ _ _
      · exact h.after_respond _ (h.withStow hs _)

theorem Reach.after_clearInbound (h : Reach a s t) (ha : a .wares) : Reach a s (clearInbound t) :=
  (h.after_chuteRecordsAway ha _).foldl _ _ (fun _ n _ hu => hu.after_endCtx n _ _)

theorem Reach.after_takeChuteClear (h : Reach a s t) (ha : a .wares) (m : Header) :
    Reach a s (takeChuteClear m t) := by
  unfold takeChuteClear
  split
  · exact h.after_refuseAt _ _ _
  · split
    · exact h.after_refuseAt _ _ _
    · refine h.after_respond _ ?_
      unfold clearChute
      split
      · exact h
      · exact (h.after_chuteRecordsAway ha _).after_chuteEmptied ha
      · exact (h.after_clearInbound ha).after_chuteEmptied ha
      · exact ((h.after_chuteRecordsAway ha _).after_clearInbound ha).after_chuteEmptied ha

theorem Reach.after_itemOp (h : Reach a s t) (ha : a .wares) (m : Header) (b : BinId) (slot : Nat)
    (v : ItemSlot) (refusal : State → BinRecord → Option RefuseReason) :
    Reach a s (itemOp m b slot v refusal t) := by
  unfold itemOp
  split
  · exact h
  · split
    · exact h.after_refuseAt _ _ _
    · exact h.after_respond _ (h.after_modRecord ha b _)

theorem Reach.after_takeReturnQuery (h : Reach a s t) (m : Header) (item : ItemId) :
    Reach a s (takeReturnQuery m item t) := by
  unfold takeReturnQuery
  split
  · exact h
  · split
    · exact h
    · exact h.after_respond _ h

/-! ### Frames of the slot agent -/

theorem Reach.after_withdrawLoaded (h : Reach a s t) (sd : Side) : Reach a s (withdrawLoaded t sd) := by
  have h1 := h.after_modView sd (fun v => { v with waiting := v.waiting.filter (fun w => w ≠ .loaded) })
  unfold withdrawLoaded
  dsimp only
  split
  · exact h1
  · split
    · exact (h1.after_withdrawTx _).work ((Within.refl _ _).after_slotFrameLeaves sd (.inl trivial))
    · exact h1

theorem Reach.after_takeReclaim (h : Reach a s t) (m : Header) (side : Nat) :
    Reach a s (takeReclaim m side t) := by
  unfold takeReclaim
  split
  · exact h.after_refuseAt _ _ _
  · split
    · exact h.after_refuseAt _ _ _
    · unfold acceptReclaim
      split
      · exact (((h.after_setCtx _ _).after_readied _).after_withdrawLoaded _).after_modView _ _
      · exact h

theorem Reach.after_onSide (h : Reach a s t) (m : Header) {act : Side → State → State}
    (hact : ∀ sd, Reach a s (act sd t)) : Reach a s (onSide m act t) := by
  unfold onSide
  split
  · exact h.after_countDropped
  · exact hact _

theorem Reach.after_settleRace (h : Reach a s t) (sd : Side) : Reach a s (settleRace t sd) :=
  h.work ((Within.refl _ t).after_settleRace sd)

theorem Reach.after_judgedFree (h : Reach a s t) (sd : Side) : Reach a s (judgedFree t sd) := by
  unfold judgedFree
  split
  · exact h
  · refine Reach.after_settleRace ?_ sd
    split
    · exact h
    · exact h.after_wakeOn _

theorem Reach.after_postSlot (h : Reach a s t) (sd : Side) (tag : Tag) (p : Payload) :
    Reach a s (postSlot t sd tag p) := h.work ((Within.refl _ t).after_postSlot sd tag p (.inl trivial))

theorem Reach.after_judgeClaim (h : Reach a s t) (m : Header) (b : BinId) (sd : Side) :
    Reach a s (judgeClaim m b sd t) := by
  unfold judgeClaim
  split
  · exact (h.after_answerSlot sd _ _).after_judgedFree sd
  · split
    · exact ((h.after_setCtx _ _).after_modView sd _).after_postSlot sd _ _
    · exact h.after_judgedFree sd

theorem Reach.after_takeClaim (h : Reach a s t) (m : Header) (b : BinId) (sd : Side) :
    Reach a s (takeClaim m b sd t) := by
  unfold takeClaim
  split
  · exact h.after_judgeClaim m b sd
  · exact (h.after_voidGrant sd).after_judgeClaim m b sd
  · split
    · have h1 : Reach a s (unpostClaim t sd) := h.work ((Within.refl _ t).after_unpostClaim sd (.inl trivial))
      exact (h1.after_modView sd _).after_judgeClaim m b sd
    · exact h.after_answerSlot sd _ _
  iterate 3
    · exact h.after_answerSlot sd _ _

theorem Reach.after_takeGrant (h : Reach a s t) (m : Header) (sd : Side) :
    Reach a s (takeGrant m sd t) := by
  unfold takeGrant
  split
  · unfold grantTaken
    split
    · exact (h.after_freeView sd).after_answerSlot sd _ _
    · exact (h.after_modView sd _).after_wakeWhere _
  · exact h.after_answerSlot sd _ _

theorem Reach.after_takeSlotRefuse (h : Reach a s t) (m : Header) (sd : Side) :
    Reach a s (takeSlotRefuse m sd t) := by
  unfold takeSlotRefuse
  split
  · split
    · exact h.after_claimRefused sd
    · exact h.after_voidGrant sd
    · exact h.after_modView sd _
    iterate 3
      · exact h
  · exact h

theorem Reach.after_loadUnfit (h : Reach a s t) (m : Header) (sd : Side) :
    Reach a s (loadUnfit m sd t) := (h.after_answerSlot sd _ _).after_voidGrant sd

theorem Reach.after_takeLoaded (h : Reach a s t) (m : Header) (r : RecordBody) (sd : Side) :
    Reach a s (takeLoaded m r sd t) := by
  unfold takeLoaded
  split
  · exact h.after_postSlotData sd _
  · split
    · exact h.after_modView sd _
    · split
      · split
        · exact (((h.after_modView sd _).after_modCtx _ _).after_readied _).after_settleRace sd
        · exact h.after_loadUnfit m sd
      · split
        · unfold loadFree
          split
          · unfold loadUngranted
            exact ((h.after_setCtx _ _).after_readied _).after_modView sd _
          · exact h.after_answerSlot sd _ _
          · exact h.after_answerSlot sd _ _
        · exact h.after_loadUnfit m sd

theorem Reach.after_removeOrMark (h : Reach a s t) (n : Nat) : Reach a s (removeOrMark t n) := by
  unfold removeOrMark
  split
  · exact h.after_modCtx n _
  · exact h.after_endCtx n _ _

theorem Reach.after_takeTaken (h : Reach a s t) (ha : a .wares) (m : Header) (b : BinId) (sd : Side) :
    Reach a s (takeTaken m b sd t) := by
  unfold takeTaken
  split
  · split
    · have h1 : Reach a s (match recordAt t (.inSlot sd) with
          | none => t
          | some r => dropRecord t r.body.bin) := by
        split
        · exact h
        · exact h.after_dropRecord ha _
      unfold loadTaken
      dsimp only
      split
      · exact h1.after_freeView sd
      · exact (h1.after_removeOrMark _).after_freeView sd
    · exact h
  · split
    · exact h.after_voidGrant sd
    · exact h
  · split
    · unfold reclaimedBySender
      split
      · exact h.after_freeView sd
      · split
        · exact h.after_removeOrMark _
        · exact (h.after_removeOrMark _).after_freeView sd
    · exact h
  iterate 3
    · exact h

/-! ### Frames of the fire controller and the neighbour table -/

theorem Reach.after_takeRestart (h : Reach a s t) (m : Header) : Reach a s (takeRestart m t) := by
  unfold takeRestart
  split
  · exact h
  · split
    · exact h.after_refuseAt _ _ _
    · split
      · exact (((h.inv { t.inv with fireStop := false }).fire
          { t.fire with node := .resuming, safeWithFault := false, opening := false }
          (ho := .inr (fun _ ho => by cases ho))).startup
          { t.startup with sense := none, homed := none }).after_powerOn.after_parkReconcile
      · exact (h.motion { t.motion with recovery := true }).after_powerOn.after_parkReconcile

theorem Reach.after_takeFireClear (h : Reach a s t) (hz : a .zones) (hd : a .det) (m : Header)
    (z : ZoneSet) : Reach a s (takeFireClear m z t) := by
  unfold takeFireClear
  split
  · exact h.after_refuseAt _ _ _
  · have h1 : Reach a s (t.withFire { t.fire with zones := t.fire.zones &&& ~~~z }) :=
      h.fire { t.fire with zones := t.fire.zones &&& ~~~z } (hz := .inl hz)
        (ho := .inr (fun hn ho => ⟨hn, ho⟩))
    dsimp only
    refine Reach.after_reopenLeft (Reach.after_decideState ?_) _
    split
    · exact (h1.withDet hd _).after_gradeChanged hz _
    · exact h1

theorem Reach.after_takeAlarm (h : Reach a s t) (hz : a .zones) (z : Nat) :
    Reach a s (takeAlarm z t) := by
  unfold takeAlarm
  split
  · exact h
  · exact h.after_addZones hz _

theorem Reach.after_takeAnnounce (h : Reach a s t) (m : Header) (f : AnnounceFrame) :
    Reach a s (takeAnnounce m f t) := by
  unfold takeAnnounce
  split
  · exact h
  · rename_i sd _
    have h1 : Reach a s (changeOverlay sd (fun u => modNbr u sd (announceEntry f)) t) :=
      Reach.after_changeOverlay (f := fun u => modNbr u sd (announceEntry f)) (h.after_modNbr sd _) sd
    exact (((h1.after_oweResend sd).after_voidGrant sd).after_decideState).after_reopenLeft _

theorem Reach.after_takeState (h : Reach a s t) (m : Header) (f : StateFrame) :
    Reach a s (takeState m f t) := by
  unfold takeState
  split
  · exact h
  · rename_i sd _
    have h1 : Reach a s (changeOverlay sd (fun u => modNbr u sd (stateEntry f)) t) :=
      Reach.after_changeOverlay (f := fun u => modNbr u sd (stateEntry f)) (h.after_modNbr sd _) sd
    dsimp only
    refine Reach.after_reopenLeft (Reach.after_decideState ?_) _
    split
    · exact h1.after_wakeOn _
    · exact h1

end Bodies

/-! ### Every command -/

/-- The parts of the state that a command other than RESET may change. -/
def touches (s : State) (c : Instr) : Part → Prop
  | .board => False
  | .image => c = .storeUpdateComplete
  | .setup => ∃ h f, c = .setup h f
  | .det => (∃ h f, c = .setup h f) ∨ (∃ n x, c = .sensorSample n x) ∨ (∃ h z, c = .fireClear h z) ∨
      ∃ h, c = .queryDetectors h
  | .latch => ∃ l, c = .fireLineChange l
  | .zones => (∃ l, c = .fireLineChange l) ∨ (∃ h f, c = .setup h f) ∨ (∃ n x, c = .sensorSample n x) ∨
      (∃ h z, c = .fire h z) ∨ (∃ h z, c = .fireClear h z) ∨ (∃ h z, c = .alarm h z) ∨ c = .ownFrameSent
  | .stow => movesStow c = true
  | .wares => leavesInventory c = false ∨ s.fire.node = .homing ∨ s.fire.node = .resuming

/-- A command that leaves the wares meets no RESUMING whose end would change them. -/
theorem touches_wares_or_not_opened (s : State) (c : Instr) : touches s c .wares ∨ ¬ Opened s := by
  by_cases h : s.fire.node = .resuming
  · exact .inl (.inr (.inr h))
  · exact .inr (fun ho => h ho.1)

theorem touches_wares_or_serving (s : State) (c : Instr) :
    touches s c .wares ∨ s.fire.node ≠ .homing ∧ s.fire.node ≠ .resuming := by
  by_cases h : s.fire.node = .homing
  · exact .inl (.inr (.inl h))
  · by_cases g : s.fire.node = .resuming
    · exact .inl (.inr (.inr g))
    · exact .inr ⟨h, g⟩

theorem reach_of_next {a : Part → Prop} {s t u : State}
    (h : (Host.Outcome.next u : Host.Outcome State Fault Refusal) = .next t) (g : Reach a s u) :
    Reach a s t := Host.Outcome.next.inj h ▸ g

/-- What a command other than RESET changes of the listed parts, and that it keeps the records' canonical
form. -/
theorem exec_reach {s t : State} {c : Instr} (hc : ∀ p b, c ≠ .reset p b) (hex : exec c s = .next t) :
    Reach (touches s c) s t := by
  have hw := touches_wares_or_not_opened s c
  have hn := touches_wares_or_serving s c
  have h0 := Reach.refl (touches s c) (clearOut s)
  cases c with
  | reset p b => exact absurd rfl (hc p b)
  | fireLineChange level =>
    exact reach_of_next hex (reach_fullEvent (h0.after_lineChange ⟨_, rfl⟩ (.inl ⟨_, rfl⟩) level) hw)
  | sensorSample n x =>
    exact reach_of_next hex (reach_fullEvent
      (h0.after_sample (.inr (.inl ⟨_, _, rfl⟩)) (.inr (.inr (.inl ⟨_, _, rfl⟩))) n x) hw)
  | storeUpdateComplete => exact reach_of_next hex (reach_quietEvent (h0.after_storeComplete rfl))
  | picked tag => exact reach_of_next hex (reach_fullEvent (h0.after_pickReport (.inl rfl) tag) hw)
  | placed p => exact reach_of_next hex (reach_fullEvent (h0.after_placeReport (.inl rfl) p) hw)
  | abandoned => exact reach_of_next hex (reach_fullEvent (h0.after_abandonReport hn) hw)
  | parked => exact reach_of_next hex (reach_fullEvent (h0.after_parkedReport hn) hw)
  | homed hand => exact reach_of_next hex (reach_fullEvent (h0.after_homedReport (.inl rfl) hand) hw)
  | shutterDone sh p => exact reach_of_next hex (reach_fullEvent (h0.after_shutterReport sh p) hw)
  | faultEmptyPick => exact reach_of_next hex (reach_fullEvent (h0.after_emptyPickReport (.inl rfl)) hw)
  | faultOccupiedPlace =>
    exact reach_of_next hex (reach_fullEvent (h0.after_occupiedPlaceReport (.inl rfl)) hw)
  | faultBlocked => exact reach_of_next hex (reach_fullEvent (h0.after_unexpectedMotion hn) hw)
  | faultDrive => exact reach_of_next hex (reach_fullEvent (h0.after_unexpectedMotion hn) hw)
  | arrival tag => exact reach_of_next hex (reach_fullEvent (h0.after_arrive (.inl rfl) tag) hw)
  | chuteTaken => exact reach_of_next hex (reach_fullEvent (h0.after_collected (.inl rfl)) hw)
  | senseReport o => exact reach_of_next hex (reach_fullEvent (h0.after_sense (.inl rfl) o) hw)
  | motionTimerExpiry => exact reach_of_next hex (reach_fullEvent (h0.after_motionExpiry hn) hw)
  | shutterTimerExpiry sh => exact reach_of_next hex (reach_fullEvent (h0.after_shutterExpiry sh) hw)
  | decayTimerExpiry => exact reach_of_next hex (reach_quietEvent (h0.after_decay (.inl rfl)))
  | statePeriodExpiry => exact reach_of_next hex (reach_fullEvent h0.after_statePeriod hw)
  | neighbourAbsent sd => exact reach_of_next hex (reach_fullEvent (h0.after_neighbourLost sd) hw)
  | claimTimerExpiry sd => exact reach_of_next hex (reach_fullEvent (h0.after_claimExpiry sd) hw)
  | bidTimerExpiry n => exact reach_of_next hex (reach_fullEvent (h0.after_bidExpiry n) hw)
  | closeTimerExpiry tag => exact reach_of_next hex (reach_quietEvent (h0.after_dropOffers rfl _))
  | handoverTimerExpiry b =>
    exact reach_of_next hex (reach_quietEvent (h0.after_handoverExpiry (.inl rfl) rfl b))
  | arrivalTimerExpiry n =>
    exact reach_of_next hex (reach_fullEvent (h0.after_arrivalExpiry (.inl rfl) n) hw)
  | transmitContend back => exact reach_of_next hex (reach_quietEvent (h0.after_contend back))
  | ownFrameSent =>
    exact reach_of_next hex (reach_fullEvent
      (h0.after_frameSent (.inl rfl) rfl (.inr (.inr (.inr (.inr (.inr (.inr rfl))))))) hw)
  | frameVoided => exact reach_of_next hex (reach_fullEvent (h0.after_frameVoided rfl) hw)
  | receivedFrameIgnored m f =>
    exact reach_of_next hex (reach_receiveQuiet (fun _ hu => hu.after_ignoreFrame m f) hw)
  | setup m f =>
    exact reach_of_next hex (reach_receive (fun _ hu =>
      hu.after_takeSetup ⟨_, _, rfl⟩ (.inl ⟨_, _, rfl⟩) (.inr (.inl ⟨_, _, rfl⟩)) m f) hw)
  | columnLoad m c count bins =>
    exact reach_of_next hex (reach_receive (fun _ hu => hu.after_takeColumnLoad (.inl rfl) m c count bins) hw)
  | loadEnd m => exact reach_of_next hex (reach_receiveQuiet (fun _ hu => hu.after_takeLoadEnd m) hw)
  | fetch m cls flags count bins =>
    exact reach_of_next hex (reach_receive (fun _ hu => hu.after_takeFetch m cls flags count bins) hw)
  | verify m flags count bins =>
    exact reach_of_next hex (reach_receive (fun _ hu => hu.after_takeVerify m flags count bins) hw)
  | cancel m => exact reach_of_next hex (reach_receive (fun _ hu => hu.after_cancelJobs m) hw)
  | stowReady m b desk =>
    exact reach_of_next hex (reach_receiveQuiet (fun _ hu => hu.after_takeStowReady rfl m b desk) hw)
  | lend m b i it =>
    exact reach_of_next hex (reach_receiveQuiet (fun _ hu => hu.after_itemOp (.inl rfl) m b i _ _) hw)
  | refill m b i it =>
    exact reach_of_next hex (reach_receiveQuiet (fun _ hu => hu.after_itemOp (.inl rfl) m b i _ _) hw)
  | withdraw m b i it =>
    exact reach_of_next hex (reach_receiveQuiet (fun _ hu => hu.after_itemOp (.inl rfl) m b i _ _) hw)
  | accession m b i it =>
    exact reach_of_next hex (reach_receiveQuiet (fun _ hu => hu.after_itemOp (.inl rfl) m b i _ _) hw)
  | returnQuery m it =>
    exact reach_of_next hex (reach_receiveQuiet (fun _ hu => hu.after_takeReturnQuery m it) hw)
  | chuteClear m =>
    exact reach_of_next hex (reach_receive (fun _ hu => hu.after_takeChuteClear (.inl rfl) m) hw)
  | slotReclaim m side =>
    exact reach_of_next hex (reach_receive (fun _ hu => hu.after_takeReclaim m side) hw)
  | restart m => exact reach_of_next hex (reach_receive (fun _ hu => hu.after_takeRestart m) hw)
  | queryBinRecord m b =>
    exact reach_of_next hex (reach_receiveQuiet (fun _ hu => hu.after_queryBin m b) hw)
  | queryColumn m arg =>
    exact reach_of_next hex (reach_receiveQuiet (fun _ hu => hu.after_queryCol m arg) hw)
  | queryJobSummary m =>
    exact reach_of_next hex (reach_receiveQuiet (fun _ hu => hu.after_queryJobs m) hw)
  | queryDetectors m =>
    exact reach_of_next hex (reach_receiveQuiet
      (fun _ hu => hu.after_queryDets (.inr (.inr (.inr ⟨_, rfl⟩))) m) hw)
  | queryNeighbours m =>
    exact reach_of_next hex (reach_receiveQuiet (fun _ hu => hu.after_queryNbrs m) hw)
  | queryCounters m =>
    exact reach_of_next hex (reach_receiveQuiet (fun _ hu => hu.after_queryCounts m) hw)
  | fire m z =>
    exact reach_of_next hex (reach_receiveFire
      (fun _ hu => hu.after_addZones (.inr (.inr (.inr (.inl ⟨_, _, rfl⟩)))) z) hw)
  | fireClear m z =>
    exact reach_of_next hex (reach_receiveFire
      (fun _ hu => hu.after_takeFireClear (.inr (.inr (.inr (.inr (.inl ⟨_, _, rfl⟩)))))
        (.inr (.inr (.inl ⟨_, _, rfl⟩))) m z) hw)
  | alarm m z =>
    exact reach_of_next hex (reach_receiveFire
      (fun _ hu => hu.after_takeAlarm (.inr (.inr (.inr (.inr (.inr (.inl ⟨_, _, rfl⟩)))))) z) hw)
  | announce m f => exact reach_of_next hex (reach_receive (fun _ hu => hu.after_takeAnnounce m f) hw)
  | state m f => exact reach_of_next hex (reach_receive (fun _ hu => hu.after_takeState m f) hw)
  | offer m f =>
    exact reach_of_next hex (reach_receiveQuiet (fun _ hu => hu.after_takeOffer f m.tag) hw)
  | bid m holder b =>
    exact reach_of_next hex (reach_receive (fun _ hu => hu.after_takeBid (.inl rfl) rfl m.src holder m.tag) hw)
  | refuseOfferClosed m =>
    exact reach_of_next hex (reach_receive (fun _ hu => hu.after_takeOfferClosed m.src m.tag) hw)
  | recordHandover m r =>
    exact reach_of_next hex (reach_receiveQuiet (fun _ hu => hu.after_recordFrame (.inl rfl) rfl m r) hw)
  | recordSurvey m r =>
    exact reach_of_next hex (reach_receiveQuiet (fun _ hu => hu.after_recordFrame (.inl rfl) rfl m r) hw)
  | adopted m b =>
    exact reach_of_next hex (reach_receive (fun _ hu => hu.after_takeAdopted (.inl rfl) rfl m.src b) hw)
  | slotClaim m b =>
    exact reach_of_next hex (reach_receive
      (fun _ hu => hu.after_onSide m (fun sd => hu.after_takeClaim m b sd)) hw)
  | slotGrant m b =>
    exact reach_of_next hex (reach_receive
      (fun _ hu => hu.after_onSide m (fun sd => hu.after_takeGrant m sd)) hw)
  | slotRefuse m r =>
    exact reach_of_next hex (reach_receive
      (fun _ hu => hu.after_onSide m (fun sd => hu.after_takeSlotRefuse m sd)) hw)
  | slotLoaded m r =>
    exact reach_of_next hex (reach_receive
      (fun _ hu => hu.after_onSide m (fun sd => hu.after_takeLoaded m (bodyOf r) sd)) hw)
  | slotTaken m b =>
    exact reach_of_next hex (reach_receive
      (fun _ hu => hu.after_onSide m (fun sd => hu.after_takeTaken (.inl rfl) m b sd)) hw)
  | receiveFilterDiscard m =>
    refine reach_of_next hex ?_
    split
    · exact reach_fullEvent (h0.after_hear m.src) hw
    · exact reach_quietEvent (h0.after_hear m.src)

/-! ### RESET -/

/-- The parts that the start-up of a RESET may change in the cleared state. -/
def startsUp : Part → Prop
  | .latch | .zones | .wares => True
  | _ => False

theorem reset_reach (s : State) (p : StrapPins) (pin : Bool) :
    Reach startsUp (clearedState s p) (resetNode s p pin) := by
  have hview := (Reach.refl startsUp (clearedState s p)).foldl resetView sides (fun u sd _ hu => by
    unfold resetView
    split
    · exact hu
    · exact (hu.slots _).after_modView sd _)
  have hchute := Reach.trans hview (u := resetChute (sides.foldl resetView (clearedState s p))) (by
    unfold resetChute
    split
    · exact (Reach.refl _ _).motion _ (.inl trivial)
    · split
      · exact (Reach.refl _ _).motion _ (.inl trivial)
      · exact Reach.refl _ _)
  have hline := Reach.trans hchute
    (u := resetLine (resetChute (sides.foldl resetView (clearedState s p))) pin) (by
    unfold resetLine
    split
    · exact (Reach.refl _ _).fire _ (.inl trivial) (.inl trivial) (.inl trivial)
    · exact Reach.refl _ _)
  have hstart := Reach.trans hline
    (u := startUp (resetLine (resetChute (sides.foldl resetView (clearedState s p))) pin)) (by
    have h0 := Reach.refl startsUp (resetLine (resetChute (sides.foldl resetView (clearedState s p))) pin)
    unfold startUp startSafe
    split
    · have h1 := (h0.after_setNode .safe (by decide)).foldl (fun t sd => setFireCause t true sd) sides
        (fun _ sd _ hu => hu.after_setFireCause true sd)
      exact ((h1.fire _ (.inl trivial) (.inl trivial) (.inl trivial)).after_powerOff).after_askAll _
    · split
      · exact h0.after_enterShutdown
      · split
        · exact h0.after_powerOn.after_parkReconcile
        · exact h0)
  have hend := (hstart.after_settle (.inl trivial)).after_postState
  exact hend.after_commit (clearedState s p)

/-! ### The two statements -/

theorem exec_pending_image {s t : State} {c : Instr} (hex : exec c s = .next t) :
    t.pending = s.pending ∧ (c ≠ .storeUpdateComplete → t.store.image = s.store.image) := by
  by_cases hc : ∃ p b, c = .reset p b
  · obtain ⟨p, b, rfl⟩ := hc
    have hr := reach_of_next hex (reset_reach s p b)
    exact ⟨hr.pending, fun _ => hr.image id⟩
  · have hr := exec_reach (fun p b h => hc ⟨p, b, h⟩) hex
    exact ⟨hr.pending, hr.image⟩

/-- Settles O2: `exec_reach` says of every command which parts of the state it can reach. -/
theorem onlyTheseCommandsChange : Obligations.OnlyTheseCommandsChange := by
  intro s t c hex
  obtain ⟨hpend, himg⟩ := exec_pending_image hex
  refine ⟨hpend, himg, fun hc => ?_⟩
  have hr := exec_reach hc hex
  refine ⟨hr.board id, fun h => hr.setup ?_, fun h1 h2 h3 h4 => hr.det ?_, fun h => hr.latch ?_,
    fun h1 h2 h3 h4 h5 h6 h7 => hr.zones ?_, fun h => hr.stow ?_, fun h1 h2 h3 => ?_⟩
  · rintro ⟨m, f, rfl⟩
    exact h m f rfl
  · rintro (⟨m, f, rfl⟩ | ⟨n, x, rfl⟩ | ⟨m, z, rfl⟩ | ⟨m, rfl⟩)
    exacts [h1 _ _ rfl, h2 _ _ rfl, h3 _ _ rfl, h4 _ rfl]
  · rintro ⟨l, rfl⟩
    exact h l rfl
  · rintro (⟨l, rfl⟩ | ⟨m, f, rfl⟩ | ⟨n, x, rfl⟩ | ⟨m, z, rfl⟩ | ⟨m, z, rfl⟩ | ⟨m, z, rfl⟩ | rfl)
    exacts [h1 _ rfl, h2 _ _ rfl, h3 _ _ rfl, h4 _ _ rfl, h5 _ _ rfl, h6 _ _ rfl, h7 rfl]
  · intro hm
    exact Bool.false_ne_true (h.symm.trans hm)
  · have hkept := hr.wares (by
      rintro (hl | hh | hg)
      exacts [Bool.false_ne_true (hl.symm.trans h1), h2 hh, h3 hg])
    simpa [waresOf] using hkept

theorem exec_keeps_sorted {s t : State} {c : Instr} (hs : RecordsSorted s) (hex : exec c s = .next t) :
    RecordsSorted t := by
  by_cases hc : ∃ p b, c = .reset p b
  · obtain ⟨p, b, rfl⟩ := hc
    have hr := reach_of_next hex (reset_reach s p b)
    obtain ⟨_, himg, _⟩ := hs
    exact hr.sorted ⟨himg, himg, by simp [clearedState]⟩
  · exact (exec_reach (fun p b h => hc ⟨p, b, h⟩) hex).sorted hs

/-- Settles O4: every part of a step is work that keeps the canonical form (`Reach.sorted`). -/
theorem recordsStaySorted : Obligations.RecordsStaySorted := by
  intro s t hs hstep
  unfold step at hstep
  split at hstep
  · exact Host.Outcome.next.inj hstep ▸ hs
  · rename_i c rest _
    exact exec_keeps_sorted (s := s.withPending rest) hs hstep

end Sys2Proof.Machine
end

section
/-! PROOFS. Rules about whole events: what an event's end leaves, what a received frame finds, and an answer
posted; the queries of O21. -/

namespace Sys2Proof.Machine

open Sys2Proof

-- In turn, so that the proofs do not hold more threads at once than the memory limit has stacks for.
set_option Elab.async false

/-! ### Fields of `lasting` -/

section Lasting

variable {s t : State}

theorem records_of_lasting (h : lasting t = lasting s) : t.inv.records = s.inv.records :=
  congrArg (fun x => x.2.1) h

theorem columns_of_lasting (h : lasting t = lasting s) : t.inv.columns = s.inv.columns :=
  congrArg (fun x => x.2.2.1) h

theorem awayLine_of_lasting (h : lasting t = lasting s) : awayLine t = awayLine s :=
  congrArg (fun x => x.2.2.2.1) h

theorem chute_of_lasting (h : lasting t = lasting s) : t.motion.chute = s.motion.chute :=
  congrArg (fun x => x.2.2.2.2.2.2.1) h

theorem reason_of_lasting (h : lasting t = lasting s) : t.motion.reason = s.motion.reason :=
  congrArg (fun x => x.2.2.2.2.2.2.2.1) h

theorem putAway_of_lasting (h : lasting t = lasting s) : t.motion.putAway = s.motion.putAway :=
  congrArg (fun x => x.2.2.2.2.2.2.2.2) h

theorem board_of_lasting (h : lasting t = lasting s) : t.board = s.board :=
  congrArg (fun x => x.1.1) h

theorem stow_of_lasting (h : lasting t = lasting s) : t.stow = s.stow :=
  congrArg (fun x => x.1.2.2.1) h

theorem setup_of_lasting (h : lasting t = lasting s) : t.setup = s.setup :=
  congrArg (fun x => x.1.2.2.2.2.2.2.1) h

theorem replies_of_kept (h : kept t = kept s) : t.bus.replies = s.bus.replies :=
  congrArg (fun x => x.2.2.2.2.2.2.2.2.2.2.1) h

theorem replies_of_lasting (h : lasting t = lasting s) : t.bus.replies = s.bus.replies :=
  replies_of_kept (kept_of_lasting h)

theorem recordOf_of_records (h : t.inv.records = s.inv.records) (b : BinId) :
    recordOf t b = recordOf s b := by
  unfold recordOf
  rw [h]

theorem residenceOf_of_records (h : t.inv.records = s.inv.records) (b : BinId) :
    residenceOf t b = residenceOf s b := by
  unfold residenceOf
  rw [recordOf_of_records h]

theorem column_of_columns (h : t.inv.columns = s.inv.columns) (c : Nat) : column t c = column s c := by
  unfold column
  rw [h]

end Lasting

/-! ### The end of an event that leaves the picture alone -/

/-- Letting a held transfer go changes the motion port alone. -/
theorem releaseHeld_eq (s : State) :
    ∃ m, releaseHeld s = s.withMotion m ∧ (s.motion.held = none → m = s.motion) := by
  unfold releaseHeld
  split
  · exact ⟨s.motion, rfl, fun _ => rfl⟩
  · rename_i x hx
    split
    · exact ⟨_, rfl, fun h => by rw [h] at hx; cases hx⟩
    · split
      · exact ⟨s.motion, rfl, fun _ => rfl⟩
      · exact ⟨_, rfl, fun h => by rw [h] at hx; cases hx⟩

/-- An event's end that finds the picture and the causes of STATE as they were forgets the ended step and may
let a held transfer go. -/
theorem endEvent_same {was u : State} (hi : u.inv = was.inv) (hc : stateCause was = stateCause u) :
    endEvent was u = releaseHeld (u.withSched { u.sched with stepEnded := none }) := by
  have hr : reportChange was u = u := by simp [reportChange, hc]
  rw [endEvent, hr, commit_same _ _ hi]

theorem endEvent_plain {was u : State} (hi : u.inv = was.inv) (hc : stateCause was = stateCause u) :
    ∃ m, endEvent was u = (u.withSched { u.sched with stepEnded := none }).withMotion m ∧
      (u.motion.held = none → m = u.motion) := by
  rw [endEvent_same hi hc]
  exact releaseHeld_eq _

/-! ### What the owner of a received frame finds -/

/-- The state on which the owner of a passed frame acts: its sender heard, the frame counted (R101, R170). -/
def heard (s : State) (h : Header) : State := countReceived (hear (clearOut s) h.src)

/-- With no overlay lifted, hearing and counting change the neighbour table and the counters alone. -/
theorem heard_eq (s : State) (h : Header) (hl : hearingLifts s h.src = false) :
    ∃ w e, heard s h = (clearOut s).withBus
      { s.bus with nbWest := w, nbEast := e, counters := oneReceived s.bus.counters } := by
  obtain ⟨w, e, heq⟩ := hear_same (clearOut s) h.src hl
  exact ⟨w, e, by rw [heard, heq]; rfl⟩

theorem nbr_heard (s : State) (h : Header) (hl : hearingLifts s h.src = false) (sd : Side) :
    nbr (heard s h) sd = heardNbr s h.src sd := by
  have hn : nbr (hear (clearOut s) h.src) sd = heardNbr (clearOut s) h.src sd := nbr_hear _ _ _ hl
  cases sd <;> exact hn

theorem takeFrame_eq {s : State} {h : Header} (hp : Passes s h) (always : Bool) (body : State → State) :
    takeFrame h always body (clearOut s) = body (heard s h) := takeFrame_passes h always body (clearOut s) hp

theorem receive_eq {s : State} {h : Header} (hp : Passes s h) (body : State → State) :
    receive h body s = fullEvent (fun _ => body (heard s h)) s := by
  rw [receive, fullEvent, takeFrame_eq hp, fullEvent]

theorem receiveQuiet_eq {s : State} {h : Header} (hp : Passes s h) (body : State → State) :
    receiveQuiet h body s = endEvent (clearOut s) (body (heard s h)) := by
  obtain ⟨_, _, hl⟩ := id hp
  rw [receiveQuiet, hl, if_neg Bool.false_ne_true, quietEvent, takeFrame_eq hp]

/-! ### Answers -/

theorem postReply_eq {s : State} (hp : posts s = true) (f : Frame) :
    postReply s f = s.withBus
      { s.bus with replies := s.bus.replies ++ [posted s.bus.seq f], seq := s.bus.seq + 1 } := by
  rw [postReply, if_pos hp]
  rfl

theorem respond_room {s : State} (hr : s.bus.replies.length < 8) (act : State → State)
    (answer : State → Frame) : respond s act answer = postReply (act s) (answer (act s)) := by
  simp [respond, replyRoom, hr]

section Answered

variable {s : State} {h : Header}

theorem heard_posts (hp : Passes s h) : posts (heard s h) = true := by
  obtain ⟨_, hps, hl⟩ := hp
  obtain ⟨w, e, heq⟩ := heard_eq s h hl
  rw [heq]
  exact hps

theorem heard_replies (hp : Passes s h) : (heard s h).bus.replies = s.bus.replies := by
  obtain ⟨_, _, hl⟩ := hp
  obtain ⟨w, e, heq⟩ := heard_eq s h hl
  rw [heq]
  rfl

theorem heard_respond (hp : Passes s h) (hr : s.bus.replies.length < 8) (act : State → State)
    (answer : State → Frame) :
    respond (heard s h) act answer = postReply (act (heard s h)) (answer (act (heard s h))) :=
  respond_room (by rw [heard_replies hp]; exact hr) act answer

/-- A refusal is an answer that leaves the state it finds. -/
theorem heard_refuseAt (hp : Passes s h) (hr : s.bus.replies.length < 8) (level : Nat)
    (r : RefuseReason) : refuseAt (heard s h) level h r = postReply (heard s h) (refusal s level h r) := by
  obtain ⟨_, _, hl⟩ := id hp
  obtain ⟨w, e, heq⟩ := heard_eq s h hl
  rw [refuseAt, heard_respond hp hr, heq]
  rfl

theorem heard_addressed (hp : Passes s h) (hd : h.dst = s.board.station) :
    addressed (heard s h) h = true := by
  obtain ⟨_, hps, hl⟩ := hp
  obtain ⟨w, e, heq⟩ := heard_eq s h hl
  have h0 : s.board.station ≠ 0 := by simpa [posts] using hps
  have ha : addressed s h = true := by simp [addressed, hd, h0]
  rw [heq]
  exact ha

/-- A quiet event whose owner does nothing but answer: the answer and the counters, and nothing else. -/
theorem quiet_answer (hp : Passes s h) {body : State → State} {f : Frame}
    (hb : body (heard s h) = postReply (heard s h) f) :
    ∃ t, (Host.Outcome.next (receiveQuiet h body s) : Host.Outcome State Fault Refusal) = .next t ∧
      Answered s t h f ∧ t.bus.counters = oneReceived s.bus.counters ∧
      Untouched [.bus, .motion, .sched] s t ∧ PortsQuiet s t := by
  obtain ⟨_, _, hl⟩ := id hp
  obtain ⟨w, e, heq⟩ := heard_eq s h hl
  have hu : body (heard s h) = (clearOut s).withBus
      { s.bus with
        nbWest := w, nbEast := e, counters := oneReceived s.bus.counters
        replies := s.bus.replies ++ [posted s.bus.seq f], seq := s.bus.seq + 1 } := by
    rw [hb, postReply_eq (heard_posts hp), heq]
    rfl
  have hn := nbr_heard s h hl
  rw [heq] at hn
  have hi : (body (heard s h)).inv = (clearOut s).inv := by rw [hu]; rfl
  have hc : stateCause (clearOut s) = stateCause (body (heard s h)) := by rw [hu]; rfl
  obtain ⟨m, hm, hq⟩ := endEvent_plain hi hc
  rw [hu] at hm hq
  refine ⟨_, rfl, ?_⟩
  rw [receiveQuiet_eq hp, hu, hm]
  refine ⟨⟨rfl, rfl, rfl, rfl, rfl, rfl, fun sd _ => ?_⟩, rfl, ?_, fun hh => ⟨hq hh, rfl⟩⟩
  · rw [← hn sd]
    cases sd <;> rfl
  · intro b hb'
    cases b <;> simp_all <;> rfl

end Answered

/-! ### O21 -/

/-- Settles O21: each query's owner only answers, from tables that hearing its sender leaves alone. -/
theorem inventoryQueriesAnswered : Obligations.InventoryQueriesAnswered := by
  intro s h hp hd hr
  have ha := heard_addressed hp hd
  obtain ⟨_, _, hl⟩ := id hp
  obtain ⟨w, e, heq⟩ := heard_eq s h hl
  have hans : ∀ (g : State → Reply) (r : Reply), g (heard s h) = r →
      respond (heard s h) id (fun t => replyFrame h (g t) t) =
        postReply (heard s h) (replyTo s h r) := by
    intro g r hg
    rw [heard_respond hp hr, id, hg, heq]
    rfl
  have hcol : ∀ c, c < columnCount s → c < 65280 →
      queryCol h c (heard s h) = postReply (heard s h)
        (replyTo s h (.column c (column s c).suspect (column s c).bins)) := by
    intro c hc hlt
    have hpage : ¬ (c / 256 = 255 ∧ c % 256 < 32) := by omega
    have hcount : c < columnCount (heard s h) := by rw [heq]; exact hc
    rw [queryCol, if_neg (by simp [ha]), if_neg hpage, if_pos hcount]
    exact hans (fun t => .column c (column t c).suspect (column t c).bins) _ (by rw [heq]; rfl)
  have hpage : ∀ k, k < 32 → queryCol h (65280 + k) (heard s h) = postReply (heard s h)
      (replyTo s h (.awayList s.inv.away.length k (awayPage s k))) := by
    intro k hk
    have h1 : (65280 + k) / 256 = 255 := by omega
    have h2 : (65280 + k) % 256 = k := by omega
    rw [queryCol, if_neg (by simp [ha]), h1, h2, if_pos ⟨rfl, hk⟩]
    exact hans (fun t => .awayList t.inv.away.length k (awayPage t k)) _ (by rw [heq]; rfl)
  refine ⟨fun b hlo hhi => quiet_answer hp ?_, fun c hc hlt => quiet_answer hp (hcol c hc hlt),
    fun k hk => quiet_answer hp (hpage k hk), quiet_answer hp ?_⟩
  · have hid : isBinId b = true := by simp [isBinId, hlo, hhi]
    rw [queryBin, if_neg (by simp [hid]), if_pos (.inl ha)]
    exact hans (fun t => .binRecord (recordOf t b)) _ (by rw [heq]; rfl)
  · rw [queryJobs, if_pos ha]
    exact hans (fun t => .jobSummary (jobSummary t)) _ (by rw [heq]; rfl)

end Sys2Proof.Machine
end

section
/-! PROOFS. A store update completes (O16). -/

namespace Sys2Proof.Machine

open Sys2Proof

-- In turn, so that the proofs do not hold more threads at once than the memory limit has stacks for.
set_option Elab.async false

/-- With no update left that was of its context's last step, a held transfer is commanded. -/
theorem releaseHeld_launch {s : State} {x : Xfer} {n : Nat} (hx : s.motion.held = some x)
    (hn : x.owner = some n) (hs : stepHeld s n = false) : releaseHeld s = launch s x := by
  simp [releaseHeld, hx, hn, hs]

/-- A frame whose event's update is being written is not posted yet. -/
theorem unposted_of_event {s : State} {f : PFrame} {u : StoreUpdate} (hu : u ∈ s.store.queue)
    (hlo : u.start ≤ f.seq) (hhi : f.seq < u.stop) : unposted s f = true :=
  anyUpdate_of_mem _ _ u hu (fun _ => by simp [postedAfter, hlo, hhi]) _

/-- A frame posted after every update's event that reads nothing they changed waits for none. -/
theorem awaitsStore_none {s : State} {f : PFrame}
    (h : ∀ u ∈ s.store.queue, u.start ≤ f.seq ∧ u.stop ≤ f.seq ∧
      ∀ before, contentReads before u f.frame.payload = false) :
    unposted s f = false ∧ awaitsStore s f = false := by
  have hpost : unposted s f = false := anyUpdate_none _ _ (fun u hu before => by
    obtain ⟨_, hstop, hreads⟩ := h u hu
    simp [postedAfter, Nat.not_lt.mpr hstop, hreads before]) _
  have hbuilt : anyUpdate (fun before u => rebuiltAfter before u f) s.store.image s.store.queue = false :=
    anyUpdate_none _ _ (fun u hu before => by
      obtain ⟨hstart, _, _⟩ := h u hu
      simp [rebuiltAfter, Nat.not_lt.mpr hstart]) _
  exact ⟨hpost, by simp [awaitsStore, hpost, hbuilt]⟩

/-- A frame that is posted as an update completes has its turn at that moment, or had one before. -/
theorem turnOf_postLate {was s : State} {f : PFrame} (hf : f ∈ owedFrames s)
    (hp : nowPosted was s f = true) :
    turnOf (postLate was s) f = s.bus.seq ∨ ∃ p ∈ s.bus.turns, p.1 = f.seq := by
  rw [turnOf]
  cases hfind : (postLate was s).bus.turns.find? (fun p => p.1 = f.seq) with
  | none =>
    have hmem : (f.seq, s.bus.seq) ∈ (postLate was s).bus.turns :=
      List.mem_append_right _ (List.mem_map.mpr ⟨f, List.mem_filter.mpr ⟨hf, hp⟩, rfl⟩)
    simpa using List.find?_eq_none.mp hfind _ hmem
  | some p =>
    have hseq : p.1 = f.seq := by simpa using List.find?_some hfind
    rcases List.mem_append.mp (List.mem_of_find?_eq_some hfind) with hold | hnew
    · exact .inr ⟨p, (List.mem_filter.mp hold).1, hseq⟩
    · obtain ⟨g, _, rfl⟩ := List.mem_map.mp hnew
      exact .inl rfl

/-- Settles O16: a quiet event that changes the store and the answers' order, and then lets the held transfer
go; the other two parts say what `anyUpdate` finds. -/
theorem storeUpdateCompletes : Obligations.StoreUpdateCompletes := by
  refine ⟨fun s u us hq => ?_, fun s k f u hu hlo hhi hk hmem => ?_, fun s f l r hl hbefore hafter => ?_⟩
  · let v := (clearOut s).withStore { image := u.image, queue := us }
    have hbody : storeComplete (clearOut s) = postLate (clearOut s) v := by
      have hq' : (clearOut s).store.queue = u :: us := hq
      rw [storeComplete, hq']
    have hend : quietEvent storeComplete s =
        releaseHeld ((postLate (clearOut s) v).withSched { v.sched with stepEnded := none }) := by
      rw [quietEvent, hbody]
      exact endEvent_same rfl rfl
    obtain ⟨m, hm, hq'⟩ := releaseHeld_eq
      ((postLate (clearOut s) v).withSched { v.sched with stepEnded := none })
    refine ⟨_, rfl, ?_⟩
    rw [hend]
    refine ⟨?_, ?_, ?_, ?_, ?_, fun f hf hwait hpost => ?_, fun x n hx hn hfree => ?_⟩
    · rw [hm]; rfl
    · intro b hb
      rw [hm]
      cases b <;> simp_all <;> rfl
    · intro hh
      rw [hm]
      exact ⟨hq' hh, rfl⟩
    · rw [hm]; rfl
    · rw [hm]; rfl
    · rw [hm] at hpost ⊢
      have hf' : f ∈ owedFrames v := List.mem_append_left _ (List.mem_append_right _ hf)
      have hnow : nowPosted (clearOut s) v f = true := by
        have hp : unposted v f = false := hpost
        have hw : unposted (clearOut s) f = true := hwait
        simp [nowPosted, hp, hw]
      exact turnOf_postLate hf' hnow
    · have hstep : stepHeld ((postLate (clearOut s) v).withSched { v.sched with stepEnded := none }) n
          = false := by
        have : (us.any (fun w => w.stepCtx = some n)) = false := by
          simpa using hfree
        simp [stepHeld, postLate, v, this]
      rw [releaseHeld_launch (s := (postLate (clearOut s) v).withSched
        { v.sched with stepEnded := none }) hx hn hstep]
      exact ⟨rfl, rfl, rfl⟩
  · have hwait : unposted s f = true := unposted_of_event hu hlo hhi
    simp [sendable, maySend, hk, awaitsStore, hwait] at hmem
  · obtain ⟨hpost, hsend⟩ := awaitsStore_none hafter
    have hwait : ∀ g ∈ l, unposted s g = true := fun g hg => by
      obtain ⟨u, hu, hlo, hhi⟩ := hbefore g hg
      exact unposted_of_event hu hlo hhi
    have hhead : replyHead s = some f := by
      rw [replyHead, hl, List.find?_append, List.find?_eq_none.mpr (fun g hg => by simp [hwait g hg])]
      simp [hpost]
    have hmem : (TxKey.reply, f) ∈ pendingSet s := by
      simp [pendingSet, hhead, placed?]
    exact ⟨hmem, List.mem_filter.mpr ⟨hmem, by simp [maySend, hsend]⟩⟩

end Sys2Proof.Machine
end

section
/-! PROOFS. The CLASH marking and the survey RECORD (O30). -/

namespace Sys2Proof.Machine

open Sys2Proof

-- In turn, so that the proofs do not hold more threads at once than the memory limit has stacks for.
set_option Elab.async false

/-! ### The CLASH marking (R122) -/

/-- Whether the CLASH marking marks an item slot: its id stands IN or OUT in another record, among the ids
seen, or in an earlier slot as marked. -/
def clashes (held : ItemId → Bool) (seen : List ItemId) (done : List ItemSlot) (k : ItemSlot) : Bool :=
  k.isHeld && (held k.item || decide (k.item ∈ seen) || done.any (fun j => j.isHeld && j.item = k.item))

theorem clashSlots_length (held : ItemId → Bool) (seen : List ItemId) (l : List ItemSlot) :
    (clashSlots held seen l).length = l.length := by
  induction l generalizing seen with
  | nil => rfl
  | cons a as ih =>
    unfold clashSlots
    split
    · split
      · simp [ih]
      · simp [ih]
    · simp [ih]

/-- The marking of each slot, told by the marked slots before it. -/
theorem clashSlots_get (held : ItemId → Bool) (seen : List ItemId) (l : List ItemSlot) (i : Nat)
    (k : ItemSlot) (hk : l[i]? = some k) :
    (clashSlots held seen l)[i]? = some
      (if clashes held seen ((clashSlots held seen l).take i) k then { k with state := .clash } else k) := by
  induction l generalizing seen i with
  | nil => simp at hk
  | cons a as ih =>
    cases i with
    | zero =>
      obtain rfl : a = k := by simpa using hk
      by_cases hh : a.isHeld = true
      · by_cases hm : held a.item = true ∨ a.item ∈ seen <;> simp [clashSlots, clashes, hh, hm]
      · simp [clashSlots, clashes, hh]
    | succ i =>
      have hk' : as[i]? = some k := by simpa using hk
      have hclash : ∀ x : ItemSlot, (ItemSlot.isHeld { x with state := .clash }) = false := by
        intro x; simp [ItemSlot.isHeld]
      by_cases hh : a.isHeld = true
      · by_cases hm : held a.item = true ∨ a.item ∈ seen
        · rw [clashSlots, if_pos hh, if_pos hm]
          simp [ih seen i hk', clashes, hclash]
        · rw [clashSlots, if_pos hh, if_neg hm]
          have hsame : clashes held (a.item :: seen) ((clashSlots held (a.item :: seen) as).take i) k =
              clashes held seen (a :: (clashSlots held (a.item :: seen) as).take i) k := by
            by_cases he : k.item = a.item
            · simp [clashes, hh, he]
            · simp [clashes, he, Ne.symm he]
          rw [List.getElem?_cons_succ, ih (a.item :: seen) i hk', List.take_succ_cons, hsame]
      · rw [clashSlots, if_neg hh]
        simp [ih seen i hk', clashes, hh]

theorem isHeld_iff (i : ItemSlot) : i.isHeld = true ↔ i.state = .inBin ∨ i.state = .lentOut := by
  simp [ItemSlot.isHeld]

theorem clashMark_get (s : State) (r : RecordBody) (i : Nat) (k : ItemSlot)
    (hk : r.slots[i]? = some k) :
    (clashMark s r).slots[i]? = some
      (if (k.state = .inBin ∨ k.state = .lentOut) ∧
          ((∃ q ∈ s.inv.records, q.body.bin ≠ r.bin ∧ ∃ j ∈ q.body.slots,
              (j.state = .inBin ∨ j.state = .lentOut) ∧ j.item = k.item) ∨
            ∃ j ∈ (clashMark s r).slots.take i,
              (j.state = .inBin ∨ j.state = .lentOut) ∧ j.item = k.item) then
        { k with state := .clash }
      else k) := by
  have hiff : clashes (itemHeld s (some r.bin)) [] ((clashMark s r).slots.take i) k = true ↔
      (k.state = .inBin ∨ k.state = .lentOut) ∧
        ((∃ q ∈ s.inv.records, q.body.bin ≠ r.bin ∧ ∃ j ∈ q.body.slots,
            (j.state = .inBin ∨ j.state = .lentOut) ∧ j.item = k.item) ∨
          ∃ j ∈ (clashMark s r).slots.take i,
            (j.state = .inBin ∨ j.state = .lentOut) ∧ j.item = k.item) := by
    simp [clashes, itemHeld, isHeld_iff]
  have hget := clashSlots_get (itemHeld s (some r.bin)) [] r.slots i k hk
  have hget' : (clashMark s r).slots[i]? = some
      (if clashes (itemHeld s (some r.bin)) [] ((clashMark s r).slots.take i) k = true
        then { k with state := .clash } else k) := hget
  rw [hget']
  simp only [hiff]

/-! ### The survey RECORD (R9) -/

/-- The end of an event leaves the picture as the body and the settling leave it. -/
theorem endEvent_inv (was u : State) : (endEvent was u).inv = u.inv := by
  have hr : (reportChange was u).inv = u.inv := by
    unfold reportChange postState postStateFrame
    split
    · rfl
    · split <;> rfl
  rw [endEvent, ← hr]
  unfold commit
  dsimp only
  split
  · obtain ⟨m, hm, _⟩ := releaseHeld_eq
      ((reportChange was u).withSched { (reportChange was u).sched with stepEnded := none })
    rw [hm]
    rfl
  · rfl

/-- A quiet event whose owner acts and answers: the picture is the act's, and the answer is posted. -/
theorem quiet_acts {s : State} {h : Header} (hp : Passes s h) {body : State → State} {v : State} {f : Frame}
    (hb : body (heard s h) = postReply v f) (hv : v.bus.replies = s.bus.replies)
    (hposts : posts v = true) :
    ∃ t q, (Host.Outcome.next (receiveQuiet h body s) : Host.Outcome State Fault Refusal) = .next t ∧
      t.inv = v.inv ∧ t.bus.replies = s.bus.replies ++ [posted q f] := by
  refine ⟨_, v.bus.seq, rfl, ?_⟩
  rw [receiveQuiet_eq hp, hb, postReply_eq hposts]
  refine ⟨endEvent_inv _ _, ?_⟩
  rw [replies_of_lasting (lasting_endEvent _ _), ← hv]
  rfl

theorem recordOf_putRecord_self (s : State) (r : BinRecord) :
    recordOf (putRecord s r) r.body.bin = some r := lookup_insert_self r _

theorem recordOf_putRecord_other (s : State) (r : BinRecord) {b : BinId} (hb : b ≠ r.body.bin) :
    recordOf (putRecord s r) b = recordOf s b := lookup_insert_other r b _ hb

section Survey

variable {s : State} {h : Header} {r : RawRecord}

theorem recordFrame_heard (hp : Passes s h) (hn : s.fire.node = .survey) :
    recordFrame h r (heard s h) = takeSurvey h r (heard s h) ∧
      surveyRefusal (heard s h) r = surveyRefusal s r := by
  obtain ⟨_, _, hl⟩ := id hp
  obtain ⟨w, e, heq⟩ := heard_eq s h hl
  have hn' : (heard s h).fire.node = .survey := by rw [heq]; exact hn
  rw [recordFrame, if_pos hn', heq]
  exact ⟨rfl, rfl⟩

/-- A refused survey RECORD is answered, and nothing else happens. -/
theorem survey_refused (hp : Passes s h) (hr : s.bus.replies.length < 8) (hn : s.fire.node = .survey)
    {why : RefuseReason} (hw : surveyRefusal s r = some why) :
    Refused s (.recordSurvey h r) h 2 why := by
  obtain ⟨hbody, href⟩ := recordFrame_heard (r := r) hp hn
  refine quiet_answer hp (body := recordFrame h r) ?_
  rw [hbody, takeSurvey, href, hw]
  exact heard_refuseAt hp hr 2 why

/-- An accepted survey RECORD is stored, and answered with the record as stored. -/
theorem survey_stored (hp : Passes s h) (hr : s.bus.replies.length < 8) (hn : s.fire.node = .survey)
    (hw : surveyRefusal s r = none) {q : BinRecord}
    (hq : recordOf (storeSurvey s (bodyOf r)) r.bin = some q) :
    ∃ t n, exec (.recordSurvey h r) s = .next t ∧ t.inv = (storeSurvey s (bodyOf r)).inv ∧
      t.bus.replies = s.bus.replies ++ [posted n (replyTo s h (.record q))] := by
  obtain ⟨hbody, href⟩ := recordFrame_heard (r := r) hp hn
  obtain ⟨_, _, hl⟩ := id hp
  obtain ⟨w, e, heq⟩ := heard_eq s h hl
  have hstore : ∃ v, storeSurvey (heard s h) (bodyOf r) = (heard s h).withInv v ∧
      v = (storeSurvey s (bodyOf r)).inv := by
    rw [heq]
    unfold storeSurvey
    dsimp only
    have h1 : ∀ b, recordOf ((clearOut s).withBus { s.bus with
        nbWest := w, nbEast := e, counters := oneReceived s.bus.counters }) b = recordOf s b := fun _ => rfl
    have h2 : ∀ b, findBin ((clearOut s).withBus { s.bus with
        nbWest := w, nbEast := e, counters := oneReceived s.bus.counters }) b = findBin s b := fun _ => rfl
    rw [h1, h2]
    split
    · exact ⟨_, rfl, rfl⟩
    · split
      · exact ⟨_, rfl, rfl⟩
      · exact ⟨_, rfl, rfl⟩
  obtain ⟨v, hv, hinv⟩ := hstore
  have hrec : recordOf (storeSurvey (heard s h) (bodyOf r)) r.bin = some q := by
    rw [recordOf_of_records (s := storeSurvey s (bodyOf r)) (by rw [hv, ← hinv]; rfl)]
    exact hq
  have hact := quiet_acts hp (body := recordFrame h r)
    (v := storeSurvey (heard s h) (bodyOf r)) (f := replyTo s h (.record q))
    (by
      rw [hbody, takeSurvey, href, hw]
      dsimp only
      rw [heard_respond hp hr, hrec, hv, heq]
      rfl)
    (by rw [hv]; exact heard_replies hp) (by rw [hv]; exact heard_posts hp)
  obtain ⟨t, n, hex, hti, hrep⟩ := hact
  exact ⟨t, n, hex, by rw [hti, hv, ← hinv]; rfl, hrep⟩


/-- A stored survey RECORD reads back, marked, under its residence; no other record changes. -/
theorem survey_reads (hp : Passes s h) (hr : s.bus.replies.length < 8) (hn : s.fire.node = .survey)
    (hw : surveyRefusal s r = none) {p : Residence}
    (hst : (storeSurvey s (bodyOf r)).inv.records =
      insert { body := clashMark s (bodyOf r), residence := p } s.inv.records) :
    ∃ t n, exec (.recordSurvey h r) s = .next t ∧
      recordOf t r.bin = some { body := clashMark s (bodyOf r), residence := p } ∧
      (∀ b, b ≠ r.bin → recordOf t b = recordOf s b) ∧
      t.inv.away = (storeSurvey s (bodyOf r)).inv.away ∧
      t.bus.replies = s.bus.replies ++
        [posted n (replyTo s h (.record { body := clashMark s (bodyOf r), residence := p }))] := by
  have hrec : ∀ t : State, t.inv = (storeSurvey s (bodyOf r)).inv → ∀ b,
      recordOf t b = recordOf (putRecord s { body := clashMark s (bodyOf r), residence := p }) b :=
    fun t ht => recordOf_of_records (by rw [ht, hst]; rfl)
  have hself := recordOf_putRecord_self s { body := clashMark s (bodyOf r), residence := p }
  obtain ⟨t, n, hex, hinv, hrep⟩ :=
    survey_stored hp hr hn hw ((hrec (storeSurvey s (bodyOf r)) rfl r.bin).trans hself)
  refine ⟨t, n, hex, (hrec t hinv r.bin).trans hself, fun b hb => (hrec t hinv b).trans ?_,
    by rw [hinv], hrep⟩
  exact recordOf_putRecord_other s { body := clashMark s (bodyOf r), residence := p } hb

end Survey

/-- Settles O30: `clashSlots_get` for the marking; a refusal only answers, and a stored RECORD reads back as
`storeSurvey` puts it. -/
theorem surveyRecordStored : Obligations.SurveyRecordStored := by
  refine ⟨fun s r => ⟨rfl, rfl, rfl, clashSlots_length _ _ _, clashMark_get s r⟩, fun s h r hp hr hn => ?_⟩
  refine ⟨fun hbad => survey_refused hp hr hn ?_, fun hgood hmove => survey_refused hp hr hn ?_,
    fun hgood hover hnone hfind hfull => survey_refused hp hr hn ?_,
    fun hgood hover p hres hplace => ?_, fun hgood hover hnone c i hfind => ?_,
    fun hgood hover hnone hfind hroom => ?_⟩
  · simp [surveyRefusal, hbad]
  · rcases hmove with hover | ⟨p, hres, haway, hcol⟩
    · simp [surveyRefusal, hgood, hover]
    · rw [surveyRefusal, if_neg (by simp [hgood])]
      split
      · rfl
      · rw [hres]
        cases p with
        | resident c i => exact absurd rfl (hcol c i)
        | away => exact absurd rfl haway
        | inHand => rfl
        | inSlot sd => rfl
        | atChute d => rfl
        | arriving => rfl
        | handing w => rfl
  · have hres : residenceOf s r.bin = none := by simp [residenceOf, hnone]
    simp [surveyRefusal, hgood, hover, hres, hfind, Nat.not_lt.mpr hfull]
  · have hw : surveyRefusal s r = none := by
      rcases hplace with rfl | ⟨c, i, rfl⟩
      · simp [surveyRefusal, hgood, hover, hres]
      · simp [surveyRefusal, hgood, hover, hres]
    obtain ⟨old, hold, hp'⟩ := Option.map_eq_some_iff.mp hres
    have hst : storeSurvey s (bodyOf r) =
        putRecord s { body := clashMark s (bodyOf r), residence := p } := by
      have hold' : recordOf s (bodyOf r).bin = some old := hold
      rw [storeSurvey, hold', ← hp']
    obtain ⟨t, n, hex, hself, hother, haway, hrep⟩ := survey_reads hp hr hn hw (by rw [hst]; rfl)
    exact ⟨t, n, hex, hself, hother, by rw [haway, hst]; rfl, hrep⟩
  · have hw : surveyRefusal s r = none := by simp [surveyRefusal, residenceOf, hgood, hover, hnone, hfind]
    have hst : storeSurvey s (bodyOf r) =
        putRecord s { body := clashMark s (bodyOf r), residence := .resident c i } := by
      have hnone' : recordOf s (bodyOf r).bin = none := hnone
      have hfind' : findBin s (bodyOf r).bin = some (c, i) := hfind
      rw [storeSurvey, hnone', hfind']
    obtain ⟨t, n, hex, hself, hother, haway, hrep⟩ := survey_reads hp hr hn hw (by rw [hst]; rfl)
    exact ⟨t, n, hex, hself, hother, by rw [haway, hst]; rfl, hrep⟩
  · have hw : surveyRefusal s r = none := by
      simp [surveyRefusal, residenceOf, hgood, hover, hnone, hroom]
    have hst : storeSurvey s (bodyOf r) =
        joinAway (putRecord s { body := clashMark s (bodyOf r), residence := .away }) r.bin := by
      have hnone' : recordOf s (bodyOf r).bin = none := hnone
      have hfind' : findBin s (bodyOf r).bin = none := hfind
      rw [storeSurvey, hnone', hfind']
      rfl
    obtain ⟨t, n, hex, hself, _, haway, hrep⟩ := survey_reads hp hr hn hw (by rw [hst]; rfl)
    exact ⟨t, n, hex, hself, by rw [haway, hst]; rfl, hrep⟩

end Sys2Proof.Machine
end

section
/-! PROOFS. ADOPTED removes a record (O48). -/

namespace Sys2Proof.Machine

open Sys2Proof

-- In turn, so that the proofs do not hold more threads at once than the memory limit has stacks for.
set_option Elab.async false

/-! ### Hearing a station, whether or not it lifts an overlay -/

/-- The scope of what hearing a station may set off: no context ends in it. -/
def Scope.listening : Scope := { who := fun _ => True, ends := False, steps := True, guards := True }

theorem hear_within (s : State) (st : Station) :
    hear s st = s ∨ ∃ sd, Within Scope.listening (modNbr s sd heardEntry) (hear s st) := by
  unfold hear
  split
  · exact .inl rfl
  · rename_i sd _
    exact .inr ⟨sd, Within.after_changeOverlay (f := fun t => modNbr t sd heardEntry)
      (Within.refl Scope.listening _) sd (.inr ⟨fun _ => trivial, trivial⟩)⟩

/-- Hearing a station changes no picture, no stow entry and nothing of the fire controller. -/
theorem hear_keeps (s : State) (st : Station) :
    (hear s st).inv = s.inv ∧ (hear s st).stow = s.stow ∧ (hear s st).fire = s.fire := by
  rcases hear_within s st with h | ⟨sd, w⟩
  · rw [h]
    exact ⟨rfl, rfl, rfl⟩
  · have h1 := w.inv (fun hf => hf.elim)
    have h2 := stow_of_lasting w.lasts
    have h3 := w.fire
    cases sd <;> exact ⟨h1, h2, h3⟩

theorem heard_keeps (s : State) (h : Header) :
    (heard s h).inv = s.inv ∧ (heard s h).stow = s.stow ∧ (heard s h).fire = s.fire :=
  hear_keeps (clearOut s) h.src

theorem takeFrame_taken {s : State} {h : Header} (ha : accepts s h = true) (hp : posts s = true)
    (always : Bool) (body : State → State) :
    takeFrame h always body (clearOut s) = body (heard s h) := by
  have ha' : accepts (clearOut s) h = true := ha
  have hp' : posts (clearOut s) = true := hp
  simp only [takeFrame, ha', hp', true_or, if_true, heard]

/-! ### O48 -/

section Adopted

variable (s : State) (src : Station) (b : BinId)

theorem dropHandover_keeps : (dropHandover s b).inv = s.inv ∧ (dropHandover s b).fire = s.fire ∧
    (dropHandover s b).stow =
      { s.stow with handovers := s.stow.handovers.filter (fun h => h.bin ≠ b) } := by
  unfold dropHandover
  split
  · exact ⟨rfl, rfl, rfl⟩
  · unfold withdrawTx
    split
    · exact ⟨rfl, rfl, rfl⟩
    · split
      · exact ⟨rfl, rfl, rfl⟩
      · exact ⟨rfl, rfl, rfl⟩

/-- What an ADOPTED of the recorded winner removes; the overflow record may move up behind it (R19). -/
theorem takeAdopted_removes (h : adoptedRemoves s src b = true) :
    (takeAdopted s src b).inv.records = erase b s.inv.records ∧
    awayLine (takeAdopted s src b) = s.inv.away.filter (fun e => e.bin ≠ b) ++
      (s.inv.overflow.map (fun k => { bin := k, winner := none })).toList ∧
    (takeAdopted s src b).fire = s.fire ∧
    (takeAdopted s src b).stow = { s.stow with
      handovers := s.stow.handovers.filter (fun k => k.bin ≠ b)
      offers := s.stow.offers.filter (fun k => !(k.bin = b ∧ k.winner.isNone)) } := by
  rw [takeAdopted, if_pos h]
  obtain ⟨hi, hf, hs⟩ := dropHandover_keeps (leaveAway (dropRecord s b) b) b
  let t := dropOffers (dropHandover (leaveAway (dropRecord s b) b) b)
    (fun e => e.bin = b ∧ e.winner.isNone)
  have w : Within Scope.any t (awayFreed t) := (Within.refl _ t).after_awayFreed trivial
  refine ⟨?_, ?_, w.fire.trans hf, (stow_of_lasting w.lasts).trans ?_⟩
  · exact (records_of_lasting w.lasts).trans (congrArg Image.records hi)
  · exact (awayLine_of_lasting w.lasts).trans (congrArg (fun i : Image =>
      i.away ++ (i.overflow.map (fun k => ({ bin := k, winner := none } : AwayEntry))).toList) hi)
  · have ht : t.stow = { (dropHandover (leaveAway (dropRecord s b) b) b).stow with
        offers := (dropHandover (leaveAway (dropRecord s b) b) b).stow.offers.filter
          (fun e => !decide (e.bin = b ∧ e.winner.isNone = true)) } := rfl
    rw [ht, hs]
    rfl

theorem takeAdopted_other (h : ∀ e, awayEntry s b = some e → e.winner ≠ some src) :
    takeAdopted s src b = s := by
  have hn : adoptedRemoves s src b = false := by
    unfold adoptedRemoves
    cases ha : awayEntry s b with
    | none => rfl
    | some e => simp [h e ha]
  rw [takeAdopted, hn, if_neg Bool.false_ne_true]

end Adopted

/-- Settles O48: `takeAdopted_removes` on the state that has heard the sender, and the event's end keeps it. -/
theorem adoptedRemovesTheRecord : Obligations.AdoptedRemovesTheRecord := by
  have hend : ∀ (s : State) (h : Header) (b : BinId), accepts s h = true → posts s = true →
      (takeAdopted (heard s h) h.src b).fire.node ≠ .resuming → ∃ t, exec (.adopted h b) s = .next t ∧
        lasting t = lasting (takeAdopted (heard s h) h.src b) := by
    intro s h b ha hp hn
    have hbody := takeFrame_taken ha hp false (fun t => takeAdopted t h.src b)
    refine ⟨_, rfl, ?_⟩
    rw [← hbody] at hn
    rw [receive, lasting_fullEvent _ _ hn, hbody]
  refine ⟨fun s h b e r ha hp hn he hw hr hres => ?_, fun s h b ha hp hn hother => ?_⟩
  · obtain ⟨hinv, hstow, hfire⟩ := heard_keeps s h
    have hrem : adoptedRemoves (heard s h) h.src b = true := by
      have hentry : awayEntry (heard s h) b = some e := by rw [awayEntry, hinv]; exact he
      have hplace : residenceOf (heard s h) b = some r.residence := by
        rw [residenceOf_of_records (s := s) (by rw [hinv]), residenceOf, hr]
        rfl
      unfold adoptedRemoves
      rw [hentry, hplace]
      rcases hres with hres | ⟨w, hres⟩
      · simp [hw, hres]
      · simp [hw, hres]
    obtain ⟨tr, tl, tf, ts⟩ := takeAdopted_removes (heard s h) h.src b hrem
    obtain ⟨t, hex, hl⟩ := hend s h b ha hp (by rw [tf, hfire]; exact hn)
    have hrec : t.inv.records = erase b s.inv.records := by rw [records_of_lasting hl, tr, hinv]
    have hst : t.stow = { s.stow with
        handovers := s.stow.handovers.filter (fun k => k.bin ≠ b)
        offers := s.stow.offers.filter (fun k => !(k.bin = b ∧ k.winner.isNone)) } := by
      rw [stow_of_lasting hl, ts, hstow]
    refine ⟨t, hex, ?_, fun k hk => ?_, ?_, fun k hk => ?_, hst⟩
    · rw [recordOf, hrec]
      exact lookup_erase_self b _
    · rw [recordOf, hrec]
      exact lookup_erase_other b k _ hk
    · rw [awayLine_of_lasting hl, tl, hinv]
    · rw [hst] at hk
      simpa using (List.mem_filter.mp hk).2
  · obtain ⟨hinv, hstow, hfire⟩ := heard_keeps s h
    have hid : takeAdopted (heard s h) h.src b = heard s h :=
      takeAdopted_other _ _ _ (fun e he => hother e (by rw [awayEntry, ← hinv]; exact he))
    obtain ⟨t, hex, hl⟩ := hend s h b ha hp (by rw [hid, hfire]; exact hn)
    rw [hid] at hl
    refine ⟨t, hex, by rw [records_of_lasting hl, hinv], ?_, by rw [stow_of_lasting hl, hstow]⟩
    rw [awayLine_of_lasting hl, awayLine, hinv]
    rfl

end Sys2Proof.Machine
end

section
/-! PROOFS. Events whose end only wakes contexts, the end of a context, and the stow agent's windows (O49). -/

namespace Sys2Proof.Machine

open Sys2Proof

-- In turn, so that the proofs do not hold more threads at once than the memory limit has stacks for.
set_option Elab.async false

/-! ### The end of an event, block by block -/

theorem reportChange_keeps (was u : State) :
    ∃ b, reportChange was u = u.withBus b ∧ b.replies = u.bus.replies := by
  unfold reportChange postState postStateFrame
  split
  · exact ⟨u.bus, rfl, rfl⟩
  · split
    · exact ⟨_, rfl, rfl⟩
    · exact ⟨u.bus, rfl, rfl⟩

/-- What `endEvent` leaves of the blocks: the scheduler forgets the ended step, and with no transfer held the
motion port stays. -/
structure EndedAs (u t : State) : Prop where
  inv : t.inv = u.inv
  sched : t.sched = { u.sched with stepEnded := none }
  slots : t.slots = u.slots
  fire : t.fire = u.fire
  motion : u.motion.held = none → t.motion = u.motion

theorem endEvent_blocks (was u : State) : EndedAs u (endEvent was u) := by
  obtain ⟨b, hb, _⟩ := reportChange_keeps was u
  rw [endEvent, hb]
  unfold commit
  dsimp only
  split
  · obtain ⟨m, hm, hq⟩ := releaseHeld_eq
      ((u.withBus b).withSched { (u.withBus b).sched with stepEnded := none })
    rw [hm]
    exact ⟨rfl, rfl, rfl, rfl, hq⟩
  · exact ⟨rfl, rfl, rfl, rfl, fun _ => rfl⟩

/-! ### Scopes that begin no step -/

/-- Waking STALLED contexts, and nothing more. -/
def Scope.waking : Scope := { who := fun _ => False, ends := False, steps := False, guards := False }

/-- Ending contexts and changing any of them, with no step begun and no zone followed. -/
def Scope.ending : Scope := { who := fun _ => True, ends := True, steps := False, guards := False }

/-- Work that begins no step and follows no zone leaves a calm state calm. -/
theorem Within.calm {k : Scope} {s t : State} (w : Within k s t) (hs : ¬ k.steps) (hg : ¬ k.guards)
    (hc : Calm s) : Calm t := by
  obtain ⟨hrun, hgantry, hover, hheld, hviews⟩ := hc
  have hd := w.port.drive hs
  simp only [Motion.drive, Prod.mk.injEq] at hd
  obtain ⟨hga, _, hhe, _⟩ := hd
  refine ⟨by rw [w.fire]; exact hrun, by rw [hga]; exact hgantry,
    by rw [w.inv (fun _ => hover)]; exact hover, by rw [hhe]; exact hheld, fun sd hsd => ?_⟩
  obtain ⟨hf, hr⟩ := hviews sd hsd
  refine ⟨((w.views sd).fireClosed hg).trans hf, ?_⟩
  cases hv : (view t sd).resendOwed with
  | false => rfl
  | true => exact absurd ((w.views sd).resend hv) (by simp [hr])

/-- The part of a context that waking it leaves. -/
def Ctx.job (c : Ctx) : Ctx := { c with state := .free, wait := none, stamp := 0 }

theorem job_toTail (s : State) (n m : Nat) : (ctxOf (toTail s n) m).job = (ctxOf s m).job := by
  have h := ctxOf_setCtx s n m { ctxOf s n with state := .ready, wait := none, stamp := s.sched.nextStamp }
  have h' : ctxOf (toTail s n) m = _ := h
  rw [h']
  split
  · rename_i hm
    rw [hm.1]
    rfl
  · rfl

theorem job_flushWoken (s : State) (m : Nat) : (ctxOf (flushWoken s) m).job = (ctxOf s m).job := by
  have hfold : ∀ (l : List Nat) (t : State), (ctxOf (l.foldl toTail t) m).job = (ctxOf t m).job := by
    intro l
    induction l with
    | nil => exact fun _ => rfl
    | cons a as ih => exact fun t => (ih (toTail t a)).trans (job_toTail t a m)
  exact hfold _ _

/-- What a full event leaves whose body leaves the node calm. -/
structure CalmEnd (v t : State) : Prop where
  inv : t.inv = v.inv
  motion : t.motion = v.motion
  slots : t.slots = v.slots
  fire : t.fire = v.fire
  doneQ : t.sched.doneQ = v.sched.doneQ
  ctx : ∀ m, (ctxOf v m).state ≠ .stalled → ctxOf t m = ctxOf v m
  job : ∀ m, (ctxOf t m).job = (ctxOf v m).job
  replies : t.bus.replies = v.bus.replies

theorem fullEvent_calmEnd {body : State → State} {s : State} (hc : Calm (body (clearOut s))) :
    CalmEnd (body (clearOut s)) (fullEvent body s) := by
  have w : Within Scope.waking (body (clearOut s)) (flushWoken (body (clearOut s))) :=
    (Within.refl _ _).after_flushWoken
  have e := endEvent_blocks (clearOut s) (flushWoken (body (clearOut s)))
  rw [fullEvent, settle_calm _ hc]
  have hctx : ∀ m, ctxOf (endEvent (clearOut s) (flushWoken (body (clearOut s)))) m =
      ctxOf (flushWoken (body (clearOut s))) m := fun m => by rw [ctxOf, e.sched]; rfl
  refine ⟨e.inv.trans (w.inv (fun hf => hf.elim)), ?_, e.slots.trans (flushWoken_slots _),
    e.fire.trans w.fire, ?_, fun m hm => ?_, fun m => ?_, ?_⟩
  · rw [e.motion (by rw [flushWoken_motion]; exact hc.2.2.2.1), flushWoken_motion]
  · rw [e.sched]
    exact w.sched.notDone (fun hf => hf)
  · rw [hctx]
    exact w.sched.others m (fun hf => hf) hm (fun hf => hf.elim)
  · rw [hctx]
    exact job_flushWoken _ m
  · exact replies_of_lasting ((lasting_endEvent _ _).trans (lasting_flushWoken _))

/-! ### The end of a context (R53) -/

theorem doneQ_loadOwed (s : State) : (loadOwed s).sched.doneQ = s.sched.doneQ := by
  unfold loadOwed
  split
  · rfl
  · split
    · rfl
    · rfl

theorem withdrawTx_sched (s : State) (q : Nat) : (withdrawTx s q).sched = s.sched := by
  unfold withdrawTx
  split
  · rfl
  · split
    · rfl
    · rfl

theorem doneQ_withdrawNotice (s : State) (n : Nat) : (withdrawNotice s n).sched.doneQ = s.sched.doneQ := by
  have hfold : ∀ (l : List Notice) (t : State),
      (l.foldl (fun t m => withdrawTx t m.pf.seq) t).sched = t.sched := by
    intro l
    induction l with
    | nil => exact fun _ => rfl
    | cons a as ih => exact fun t => (ih _).trans (withdrawTx_sched t a.pf.seq)
  unfold withdrawNotice noticeLeaves
  dsimp only
  split
  · rfl
  · split
    · rw [doneQ_loadOwed, State.withSched_sched, hfold]
    · rw [State.withSched_sched, hfold]

theorem moveOverflow_sched (s : State) : (moveOverflow s).sched = s.sched := by
  unfold moveOverflow
  split
  · rfl
  · split
    · rfl
    · rfl

/-- With room in the completion queue a context that ends becomes FREE, and its record joins the queue. -/
theorem endCtx_reported {s : State} {n : Nat} (o : JobOutcome) (d : Nat)
    (hn : n < s.sched.ctxs.length) (hlive : (ctxOf s n).state ≠ .free ∧ (ctxOf s n).state ≠ .ending)
    (hroom : s.sched.doneQ.length < 8) :
    ctxOf (endCtx s n o d) n = Ctx.blank ∧ ∃ e, (endCtx s n o d).sched.doneQ = s.sched.doneQ ++ [e] ∧
      e.body = doneBody n (ctxOf s n) o d := by
  let s0 := withdrawNotice (forgetStep (leaveList s n) n) n
  have w0 : Within Scope.any s s0 := (((Within.refl _ s).after_leaveList n).after_forgetStep n).after_withdrawNotice
    trivial n
  have hq0 : s0.sched.doneQ = s.sched.doneQ := by
    rw [doneQ_withdrawNotice]
    unfold forgetStep
    dsimp only
    split
    · rfl
    · rfl
  let s1 := reportEnd s0 n (doneBody n (ctxOf s n) o d)
  have h1 : s1 = pushDone (setCtx s0 n Ctx.blank) (doneBody n (ctxOf s n) o d) := by
    have : s0.sched.doneQ.length < 8 := by rw [hq0]; exact hroom
    simp only [s1, reportEnd, if_pos this]
  have hq1 : ∃ e, s1.sched.doneQ = s.sched.doneQ ++ [e] ∧ e.body = doneBody n (ctxOf s n) o d := by
    rw [h1]
    exact ⟨_, congrArg (· ++ [_]) hq0, rfl⟩
  have hc1 : ctxOf s1 n = Ctx.blank := by
    have hset := ctxOf_setCtx s0 n n Ctx.blank
    rw [if_pos ⟨rfl, by rw [w0.sched.ctxs]; exact hn⟩] at hset
    rw [h1]
    exact hset
  have hs2 := moveOverflow_sched s1
  unfold endCtx
  dsimp only
  rw [if_neg (by simp [hlive])]
  have w : Within Scope.waking (moveOverflow s1) (sides.foldl (leaveView n) (sides.foldl (leaveRace n)
      (wakeWhere (moveOverflow s1) (fun _ w =>
        ((ctxOf s n).lock.isSome ∧ (w = .noRoom ∨ some w = (ctxOf s n).lock.map .columnLock)) ∨
          ((ctxOf s n).reserved ∧ canReserve (moveOverflow s1) ∧ w = .awayFull))))) :=
    (((Within.refl _ _).after_wakeWhere _).foldl _ _ (fun _ sd _ hu => hu.after_leaveRace n sd)).foldl _ _
      (fun _ sd _ hu => hu.after_leaveView n sd)
  have hc2 : ctxOf (moveOverflow s1) n = Ctx.blank := by rw [ctxOf, hs2]; exact hc1
  have hfree : (ctxOf (moveOverflow s1) n).state ≠ .stalled := by rw [hc2]; decide
  obtain ⟨e, he, hbody⟩ := hq1
  refine ⟨(w.sched.others n (fun hf => hf) hfree (fun hf => hf.elim)).trans hc2, e, ?_, hbody⟩
  exact (w.sched.notDone (fun hf => hf)).trans ((congrArg Sched.doneQ hs2).trans he)

/-! ### O49 -/

theorem recordOf_setResidence (s : State) (b c : BinId) (p : Residence) :
    recordOf (setResidence s b p) c =
      if c = b then (recordOf s c).map (fun r => { r with residence := p }) else recordOf s c :=
  recordOf_modRecord s b c _ (fun _ => rfl)

/-- A HANDING record becomes AWAY where it stands (R15, R90). -/
def lapsed (r : BinRecord) : BinRecord :=
  match r.residence with
  | .handing _ => { r with residence := .away }
  | _ => r

theorem lapsed_bin (r : BinRecord) : (lapsed r).body.bin = r.body.bin := by
  unfold lapsed
  split <;> rfl

theorem withdrawBid_frees {s : State} {n : Nat} (hn : n < s.sched.ctxs.length) :
    ctxOf (withdrawBid s n) n = Ctx.blank ∧ (withdrawBid s n).sched.doneQ = s.sched.doneQ := by
  have h1 : ∃ s1 : State, withdrawBid s n = awayFreed (setCtx s1 n Ctx.blank) ∧ s1.sched = s.sched := by
    unfold withdrawBid
    dsimp only
    split
    · exact ⟨s, rfl, rfl⟩
    · exact ⟨_, rfl, withdrawTx_sched s _⟩
  obtain ⟨s1, hw, hs⟩ := h1
  have hset : ctxOf (setCtx s1 n Ctx.blank) n = Ctx.blank := by
    rw [ctxOf_setCtx, if_pos ⟨rfl, by rw [hs]; exact hn⟩]
  have hmove := moveOverflow_sched (setCtx s1 n Ctx.blank)
  have hq : (setCtx s1 n Ctx.blank).sched.doneQ = s.sched.doneQ := by
    change s1.sched.doneQ = _
    rw [hs]
  rw [hw]
  unfold awayFreed
  split
  · exact ⟨(congrArg (fun c : Sched => c.ctxs.getD n Ctx.blank) hmove).trans hset,
      (congrArg Sched.doneQ hmove).trans hq⟩
  · exact ⟨(congrArg (fun c : Sched => c.ctxs.getD n Ctx.blank) hmove).trans hset,
      (congrArg Sched.doneQ hmove).trans hq⟩

theorem bidExpiry_frees {s : State} {n : Nat} (hc : Calm s) (hn : n < s.sched.ctxs.length)
    (hb : (ctxOf s n).state = .bidding) (ht : (ctxOf s n).bidTimer.isSome) :
    ∃ t, exec (.bidTimerExpiry n) s = .next t ∧ ctxOf t n = Ctx.blank ∧
      t.sched.doneQ = s.sched.doneQ ∧ t.inv = s.inv := by
  have hbody : bidExpiry n (clearOut s) = withdrawBid (clearOut s) n := if_pos ⟨hb, ht⟩
  have w : Within Scope.ending (clearOut s) (withdrawBid (clearOut s) n) :=
    (Within.refl _ _).after_withdrawBid trivial trivial
  have hcalm : Calm (withdrawBid (clearOut s) n) := w.calm id id ((calm_clearOut s).mpr hc)
  obtain ⟨hfree, hq⟩ := withdrawBid_frees (s := clearOut s) hn
  have e := fullEvent_calmEnd (body := bidExpiry n) (s := s) (by rw [hbody]; exact hcalm)
  rw [hbody] at e
  refine ⟨_, rfl, ?_, e.doneQ.trans hq, e.inv.trans (w.inv (fun _ => hc.2.2.1))⟩
  rw [e.ctx n (by rw [hfree]; decide), hfree]

theorem closeExpiry_drops (s : State) (tag : Tag) :
    ∃ t, exec (.closeTimerExpiry tag) s = .next t ∧
      t.stow = { s.stow with
        offers := s.stow.offers.filter (fun e => !(e.tag = tag ∧ e.closeTimer.isSome)) } ∧
      Untouched [.stow, .motion, .sched] s t ∧ PortsQuiet s t := by
  obtain ⟨m, hm, hq⟩ := endEvent_plain (was := clearOut s) (u := closeExpiry tag (clearOut s)) rfl rfl
  refine ⟨_, rfl, ?_⟩
  rw [quietEvent, hm]
  refine ⟨rfl, fun b hb => ?_, fun hh => ⟨hq hh, rfl⟩⟩
  cases b <;> simp_all <;> rfl

theorem handoverExpiry_away {s : State} {b : BinId} {w : Station} {r : BinRecord}
    (hk : ∃ k ∈ s.stow.handovers, k.bin = b) (hr : recordOf s b = some r)
    (hw : r.residence = .handing w) :
    ∃ t, exec (.handoverTimerExpiry b) s = .next t ∧
      t.stow.handovers = s.stow.handovers.filter (fun k => k.bin ≠ b) ∧
      recordOf t b = some { r with residence := .away } ∧
      (∀ k, k ≠ b → recordOf t k = recordOf s k) ∧ t.inv.away = s.inv.away := by
  obtain ⟨hdi, _, hds⟩ := dropHandover_keeps (clearOut s) b
  have hbody : handoverExpiry b (clearOut s) = modRecord (dropHandover (clearOut s) b) b lapsed :=
    by
    rw [handoverExpiry, if_pos (by simpa using (show ∃ x ∈ (clearOut s).stow.handovers, x.bin = b from hk))]
    rfl
  have hinv := endEvent_inv (clearOut s) (handoverExpiry b (clearOut s))
  have hstow := stow_of_lasting (lasting_endEvent (clearOut s) (handoverExpiry b (clearOut s)))
  have hrec : ∀ k, recordOf (quietEvent (handoverExpiry b) s) k =
      if k = b then (recordOf s k).map lapsed else recordOf s k := by
    intro k
    rw [recordOf_of_records (s := modRecord (dropHandover (clearOut s) b) b lapsed)
      (by rw [quietEvent, hinv, hbody]), recordOf_modRecord _ _ _ _ lapsed_bin,
      recordOf_of_records (s := s) (by rw [hdi]; rfl)]
  refine ⟨_, rfl, ?_, ?_, fun k hk' => ?_, ?_⟩
  · rw [quietEvent, hstow, hbody]
    exact congrArg Stow.handovers hds
  · rw [hrec, if_pos rfl, hr]
    simp [lapsed, hw]
  · rw [hrec, if_neg hk']
  · rw [quietEvent, hinv, hbody]
    change (dropHandover (clearOut s) b).inv.away = _
    rw [hdi]
    rfl

theorem arrivalExpiry_ends {s : State} {n : Nat} (hc : Calm s) (hn : n < s.sched.ctxs.length)
    (hst : (ctxOf s n).state = .awaiting)
    (ht : (ctxOf s n).arrivalTimer.isSome) (hroom : s.sched.doneQ.length < 8) :
    ∃ t e, exec (.arrivalTimerExpiry n) s = .next t ∧ ctxOf t n = Ctx.blank ∧
      t.sched.doneQ = s.sched.doneQ ++ [e] ∧ e.body.outcome = .arrivalTimeout ∧ e.body.ctx = n ∧
      e.body.origin = (ctxOf s n).origin ∧ e.body.tag = (ctxOf s n).tag ∧
      (∀ b r, (ctxOf s n).carried = some (.own b) → recordOf s b = some r →
        recordOf t b = some { r with residence := .away }) ∧
      ((ctxOf s n).carried = none → t.inv = s.inv) := by
  let u : State := match (ctxOf s n).carried with
    | some (.own b) => setResidence (clearOut s) b .away
    | _ => clearOut s
  have hbody : arrivalExpiry n (clearOut s) = endCtx u n .arrivalTimeout 0 := if_pos ⟨hst, ht⟩
  have hu : ∃ i, u = (clearOut s).withInv i ∧ i.overflow = s.inv.overflow := by
    dsimp only [u]
    split
    · exact ⟨_, rfl, rfl⟩
    · exact ⟨s.inv, rfl, rfl⟩
  obtain ⟨i, hui, hio⟩ := hu
  have hctx : ctxOf u n = ctxOf s n := by rw [hui]; rfl
  have hcalmU : Calm u := by
    obtain ⟨h1, h2, h3, h4, h5⟩ := hc
    rw [hui]
    exact ⟨h1, h2, hio.trans h3, h4, h5⟩
  have w : Within Scope.ending u (endCtx u n .arrivalTimeout 0) :=
    (Within.refl _ _).after_endCtx trivial trivial _ _
  have hcalm : Calm (endCtx u n .arrivalTimeout 0) := w.calm id id hcalmU
  obtain ⟨hblank, e, hq, he⟩ := endCtx_reported (s := u) (n := n) .arrivalTimeout 0
    (by rw [hui]; exact hn) (by rw [hctx, hst]; decide) (by rw [hui]; exact hroom)
  have ce := fullEvent_calmEnd (body := arrivalExpiry n) (s := s) (by rw [hbody]; exact hcalm)
  rw [hbody] at ce
  have hinv : (fullEvent (arrivalExpiry n) s).inv = u.inv := ce.inv.trans (w.inv (fun _ => hcalmU.2.2.1))
  refine ⟨_, e, rfl, ?_, ?_, by rw [he]; rfl, by rw [he]; rfl, by rw [he, hctx]; rfl, by rw [he, hctx]; rfl,
    fun b r hcar hr => ?_, fun hcar => ?_⟩
  · rw [ce.ctx n (by rw [hblank]; decide), hblank]
  · rw [ce.doneQ, hq, hui]
    rfl
  · have hub : u = setResidence (clearOut s) b .away := by simp only [u, hcar]
    have hr' : recordOf (clearOut s) b = some r := hr
    rw [recordOf_of_records (s := setResidence (clearOut s) b .away) (by rw [hinv, hub]), recordOf_setResidence,
      if_pos rfl, hr']
    rfl
  · have hus : u = clearOut s := by simp only [u, hcar]
    rw [hinv, hus]
    rfl

/-- Settles O49: one lemma for each window. -/
theorem stowWindowsExpire : Obligations.StowWindowsExpire := by
  have hsize : ∀ s : State, TablesSized s → s.sched.ctxs.length = 16 := fun s ⟨_, h, _⟩ => h
  exact ⟨fun s n hc hts hn hb ht => bidExpiry_frees hc (by rw [hsize s hts]; exact hn) hb ht,
    closeExpiry_drops, fun s b w r hk hr hw => handoverExpiry_away hk hr hw,
    fun s n hc hts hn hst _ ht hroom =>
      arrivalExpiry_ends hc (by rw [hsize s hts]; exact hn) hst ht hroom⟩

end Sys2Proof.Machine
end

section
/-! PROOFS. PICKED from a column, the chute and a slot (O34). -/

namespace Sys2Proof.Machine

open Sys2Proof

-- In turn, so that the proofs do not hold more threads at once than the memory limit has stacks for.
set_option Elab.async false

/-! ### The tag check -/

/-- A record after the tag check of its pick (R4). -/
def tagChecked (b : BinId) (tag : Option BinId) (r : BinRecord) : BinRecord :=
  { r with body := { r.body with suspectTag := r.body.suspectTag || decide (tag ≠ some b) } }

theorem ctxOf_modCtx (s : State) (n : Nat) (f : Ctx → Ctx) :
    ctxOf (modCtx s n f) n = if n < s.sched.ctxs.length then f (ctxOf s n) else ctxOf s n := by
  rw [modCtx, ctxOf_setCtx]
  simp only [true_and]

/-- A change of a context's other fields leaves a field of it. -/
theorem modCtx_field {α : Type} (g : Ctx → α) (s : State) (n : Nat) {f : Ctx → Ctx}
    (h : ∀ c, g (f c) = g c) : g (ctxOf (modCtx s n f) n) = g (ctxOf s n) := by
  rw [ctxOf_modCtx]
  split
  · exact h _
  · rfl

theorem modCtx_length (s : State) (n : Nat) (f : Ctx → Ctx) :
    (modCtx s n f).sched.ctxs.length = s.sched.ctxs.length := List.length_set

/-- A context after a tag fault: it keeps the tag read at its first one. -/
def tagFaulted (tag : Option BinId) (c : Ctx) : Ctx :=
  if c.tagFault then c else { c with tagFault := true, binRead := tag }

theorem tagFaulted_keeps (tag : Option BinId) (c : Ctx) : (tagFaulted tag c).tagFault = true ∧
    (tagFaulted tag c).carried = c.carried ∧ (tagFaulted tag c).reserved = c.reserved := by
  unfold tagFaulted
  split
  · exact ⟨by assumption, rfl, rfl⟩
  · exact ⟨rfl, rfl, rfl⟩

theorem checkTag_spec (s : State) (n : Nat) (b : BinId) (tag : Option BinId) :
    ∃ rs c, checkTag s n b tag = (s.withInv { s.inv with records := rs }).withSched c ∧
      (∀ k, lookup k rs = if k = b then (lookup k s.inv.records).map (tagChecked b tag)
        else lookup k s.inv.records) ∧
      c.ctxs.length = s.sched.ctxs.length ∧
      (c.ctxs.getD n Ctx.blank).carried = (ctxOf s n).carried ∧
      (c.ctxs.getD n Ctx.blank).reserved = (ctxOf s n).reserved ∧
      (n < s.sched.ctxs.length → tag ≠ some b → (c.ctxs.getD n Ctx.blank).tagFault = true) := by
  unfold checkTag
  split
  · rename_i ht
    refine ⟨s.inv.records, s.sched, rfl, fun k => ?_, rfl, rfl, rfl, fun _ hne => absurd ht hne⟩
    have hid : tagChecked b tag = id := by
      funext r
      simp [tagChecked, ht]
    simp [hid]
  · rename_i ht
    refine ⟨(markTag s b).inv.records, (modCtx (markTag s b) n (tagFaulted tag)).sched, rfl, fun k => ?_,
      modCtx_length (markTag s b) n _,
      modCtx_field Ctx.carried (markTag s b) n (fun c => (tagFaulted_keeps tag c).2.1),
      modCtx_field Ctx.reserved (markTag s b) n (fun c => (tagFaulted_keeps tag c).2.2), fun hn _ => ?_⟩
    · have hrec := recordOf_modRecord s b k (fun r => { r with body := { r.body with suspectTag := true } })
        (fun _ => rfl)
      have hck : tagChecked b tag = fun r => { r with body := { r.body with suspectTag := true } } := by
        funext r
        simp [tagChecked, ht]
      rw [hck]
      exact hrec
    · have hctx := ctxOf_modCtx (markTag s b) n (tagFaulted tag)
      rw [if_pos (show n < (markTag s b).sched.ctxs.length from hn)] at hctx
      exact (congrArg Ctx.tagFault hctx).trans (tagFaulted_keeps tag _).1

/-! ### The pick by source -/

/-- The state in which a pick takes effect: LOADED, the transfer going on. -/
def picking (s : State) (x : Xfer) : State :=
  s.withMotion { s.motion with gantry := .loaded, xfer := some { x with abandonSent := false } }

theorem pickReport_eq {s : State} {x : Xfer} {n : Nat} {b : BinId} (tag : Option BinId)
    (hg : s.motion.gantry = .movingEmpty) (hx : s.motion.xfer = some x) (ho : x.owner = some n)
    (hs : x.setDown = false) (hb : pickedBin s n x.src = some b) :
    pickReport s tag = modCtx (pickAt (picking s x) n x.src b tag) n
      (fun c => { c with step := c.step.map (fun k => { k with bin := some b }) }) := by
  have hend : ownerEnded s x n = false := by simp [ownerEnded, hs]
  unfold pickReport
  rw [hg, hx]
  dsimp only
  split
  · rename_i hnone
    rw [ho] at hnone
    cases hnone
  · rename_i m hm
    obtain rfl : n = m := Option.some.inj (ho.symm.trans hm)
    rw [hend, if_neg Bool.false_ne_true, hb]
    dsimp only
    rw [if_neg (by simp [hs])]
    rfl

/-- A context whose current target has been picked (R64, R72). -/
def targetPicked (k : Ctx) : Ctx :=
  let k1 := setCurrent k .picked
  if k.restore then { k1 with restoring := true } else { k1 with lock := none, reloc := [] }

theorem targetPicked_tagFault (k : Ctx) : (targetPicked k).tagFault = k.tagFault := by
  unfold targetPicked
  dsimp only
  split <;> rfl

/-- A pick from a column: the pop, the record in hand, the tag check, and changes of the scheduler. -/
theorem pickColumn_spec (s : State) (n c : Nat) (bs : List BinId) (b : BinId) (tag : Option BinId)
    (hb : (column s c).bins = bs ++ [b]) :
    ∃ rs d, pickColumn s n c b tag = (s.withInv { s.inv with
        columns := s.inv.columns.set c { column s c with bins := bs }, records := rs }).withSched d ∧
      (∀ k, lookup k rs = if k = b
        then (lookup k s.inv.records).map (fun r => tagChecked b tag { r with residence := .inHand })
        else lookup k s.inv.records) ∧
      (n < s.sched.ctxs.length → tag ≠ some b → (d.ctxs.getD n Ctx.blank).tagFault = true) := by
  have hpop : popColumn s c =
      setResidence (setColumn s c { column s c with bins := bs }) b .inHand := by
    rw [popColumn, hb, List.getLast?_concat, List.dropLast_concat]
  obtain ⟨rs, d, heq, hrs, _, _, _, htag⟩ := checkTag_spec (popColumn s c) n b tag
  have hpick : ∃ e, pickColumn s n c b tag =
        ((popColumn s c).withInv { (popColumn s c).inv with records := rs }).withSched e ∧
      (e.ctxs.getD n Ctx.blank).tagFault = (d.ctxs.getD n Ctx.blank).tagFault := by
    unfold pickColumn
    dsimp only
    rw [heq]
    split
    · exact ⟨_, rfl, modCtx_field (f := targetPicked) Ctx.tagFault
        (((popColumn s c).withInv { (popColumn s c).inv with records := rs }).withSched d) n
        targetPicked_tagFault⟩
    · exact ⟨_, rfl, rfl⟩
  obtain ⟨e, he, hfault⟩ := hpick
  refine ⟨rs, e, ?_, fun k => ?_, fun hn ht => ?_⟩
  · rw [he, hpop]
    rfl
  · have hset := recordOf_setResidence (setColumn s c { column s c with bins := bs }) b k .inHand
    rw [← hpop] at hset
    have hset' : lookup k (popColumn s c).inv.records = _ := hset
    rw [hrs k, hset']
    by_cases hk : k = b
    · rw [if_pos hk, if_pos hk, if_pos hk, Option.map_map]
      rfl
    · rw [if_neg hk, if_neg hk, if_neg hk]
      rfl
  · rw [hfault]
    refine htag ?_ ht
    rw [hpop]
    exact hn

/-- A pick from the chute: the record in hand, its away entry a reservation, the tag check, and an INBOUND
chute EMPTY. -/
theorem pickChute_spec (s : State) (n : Nat) (b : BinId) (tag : Option BinId) :
    ∃ rs d m, pickChute s n b tag = ((s.withInv { s.inv with
        away := s.inv.away.filter (fun e => e.bin ≠ b), records := rs }).withSched d).withMotion m ∧
      (∀ k, lookup k rs = if k = b
        then (lookup k s.inv.records).map (fun r => tagChecked b tag { r with residence := .inHand })
        else lookup k s.inv.records) ∧
      (n < s.sched.ctxs.length → (d.ctxs.getD n Ctx.blank).reserved = true ∧
        (tag ≠ some b → (d.ctxs.getD n Ctx.blank).tagFault = true)) ∧
      m = if s.motion.chute = .inbound then { s.motion with chute := .empty, reason := .none }
        else s.motion := by
  let t0 := modCtx (leaveAway (setResidence s b .inHand) b) n (fun c => { c with reserved := true })
  obtain ⟨rs, d, heq, hrs, _, _, hres, htag⟩ := checkTag_spec t0 n b tag
  have hlen : t0.sched.ctxs.length = s.sched.ctxs.length := modCtx_length _ _ _
  have hpick : ∃ e m, pickChute s n b tag =
        ((t0.withInv { t0.inv with records := rs }).withSched e).withMotion m ∧ e.ctxs = d.ctxs ∧
      m = if s.motion.chute = .inbound then { s.motion with chute := .empty, reason := .none }
        else s.motion := by
    unfold pickChute
    dsimp only
    rw [heq]
    have hmot : (((t0.withInv { t0.inv with records := rs }).withSched d).motion) = s.motion := rfl
    rw [hmot]
    split
    · rename_i hin
      unfold chuteEmptied
      dsimp only
      split
      · exact ⟨_, _, rfl, rfl, rfl⟩
      · exact ⟨_, _, rfl, rfl, rfl⟩
    · exact ⟨d, s.motion, rfl, rfl, rfl⟩
  obtain ⟨e, m, he, hctxs, hm⟩ := hpick
  refine ⟨rs, e, m, he, fun k => ?_, fun hn => ?_, hm⟩
  · have hset : lookup k t0.inv.records = _ := recordOf_setResidence s b k .inHand
    rw [hrs k, hset]
    by_cases hk : k = b
    · rw [if_pos hk, if_pos hk, if_pos hk, Option.map_map]
      rfl
    · rw [if_neg hk, if_neg hk, if_neg hk]
      rfl
  · rw [hctxs, hres]
    refine ⟨?_, htag (by rw [hlen]; exact hn)⟩
    have hctx : ctxOf t0 n = _ := ctxOf_modCtx _ _ _
    rw [hctx, if_pos (show n < (leaveAway (setResidence s b .inHand) b).sched.ctxs.length from hn)]

/-- A slot view set FREE with its exchange cleared (R99). -/
def freedView (v : SlotView) : SlotView :=
  { v with
    state := .free, tag := 0, ctx := none, bin := none, resendOwed := false,
    loadRefused := false, claimTimer := none, shelfFull := false }

/-- With no claim withdrawn for a race, a view set FREE changes nothing else but what it wakes. -/
theorem freeView_eq {s : State} {sd : Side} (h : (view s sd).raced = none) :
    ∃ d, freeView s sd = (modView s sd freedView).withSched d ∧ d.ctxs = s.sched.ctxs := by
  have hrace : ∀ t : State, t.slots = (modView s sd freedView).slots → settleRace t sd = t := by
    intro t ht
    have hv : (view t sd).raced = none := by
      have : view t sd = view (modView s sd freedView) sd := by
        unfold view
        rw [ht]
      rw [this, modView_view]
      exact h
    rw [settleRace, hv]
  have hsched : (modView s sd freedView).sched = s.sched := by
    rw [modView, setView_sched]
  have hun : freeView s sd = settleRace (if sideClosed (modView s sd freedView) sd
      then modView s sd freedView else wakeOn (modView s sd freedView) .noRoom) sd := rfl
  rw [hun]
  split
  · rw [hrace _ rfl]
    exact ⟨(modView s sd freedView).sched, rfl, congrArg Sched.ctxs hsched⟩
  · rw [hrace (wakeOn (modView s sd freedView) .noRoom) rfl]
    exact ⟨_, rfl, show (modView s sd freedView).sched.ctxs = _ from congrArg Sched.ctxs hsched⟩

/-- The record that a pick from a slot brings into the hand, before its tag check (R109, R112). -/
def SlotPick (s : State) (n : Nat) (b : BinId) (r : BinRecord) : Prop :=
  (∃ q, (ctxOf s n).carried = some (.foreign q) ∧ q.bin = b ∧
      r = { body := clashMark s q, residence := .inHand }) ∨
    (ctxOf s n).carried = some (.own b) ∧
      ∃ q, recordOf s b = some q ∧ r = { q with residence := .inHand }

/-- A pick from a slot: the record in hand, the tag check, the view FREE and SLOT TAKEN posted. -/
theorem pickSlot_spec {s : State} {n : Nat} {sd : Side} {b : BinId} {r : BinRecord} (tag : Option BinId)
    (hr : SlotPick s n b r) (hrace : (view s sd).raced = none) (hpend : (view s sd).pend = none) :
    ∃ rs d, pickSlot s n sd b tag = postSlot
        ((modView (s.withInv { s.inv with records := rs }) sd freedView).withSched d) sd (view s sd).tag
        (.slotTaken b) ∧
      lookup b rs = some (tagChecked b tag r) ∧
      (∀ k, k ≠ b → lookup k rs = lookup k s.inv.records) ∧
      (n < s.sched.ctxs.length → (d.ctxs.getD n Ctx.blank).carried = some (.own b) ∧
        (tag ≠ some b → (d.ctxs.getD n Ctx.blank).tagFault = true)) := by
  have ht0 : ∃ rs d, pickSlot s n sd b tag = postSlotData (freeView
        (checkTag ((s.withInv { s.inv with records := rs }).withSched d) n b tag) sd) sd
        (.taken b (view s sd).tag) ∧ lookup b rs = some r ∧
      (∀ k, k ≠ b → lookup k rs = lookup k s.inv.records) ∧ d.ctxs.length = s.sched.ctxs.length ∧
      (n < s.sched.ctxs.length → (d.ctxs.getD n Ctx.blank).carried = some (.own b)) := by
    unfold pickSlot
    rcases hr with ⟨q, hc, rfl, rfl⟩ | ⟨hc, q, hq, rfl⟩
    · let p := putRecord s { body := clashMark s q, residence := .inHand }
      rw [hc]
      refine ⟨p.inv.records, (modCtx p n (fun c => { c with carried := some (.own q.bin) })).sched, ?_,
        recordOf_putRecord_self s { body := clashMark s q, residence := .inHand },
        fun k hk => recordOf_putRecord_other s { body := clashMark s q, residence := .inHand } hk,
        List.length_set, fun hn => ?_⟩
      · cases sd <;> rfl
      · have hctx := ctxOf_modCtx p n (fun c => { c with carried := some (.own q.bin) })
        rw [if_pos (show n < p.sched.ctxs.length from hn)] at hctx
        exact congrArg Ctx.carried hctx
    · rw [hc]
      refine ⟨(setResidence s b .inHand).inv.records, s.sched, ?_, ?_, fun k hk => ?_, rfl, fun _ => hc⟩
      · cases sd <;> rfl
      · have h := recordOf_setResidence s b b .inHand
        rw [if_pos rfl, hq] at h
        exact h
      · have h := recordOf_setResidence s b k .inHand
        rw [if_neg hk] at h
        exact h
  obtain ⟨rs0, d0, h0, hb0, hk0, hl0, hc0⟩ := ht0
  obtain ⟨rs, d, heq, hrs, hlen, hcar, _, htag⟩ :=
    checkTag_spec ((s.withInv { s.inv with records := rs0 }).withSched d0) n b tag
  have hview : view (((s.withInv { s.inv with records := rs }).withSched d)) sd = view s sd := by
    cases sd <;> rfl
  obtain ⟨e, hfree, hctxs⟩ := freeView_eq (s := (s.withInv { s.inv with records := rs }).withSched d)
    (sd := sd) (by rw [hview]; exact hrace)
  refine ⟨rs, e, ?_, ?_, fun k hk => ?_, fun hn => ?_⟩
  · rw [h0, heq]
    have hpost : ∀ (u : State) (w : SlotWait), (view u sd).pend = none →
        postSlotData u sd w = postWaiting u sd w := fun u w hu => by rw [postSlotData, hu]
    change postSlotData (freeView ((s.withInv { s.inv with records := rs }).withSched d) sd) sd _ = _
    rw [hfree, hpost]
    · cases sd <;> rfl
    · cases sd <;> exact hpend
  · rw [hrs, if_pos rfl]
    exact congrArg (Option.map (tagChecked b tag)) hb0
  · rw [hrs, if_neg hk]
    exact hk0 k hk
  · rw [hctxs]
    exact ⟨hcar.trans (hc0 hn), htag (hl0.symm ▸ hn)⟩

/-! ### The event -/

/-- A PICKED of a calm node: the pick's effects on the event's state, then an end that settles nothing. -/
theorem picked_calm {s : State} {x : Xfer} {n : Nat} {b : BinId} {tag : Option BinId} {u : State}
    (hg : s.motion.gantry = .movingEmpty) (hx : s.motion.xfer = some x) (ho : x.owner = some n)
    (hs : x.setDown = false) (hb : pickedBin s n x.src = some b)
    (hu : pickAt (picking (clearOut s) x) n x.src b tag = u) (hcalm : Calm u) :
    ∃ t, exec (.picked tag) s = .next t ∧ t.inv = u.inv ∧ t.motion = u.motion ∧ t.slots = u.slots ∧
      (ctxOf t n).carried = (ctxOf u n).carried ∧ (ctxOf t n).reserved = (ctxOf u n).reserved ∧
      (ctxOf t n).tagFault = (ctxOf u n).tagFault := by
  let stepBin : Ctx → Ctx := fun c => { c with step := c.step.map (fun k => { k with bin := some b }) }
  have hbody : pickReport (clearOut s) tag = modCtx u n stepBin := by
    rw [← hu]
    exact pickReport_eq tag hg hx ho hs hb
  have e := fullEvent_calmEnd (body := fun t => pickReport t tag) (s := s) (by rw [hbody]; exact hcalm)
  rw [hbody] at e
  have hjob := e.job n
  exact ⟨_, rfl, e.inv, e.motion, e.slots,
    (congrArg Ctx.carried hjob).trans (modCtx_field (f := stepBin) Ctx.carried u n (fun _ => rfl)),
    (congrArg Ctx.reserved hjob).trans (modCtx_field (f := stepBin) Ctx.reserved u n (fun _ => rfl)),
    (congrArg Ctx.tagFault hjob).trans (modCtx_field (f := stepBin) Ctx.tagFault u n (fun _ => rfl))⟩

theorem pickedColumn {s : State} {x : Xfer} {n c : Nat} {bs : List BinId} {b : BinId} {r : BinRecord}
    (tag : Option BinId) (hc : Calm s) (hts : TablesSized s) (hn : n < 16)
    (hg : s.motion.gantry = .movingEmpty) (hx : s.motion.xfer = some x) (ho : x.owner = some n)
    (hsrc : x.src = .column c) (hs : x.setDown = false) (hcol : c < s.inv.columns.length)
    (hb : (column s c).bins = bs ++ [b]) (hr : recordOf s b = some r) :
    ∃ t, exec (.picked tag) s = .next t ∧ t.motion.gantry = .loaded ∧
      column t c = { column s c with bins := bs } ∧ (∀ k, k ≠ c → column t k = column s k) ∧
      recordOf t b = some (tagChecked b tag { r with residence := .inHand }) ∧
      (∀ k, k ≠ b → recordOf t k = recordOf s k) ∧ (tag ≠ some b → (ctxOf t n).tagFault = true) := by
  obtain ⟨hrun, _, hover, hheld, hviews⟩ := hc
  obtain ⟨rs, d, heq, hrs, htag⟩ := pickColumn_spec (picking (clearOut s) x) n c bs b tag hb
  have hpicked : pickedBin s n x.src = some b := by
    rw [hsrc]
    simp only [pickedBin, topBin, hb, List.getLast?_concat]
  obtain ⟨t, ht, hinv, hmot, _, _, _, hfault⟩ := picked_calm (tag := tag) hg hx ho hs hpicked rfl
    (by rw [hsrc, pickAt, heq]; exact ⟨hrun, by simp [picking, State.withMotion], hover, hheld, hviews⟩)
  rw [hsrc, pickAt, heq] at hinv hmot hfault
  have hcols : t.inv.columns = s.inv.columns.set c { column s c with bins := bs } :=
    congrArg Image.columns hinv
  have hrecs : t.inv.records = rs := congrArg Image.records hinv
  refine ⟨t, ht, by rw [hmot]; rfl, ?_, fun k hk => ?_, ?_, fun k hk => ?_, fun hne => ?_⟩
  · simp [column, hcols, List.getD_eq_getElem?_getD, hcol]
  · simp [column, hcols, List.getD_eq_getElem?_getD, List.getElem?_set_ne (Ne.symm hk)]
  · rw [recordOf, hrecs, hrs, if_pos rfl]
    exact congrArg (Option.map _) hr
  · rw [recordOf, hrecs, hrs, if_neg hk]
    rfl
  · rw [hfault]
    exact htag (by rw [show (picking (clearOut s) x).sched.ctxs.length = 16 from hts.2.1]; exact hn) hne

theorem pickedChute {s : State} {x : Xfer} {n : Nat} {r : BinRecord} (tag : Option BinId) (hc : Calm s)
    (hts : TablesSized s) (hn : n < 16) (hg : s.motion.gantry = .movingEmpty)
    (hx : s.motion.xfer = some x) (ho : x.owner = some n) (hsrc : x.src = .chute) (hs : x.setDown = false)
    (hin : chuteRecord s .inward = some r) (hr : recordOf s r.body.bin = some r) :
    ∃ t, exec (.picked tag) s = .next t ∧ t.motion.gantry = .loaded ∧
      recordOf t r.body.bin = some (tagChecked r.body.bin tag { r with residence := .inHand }) ∧
      (∀ k, k ≠ r.body.bin → recordOf t k = recordOf s k) ∧ t.inv.columns = s.inv.columns ∧
      t.inv.away = s.inv.away.filter (fun e => e.bin ≠ r.body.bin) ∧ (ctxOf t n).reserved = true ∧
      t.motion.chute = (if s.motion.chute = .inbound then .empty else s.motion.chute) ∧
      (tag ≠ some r.body.bin → (ctxOf t n).tagFault = true) := by
  obtain ⟨hrun, _, hover, hheld, hviews⟩ := hc
  obtain ⟨rs, d, m, heq, hrs, hctx, hm⟩ := pickChute_spec (picking (clearOut s) x) n r.body.bin tag
  have hpicked : pickedBin s n x.src = some r.body.bin := by
    rw [hsrc, pickedBin, hin]
    rfl
  have hgantry : m.gantry = .loaded ∧ m.held = none ∧
      m.chute = if s.motion.chute = .inbound then .empty else s.motion.chute := by
    change m = if s.motion.chute = .inbound then _ else _ at hm
    split at hm
    · rename_i h
      exact ⟨by rw [hm]; rfl, by rw [hm]; exact hheld, by rw [hm, if_pos h]⟩
    · rename_i h
      exact ⟨by rw [hm]; rfl, by rw [hm]; exact hheld, by rw [hm, if_neg h]; rfl⟩
  obtain ⟨hload, hheld', hchute⟩ := hgantry
  obtain ⟨t, ht, hinv, hmot, _, _, hres, hfault⟩ := picked_calm (tag := tag) hg hx ho hs hpicked rfl
    (by rw [hsrc, pickAt, heq]; exact ⟨hrun, by
          change m.gantry ≠ .idle
          simp [hload], hover, hheld', hviews⟩)
  rw [hsrc, pickAt, heq] at hinv hmot hres hfault
  have hrecs : t.inv.records = rs := congrArg Image.records hinv
  obtain ⟨hreserved, htag⟩ := hctx
    (by rw [show (picking (clearOut s) x).sched.ctxs.length = 16 from hts.2.1]; exact hn)
  refine ⟨t, ht, by rw [hmot]; exact hload, ?_, fun k hk => ?_, (congrArg Image.columns hinv).trans rfl,
    (congrArg Image.away hinv).trans rfl, hres.trans hreserved, by rw [hmot]; exact hchute, fun hne => ?_⟩
  · rw [recordOf, hrecs, hrs, if_pos rfl]
    exact congrArg (Option.map _) hr
  · rw [recordOf, hrecs, hrs, if_neg hk]
    rfl
  · exact hfault.trans (htag hne)

/-- Both views once a side's view is FREE and a frame of the side is posted. -/
theorem freedPosted_view (s : State) (rs : List BinRecord) (d : Sched) (sd k : Side) (g : Tag)
    (p : Payload) : view (postSlot ((modView (s.withInv { s.inv with records := rs }) sd freedView).withSched d)
      sd g p) k = if k = sd then { freedView (view s sd) with
        pend := some (pframe s (frameOf s 12 0 (sideStation s sd) g p)) } else view s k := by
  cases sd <;> cases k <;> rfl

theorem pickedSlot {s : State} {x : Xfer} {n : Nat} {sd : Side} {b : BinId} {r : BinRecord}
    (tag : Option BinId) (hc : Calm s)
    (hts : TablesSized s) (hn : n < 16) (hg : s.motion.gantry = .movingEmpty)
    (hx : s.motion.xfer = some x) (ho : x.owner = some n) (hsrc : x.src = .slot sd)
    (hs : x.setDown = false) (hpend : (view s sd).pend = none) (hrace : (view s sd).raced = none)
    (hpicked : pickedBin s n x.src = some b) (hr : SlotPick s n b r) :
    ∃ t, exec (.picked tag) s = .next t ∧ t.motion.gantry = .loaded ∧
      recordOf t b = some (tagChecked b tag r) ∧ (∀ k, k ≠ b → recordOf t k = recordOf s k) ∧
      t.inv.columns = s.inv.columns ∧ (ctxOf t n).carried = some (.own b) ∧
      (view t sd).state = .free ∧
      (view t sd).pend = some (posted s.bus.seq
        (frameOf s 12 0 ((nbr s sd).station.getD 0) (view s sd).tag (.slotTaken b))) ∧
      (tag ≠ some b → (ctxOf t n).tagFault = true) := by
  obtain ⟨hrun, _, hover, hheld, hviews⟩ := hc
  have hr' : SlotPick (picking (clearOut s) x) n b r := hr
  have hv : ∀ sd', view (picking (clearOut s) x) sd' = view s sd' := fun sd' => by cases sd' <;> rfl
  obtain ⟨rs, d, heq, hrec, hrs, hctx⟩ := pickSlot_spec (s := picking (clearOut s) x) (sd := sd) tag hr'
    (by rw [hv]; exact hrace) (by rw [hv]; exact hpend)
  obtain ⟨t, ht, hinv, hmot, hslots, hcar, _, hfault⟩ := picked_calm (tag := tag) hg hx ho hs hpicked rfl
    (by
      rw [hsrc, pickAt, heq]
      refine ⟨by cases sd <;> exact hrun, ?_, by cases sd <;> exact hover, by cases sd <;> exact hheld,
        fun k hk => ?_⟩
      · cases sd <;> exact fun h => GantryState.noConfusion h
      · rw [freedPosted_view, hv k]
        obtain ⟨hf, hres⟩ := hviews k hk
        split
        · rename_i h
          rw [h] at hf
          exact ⟨hf, rfl⟩
        · exact ⟨hf, hres⟩)
  rw [hsrc, pickAt, heq] at hinv hmot hslots hcar hfault
  have hrecs : t.inv.records = rs := by
    rw [hinv]
    cases sd <;> rfl
  obtain ⟨hcarried, htag⟩ := hctx
    (by rw [show (picking (clearOut s) x).sched.ctxs.length = 16 from hts.2.1]; exact hn)
  have hview : view t sd = { freedView (view s sd) with
      pend := some (posted s.bus.seq
        (frameOf s 12 0 ((nbr s sd).station.getD 0) (view s sd).tag (.slotTaken b))) } := by
    have h := freedPosted_view (picking (clearOut s) x) rs d sd sd (view s sd).tag (.slotTaken b)
    rw [if_pos rfl, hv] at h
    unfold view
    rw [hslots]
    exact h
  refine ⟨t, ht, by rw [hmot]; cases sd <;> rfl, by rw [recordOf, hrecs, hrec], fun k hk => ?_, ?_,
    hcar.trans ?_, by rw [hview]; rfl, by rw [hview], fun hne => hfault.trans ?_⟩
  · rw [recordOf, hrecs, hrs k hk]
    rfl
  · rw [hinv]
    cases sd <;> rfl
  · cases sd <;> exact hcarried
  · cases sd <;> exact htag hne

/-- Settles O34: the pick's effects at each source, and an event's end that settles nothing in a calm node. -/
theorem pickPopsTheColumn : Obligations.PickPopsTheColumn := by
  unfold Obligations.PickPopsTheColumn
  refine ⟨fun s x n c bs b r tag hc hts hn hg hx ho hsrc hs hcol hb hr =>
      pickedColumn tag hc hts hn hg hx ho hsrc hs hcol hb hr,
    fun s x n r tag hc hts hn hg hx ho hsrc hs hin hr =>
      pickedChute tag hc hts hn hg hx ho hsrc hs hin hr,
    fun s x n sd b tag hc hts hn hg hx ho hsrc hs hpend hrace hcar => ?_⟩
  rcases hcar with ⟨q, hq, rfl⟩ | ⟨hown, q, hat, rfl, hq⟩
  · obtain ⟨t, ht, hgan, hrec, hrest⟩ := pickedSlot tag hc hts hn hg hx ho hsrc hs hpend hrace
      (r := { body := clashMark s q, residence := .inHand })
      (by rw [hsrc, pickedBin, hq]) (.inl ⟨q, hq, rfl, rfl⟩)
    refine ⟨t, ht, hgan, fun r hr => ?_, fun r hr => ?_, hrest⟩
    · obtain rfl : r = q := by
        rw [hq] at hr
        cases hr
        rfl
      exact hrec
    · rw [hq] at hr
      cases hr
  · obtain ⟨t, ht, hgan, hrec, hrest⟩ := pickedSlot tag hc hts hn hg hx ho hsrc hs hpend hrace
      (r := { q with residence := .inHand })
      (by rw [hsrc, pickedBin, hown]; simp [hat]) (.inr ⟨hown, q, hq, rfl⟩)
    refine ⟨t, ht, hgan, fun r hr => ?_, fun r _ hr => ?_, hrest⟩
    · rw [hown] at hr
      cases hr
    · obtain rfl : q = r := Option.some.inj (hq.symm.trans hr)
      exact hrec

end Sys2Proof.Machine
end

section
/-! PROOFS. The columns that EMPTY_PICK and OCCUPIED_PLACE report (O36). -/

namespace Sys2Proof.Machine

open Sys2Proof

-- In turn, so that the proofs do not hold more threads at once than the memory limit has stacks for.
set_option Elab.async false

/-! ### Columns after a change of one -/

theorem column_set {l : List Column} {c : Nat} (h : c < l.length) (v : Column) (k : Nat) :
    (l.set c v).getD k Column.empty = if k = c then v else l.getD k Column.empty := by
  rw [List.getD_eq_getElem?_getD, List.getD_eq_getElem?_getD, List.getElem?_set]
  by_cases hk : k = c
  · subst hk
    simp [h]
  · simp [hk, Ne.symm hk]

/-- The column table of a state whose columns are another's with one marked SUSPECT (R6). -/
theorem column_of_marked {s t : State} {c : Nat} (hc : c < s.inv.columns.length)
    (ht : t.inv.columns = (markSuspect s c).inv.columns) :
    column t c = { bins := (column s c).bins, suspect := true } ∧ ∀ k, k ≠ c → column t k = column s k := by
  have hcols : ∀ k, column t k = if k = c then { bins := (column s c).bins, suspect := true }
      else column s k := fun k => (column_of_columns ht k).trans (column_set hc _ k)
  exact ⟨by rw [hcols, if_pos rfl], fun k hk => by rw [hcols, if_neg hk]⟩

/-! ### EMPTY_PICK -/

/-- An EMPTY_PICK at a column marks it, and what ends the job then changes no column and no record. -/
theorem emptyPickReport_marks {s : State} {x : Xfer} {n c : Nat} (hg : s.motion.gantry = .movingEmpty)
    (hx : s.motion.xfer = some x) (ho : x.owner = some n) (hsrc : x.src = .column c) :
    Within Scope.ending (markSuspect (gantryIdle s) c) (emptyPickReport s) := by
  have heq : emptyPickReport s = if ownerEnded s x n then markSuspect (gantryIdle s) c
      else endCtx (markSuspect (gantryIdle s) c) n .positionFault 0 := by
    unfold emptyPickReport
    rw [hg, hx]
    dsimp only
    rw [ho, hsrc]
    rfl
  rw [heq]
  split
  · exact Within.refl _ _
  · exact (Within.refl _ _).after_endCtx trivial trivial _ _

theorem faultEmptyPick_marks {s : State} {x : Xfer} {n c : Nat} (hnode : s.fire.node ≠ .resuming)
    (hg : s.motion.gantry = .movingEmpty) (hx : s.motion.xfer = some x) (ho : x.owner = some n)
    (hsrc : x.src = .column c) (hc : c < s.inv.columns.length) :
    ∃ t, exec .faultEmptyPick s = .next t ∧
      column t c = { bins := (column s c).bins, suspect := true } ∧
      (∀ k, k ≠ c → column t k = column s k) ∧ t.inv.records = s.inv.records := by
  have w := emptyPickReport_marks (s := clearOut s) hg hx ho hsrc
  have hl := (lasting_fullEvent emptyPickReport s (by rw [w.fire]; exact hnode)).trans w.lasts
  obtain ⟨hcol, hothers⟩ := column_of_marked (s := s) hc (columns_of_lasting hl)
  exact ⟨_, rfl, hcol, hothers, (records_of_lasting hl).trans rfl⟩

/-! ### OCCUPIED_PLACE -/

/-- A drive fault in RUN: the gantry FAULTED with no transfer and no timer, and work at the desk. -/
theorem driveFault_run {s : State} (hrun : s.fire.node = .run) :
    Within Scope.ending (faultGantry s) (driveFault s) := by
  have howner : ∀ n, Within Scope.ending (faultGantry s) (faultOwner (faultGantry s) n) := fun n => by
    unfold faultOwner
    dsimp only
    split
    · exact (Within.refl _ _).after_endCtx trivial trivial _ _
    · split
      · exact (Within.refl _ _).after_modCtx' trivial _
      · exact Within.refl _ _
  have hstall : ∀ t, Within Scope.ending (faultGantry s) t → Within Scope.ending (faultGantry s) (stallActive t) :=
    fun t w => by
      unfold stallActive
      split
      · exact w
      · exact w.after_stall trivial _
  unfold driveFault
  dsimp only
  rw [hrun]
  dsimp only
  refine hstall _ ?_
  split
  · exact Within.refl _ _
  · exact howner _

/-- What an OCCUPIED_PLACE at a column does, outside a restore step: the column is marked, and the bin is
retargeted or the drive at fault. -/
theorem occupiedPlaceReport_eq {s : State} {x : Xfer} {n c : Nat} (hg : s.motion.gantry = .loaded)
    (hx : s.motion.xfer = some x) (ho : x.owner = some n)
    (hk : (ctxOf s n).step.map (·.kind) ≠ some .restore) (hd : x.retarget.getD x.dst = .column c) :
    (∀ k, retargetChoice (markSuspect s c) x = some k →
      occupiedPlaceReport s = retargetXfer (markSuspect s c) x k) ∧
    (retargetChoice (markSuspect s c) x = none →
      occupiedPlaceReport s = driveFault (markSuspect s c)) := by
  have hskip : skipOccupied (markSuspect s c) n = markSuspect s c := by
    have : (ctxOf (markSuspect s c) n).step = (ctxOf s n).step := rfl
    unfold skipOccupied
    rw [this]
    cases hstep : (ctxOf s n).step with
    | none => rfl
    | some k =>
      rw [hstep] at hk
      rw [if_neg]
      intro h
      exact hk (congrArg some (of_decide_eq_true h))
  unfold occupiedPlaceReport
  rw [hg, hx]
  dsimp only
  rw [ho, destination, hd]
  dsimp only [markOccupied]
  rw [hskip]
  exact ⟨fun k hr => by rw [hr], fun hr => by rw [hr]⟩

theorem faultOccupiedPlace_marks {s : State} {x : Xfer} {n c : Nat} (hc : Calm s)
    (hg : s.motion.gantry = .loaded) (hx : s.motion.xfer = some x) (ho : x.owner = some n)
    (hk : (ctxOf s n).step.map (·.kind) ≠ some .restore) (hd : x.retarget.getD x.dst = .column c)
    (hcol : c < s.inv.columns.length) :
    ∃ t, exec .faultOccupiedPlace s = .next t ∧
      column t c = { bins := (column s c).bins, suspect := true } ∧
      t.inv.records = s.inv.records ∧
      (∀ k, retargetChoice (markSuspect s c) x = some k →
        t.motion.gantry = .loaded ∧ t.motion.xfer = some { x with retarget := some (.column k) } ∧
        t.motion.timer = some s.setup.motionTimeout ∧ t.motion.out = [.retarget (.column k)]) ∧
      (retargetChoice (markSuspect s c) x = none →
        t.motion.gantry = .faulted ∧ t.motion.xfer = none ∧ t.motion.timer = none) := by
  obtain ⟨hsome, hnone⟩ := occupiedPlaceReport_eq (s := clearOut s) hg hx ho hk hd
  obtain ⟨hrun, _, hover, hheld, hviews⟩ := id hc
  refine ⟨_, rfl, ?_⟩
  cases hr : retargetChoice (markSuspect s c) x with
  | some k =>
    have hbody := hsome k hr
    have hcalm : Calm (retargetXfer (markSuspect (clearOut s) c) x k) := hc
    have e := fullEvent_calmEnd (body := occupiedPlaceReport) (s := s) (by rw [hbody]; exact hcalm)
    rw [hbody] at e
    refine ⟨(column_of_marked (s := s) hcol (congrArg Image.columns e.inv)).1,
      (congrArg Image.records e.inv).trans rfl, fun j hj => ?_, fun h => by cases h⟩
    obtain rfl : k = j := Option.some.inj hj
    rw [e.motion]
    exact ⟨hg, rfl, rfl, rfl⟩
  | none =>
    have hbody := hnone hr
    have w := driveFault_run (s := markSuspect (clearOut s) c) hrun
    have hfaulted : Calm (faultGantry (markSuspect (clearOut s) c)) :=
      ⟨hrun, GantryState.noConfusion, hover, rfl, hviews⟩
    have hcalm := w.calm (fun h => h) (fun h => h) hfaulted
    have e := fullEvent_calmEnd (body := occupiedPlaceReport) (s := s) (by rw [hbody]; exact hcalm)
    rw [hbody] at e
    have hinv := e.inv.trans (w.inv (fun _ => hover))
    have hdrive := w.port.drive (fun h => h)
    simp only [Motion.drive, Prod.mk.injEq] at hdrive
    obtain ⟨hga, hxf, _, hti⟩ := hdrive
    refine ⟨(column_of_marked (s := s) hcol (congrArg Image.columns hinv)).1,
      (congrArg Image.records hinv).trans rfl, fun j hj => (by cases hj), fun _ => ?_⟩
    rw [e.motion]
    exact ⟨hga, hxf, hti⟩

/-- Settles O36: the reports mark the column, and what follows them leaves the tables. -/
theorem reportedColumnsAreMarked : Obligations.ReportedColumnsAreMarked :=
  ⟨fun _ _ _ _ hnode hg hx ho _ hsrc hc => faultEmptyPick_marks hnode hg hx ho hsrc hc,
    fun _ _ _ _ hc hg hx ho _ hk _ hd hcol => faultOccupiedPlace_marks hc hg hx ho hk hd hcol⟩

end Sys2Proof.Machine
end

section
/-! PROOFS. A context that has ended stays ended through the end of its event; the chute's reports (O40). -/

namespace Sys2Proof.Machine

open Sys2Proof

-- In turn, so that the proofs do not hold more threads at once than the memory limit has stacks for.
set_option Elab.async false

/-! ### A context that has ended -/

/-- A context number that is FREE and stands in no ready list. -/
structure Vacant (s : State) (n : Nat) : Prop where
  blank : ctxOf s n = Ctx.blank
  unlisted : ¬ ∃ l ∈ s.sched.ready, n ∈ l

/-- Work of any kind on every context but one. -/
def Scope.others (n : Nat) : Scope := { who := (· ≠ n), ends := True, steps := True, guards := True }

/-- Work that does not name a vacant context leaves it vacant. -/
theorem Within.vacant {k : Scope} {s t : State} {n : Nat} (w : Within k s t) (hk : ¬ k.who n)
    (h : Vacant s n) : Vacant t n := by
  have hst : (ctxOf s n).state ≠ .stalled := by
    rw [h.blank]
    decide
  refine ⟨(w.sched.others n hk hst (fun _ => ?_)).trans h.blank, fun hl => h.unlisted (w.sched.listed n hk hst hl)⟩
  exact congrArg Ctx.noticeOwed h.blank

theorem Vacant.of_sched {s t : State} {n : Nat} (h : Vacant s n) (ht : t.sched = s.sched) : Vacant t n :=
  ⟨by rw [ctxOf, ht]; exact h.blank, by rw [ht]; exact h.unlisted⟩

theorem leaveList_unlisted (s : State) (n : Nat) : ¬ ∃ l ∈ (leaveList s n).sched.ready, n ∈ l := by
  rintro ⟨l, hl, hn⟩
  obtain ⟨k, _, rfl⟩ := List.mem_map.mp hl
  simpa using (List.mem_filter.mp hn).2

/-- A context that ends stands in no ready list, and waits for nothing. -/
theorem endCtx_over {s : State} {n : Nat} (o : JobOutcome) (d : Nat) (hn : n < s.sched.ctxs.length)
    (hlive : (ctxOf s n).state ≠ .free ∧ (ctxOf s n).state ≠ .ending) (hst : (ctxOf s n).state ≠ .stalled) :
    (ctxOf (endCtx s n o d) n).state ≠ .stalled ∧ ¬ ∃ l ∈ (endCtx s n o d).sched.ready, n ∈ l := by
  let s0 := withdrawNotice (forgetStep (leaveList s n) n) n
  have w0 : Within (Scope.others n) (leaveList s n) s0 :=
    ((Within.refl _ _).after_forgetStep n).after_withdrawNotice trivial n
  have h0 : ¬ ∃ l ∈ s0.sched.ready, n ∈ l := fun hl =>
    leaveList_unlisted s n (w0.sched.listed n (fun h => h rfl) hst hl)
  let s1 := reportEnd s0 n (doneBody n (ctxOf s n) o d)
  have hr1 : s1.sched.ready = s0.sched.ready := by
    simp only [s1, reportEnd]
    split
    · rfl
    · rfl
  have hs2 := moveOverflow_sched s1
  have hst1 : (ctxOf (moveOverflow s1) n).state ≠ .stalled := by
    rw [ctxOf, hs2]
    have hset : ∀ c, ctxOf (setCtx s0 n c) n = c := fun c => by
      rw [ctxOf_setCtx, if_pos ⟨rfl, w0.sched.ctxs.symm ▸ hn⟩]
    simp only [s1, reportEnd]
    split
    · exact fun h => nomatch (congrArg Ctx.state (hset Ctx.blank)).symm.trans h
    · exact fun h => nomatch (congrArg Ctx.state (hset _)).symm.trans h
  have w : Within Scope.waking (moveOverflow s1) (endCtx s n o d) := by
    unfold endCtx
    dsimp only
    rw [if_neg (by simp [hlive])]
    exact (((Within.refl _ _).after_wakeWhere _).foldl _ _ (fun _ sd _ hu => hu.after_leaveRace n sd)).foldl
      _ _ (fun _ sd _ hu => hu.after_leaveView n sd)
  refine ⟨fun hs => hst1 ((w.sched.state n (fun hf => hf) hst1).symm.trans hs), fun hl => h0 ?_⟩
  have hl1 := w.sched.listed n (fun hf => hf) hst1 hl
  rw [hs2, hr1] at hl1
  exact hl1

/-- With room in the completion queue a context that ends leaves its number vacant. -/
theorem endCtx_vacant {s : State} {n : Nat} (o : JobOutcome) (d : Nat) (hn : n < s.sched.ctxs.length)
    (hlive : (ctxOf s n).state ≠ .free ∧ (ctxOf s n).state ≠ .ending) (hst : (ctxOf s n).state ≠ .stalled)
    (hroom : s.sched.doneQ.length < 8) : Vacant (endCtx s n o d) n :=
  ⟨(endCtx_reported o d hn hlive hroom).1, (endCtx_over o d hn hlive hst).2⟩

/-! ### The event's end and a vacant context -/

theorem askShutter_sched (s : State) (sh : ShutterId) (p : ShutterPos) :
    (askShutter s sh p).sched = s.sched := by
  have hset : ∀ v, (setShutter s sh v).sched = s.sched := fun v => by cases sh <;> rfl
  unfold askShutter
  dsimp only
  split
  · exact hset _
  · exact hset _
  · exact hset _
  · exact hset _
  · split
    · exact hset _
    · exact hset _
  · split
    · exact hset _
    · exact hset _

theorem askAll_fire (s : State) (p : ShutterPos) : (askAll s p).fire = s.fire :=
  ((Within.refl Scope.waking s).foldl _ _ (fun _ sh _ hu => hu.after_askShutter sh p)).fire

theorem askAll_sched (s : State) (p : ShutterPos) : (askAll s p).sched = s.sched := by
  simp only [askAll, shutterIds, List.foldl, askShutter_sched]

theorem safeEntry_node {s : State} (h : s.fire.node ≠ .guarded) : (safeEntry s).fire.node ≠ .guarded := by
  unfold safeEntry
  split
  · exact fun hs => NodeState.noConfusion hs
  · exact h

theorem safeEntry_sched (s : State) : (safeEntry s).sched = s.sched := by
  unfold safeEntry
  split
  · rfl
  · rfl

theorem closeShutters_node {s : State} (h : s.fire.node ≠ .guarded) :
    (closeShutters s).fire.node ≠ .guarded := by
  refine safeEntry_node ?_
  rw [askAll_fire]
  exact h

theorem closeShutters_sched (s : State) : (closeShutters s).sched = s.sched :=
  (safeEntry_sched _).trans (askAll_sched _ _)

/-- The shutdown sequence leaves the scheduler, and never enters GUARD. -/
theorem shutdownSync_keeps (s : State) : (shutdownSync s).sched = s.sched ∧
    ((shutdownSync s).fire.node = .guarded → shutdownSync s = s) := by
  unfold shutdownSync
  split
  · rename_i hs
    have hg : s.fire.node ≠ .guarded := by simp [hs]
    split
    · exact ⟨safeEntry_sched s, fun h => absurd h (safeEntry_node hg)⟩
    · split
      · exact ⟨rfl, fun h => absurd h hg⟩
      · exact ⟨closeShutters_sched s, fun h => absurd h (closeShutters_node hg)⟩
      · exact ⟨closeShutters_sched _, fun h => absurd h (closeShutters_node hg)⟩
      · exact ⟨rfl, fun _ => rfl⟩
      · exact ⟨rfl, fun _ => rfl⟩
      · exact ⟨rfl, fun _ => rfl⟩
      · exact ⟨rfl, fun _ => rfl⟩
  · exact ⟨rfl, fun _ => rfl⟩

theorem moveOverflow_motion (s : State) : (moveOverflow s).motion = s.motion := by
  unfold moveOverflow
  split
  · rfl
  · split
    · rfl
    · rfl

/-- Outside RESUMING an event's end leaves a vacant context vacant, and completion records only join. -/
theorem settle_vacant {s : State} {n : Nat} (hres : s.fire.node ≠ .resuming)
    (hheld : s.fire.node = .guarded → s.motion.held = none) (h : Vacant s n) :
    Vacant (settle s) n ∧ s.sched.doneQ <+: (settle s).sched.doneQ := by
  let u := shutdownSync (moveOverflow s)
  obtain ⟨hsched, hguard⟩ := shutdownSync_keeps (moveOverflow s)
  have hus : u.sched = s.sched := hsched.trans (moveOverflow_sched s)
  have hur : resumeSync u = u := resumeSync_elsewhere u fun hr =>
    hres (by rw [← moveOverflow_fire s]; exact shutdownSync_resuming _ hr)
  have hu : Vacant u n := h.of_sched hus
  have hheld' : u.motion.held = none ∨ u.fire.node ≠ .guarded := by
    by_cases hg : u.fire.node = .guarded
    · have heq : u = moveOverflow s := hguard hg
      refine .inl ?_
      rw [heq, moveOverflow_motion]
      refine hheld ?_
      rw [← moveOverflow_fire s, ← heq]
      exact hg
    · exact .inr hg
  have hnot : (ctxOf u n).state ≠ .stalled := by
    rw [hu.blank]
    decide
  have hw : ∀ m, (Scope.others n).who m ∨ (ctxOf u m).state ≠ .stalled ∧ ¬ ∃ l ∈ u.sched.ready, m ∈ l := by
    intro m
    by_cases hm : m = n
    · rw [hm]
      exact .inr ⟨hnot, hu.unlisted⟩
    · exact .inl hm
  have w : Within (Scope.others n) u (settle s) := by
    have heq : settle s = sides.foldl resendLoaded
        (runSchedule scheduleBound (commandPutAway (guardSides (resumeSync u)))) := rfl
    rw [heq, hur]
    exact ((((Within.refl _ u).after_guardSides trivial (hheld'.imp id .inl)).after_commandPutAway
      trivial).after_runSchedule trivial trivial hw _).after_resendAll trivial
  exact ⟨w.vacant (fun hn => hn rfl) hu, by rw [← hus]; exact w.sched.done⟩

/-- The same for a whole event, by the state its body leaves. -/
theorem fullEvent_vacant {body : State → State} {s : State} {n : Nat}
    (hres : (body (clearOut s)).fire.node ≠ .resuming)
    (hheld : (body (clearOut s)).fire.node = .guarded → (body (clearOut s)).motion.held = none)
    (h : Vacant (body (clearOut s)) n) :
    ctxOf (fullEvent body s) n = Ctx.blank ∧
      (body (clearOut s)).sched.doneQ <+: (fullEvent body s).sched.doneQ := by
  obtain ⟨hv, hq⟩ := settle_vacant hres hheld h
  rw [fullEvent]
  generalize settle (body (clearOut s)) = u at hv hq
  have e := (endEvent_blocks (clearOut s) u).sched
  refine ⟨?_, by rw [e]; exact hq⟩
  rw [ctxOf, e]
  exact hv.blank

/-! ### ARRIVAL -/

/-- What an event leaves of the chute and the inventory, by what its body leaves. -/
theorem fullEvent_lasting {body : State → State} {s u : State}
    (hu : lasting (body (clearOut s)) = lasting u) (hf : (body (clearOut s)).fire = s.fire)
    (hres : s.fire.node ≠ .resuming) : lasting (fullEvent body s) = lasting u :=
  (lasting_fullEvent body s (by rw [hf]; exact hres)).trans hu

/-- An event that does nothing but block the chute. -/
theorem blocked_lasts {body : State → State} {s : State} {r : BlockReason}
    (hb : body (clearOut s) = blockChute (clearOut s) r) (hres : s.fire.node ≠ .resuming) :
    (fullEvent body s).motion.chute = .blocked ∧ (fullEvent body s).motion.reason = r ∧
      (fullEvent body s).inv.records = s.inv.records ∧ (fullEvent body s).inv.columns = s.inv.columns := by
  have hl := fullEvent_lasting (congrArg lasting hb) (by rw [hb]; rfl) hres
  exact ⟨chute_of_lasting hl, reason_of_lasting hl, (records_of_lasting hl).trans rfl,
    (columns_of_lasting hl).trans rfl⟩

theorem arrive_conflict {s : State} (tag : Option BinId) (h : s.motion.chute ≠ .empty) :
    arrive tag s = blockChute s .chuteConflict := by
  unfold arrive
  split
  · contradiction
  · rfl
  · rfl
  · rfl

theorem arrive_unmatched {s : State} {tag : Option BinId} (he : s.motion.chute = .empty)
    (h : ∀ b, tag = some b → awaitingBin s b = none) : arrive tag s = blockChute s .unmatched := by
  rw [arrive, he]
  cases tag with
  | none => rfl
  | some b =>
    change arrivalEmpty s (some b) = _
    rw [arrivalEmpty, h b rfl]

theorem arrive_matched {s : State} {b : BinId} {n : Nat} (he : s.motion.chute = .empty)
    (h : awaitingBin s b = some n) :
    arrive (some b) s = if (ctxOf s n).carried.isSome then arrivalMatched s n b
      else blockChute (endCtx s n .noRecord 0) .noRecord := by
  rw [arrive, he]
  change arrivalEmpty s (some b) = _
  rw [arrivalEmpty, h]

/-- The context that adopts an arrival is one of the table's, and AWAITING. -/
theorem awaitingBin_awaits {s : State} {b : BinId} {n : Nat} (h : awaitingBin s b = some n) :
    n < 16 ∧ (ctxOf s n).state = .awaiting ∧ (ctxOf s n).kind = .stow := by
  have hmem : n ∈ ctxNumbers.filter (fun n => (ctxOf s n).state = .awaiting ∧ (ctxOf s n).kind = .stow ∧
      (ctxOf s n).offer.any (fun o => o.bin = b)) := by
    rcases Option.or_eq_some_iff.mp h with hf | ⟨_, hh⟩
    · exact List.mem_of_find?_eq_some hf
    · exact List.mem_of_head? hh
  obtain ⟨hn, hp⟩ := List.mem_filter.mp hmem
  have hp' := of_decide_eq_true hp
  exact ⟨List.mem_range.mp hn, hp'.1, hp'.2.1⟩

/-- An arrival matched to a context that holds the record changes the record, the chute and work at the desk. -/
theorem arrivalMatched_within (s : State) (n : Nat) (b : BinId) :
    Within Scope.ending ((setResidence s b (.atChute .inward)).withMotion
      { s.motion with chute := .inbound, reason := .none }) (arrivalMatched s n b) :=
  ((Within.refl _ _).after_modCtx' trivial _).after_readied trivial

theorem arrival_inbound {s : State} {b : BinId} {n : Nat} {r : BinRecord} (hres : s.fire.node ≠ .resuming)
    (he : s.motion.chute = .empty) (hw : awaitingBin s b = some n)
    (hc : (ctxOf s n).carried = some (.own b)) (hr : recordOf s b = some r) :
    ∃ t, exec (.arrival (some b)) s = .next t ∧ t.motion.chute = .inbound ∧
      recordOf t b = some { r with residence := .atChute .inward } ∧
      ∀ k, k ≠ b → recordOf t k = recordOf s k := by
  have hb : arrive (some b) (clearOut s) = arrivalMatched (clearOut s) n b := by
    rw [arrive_matched (s := clearOut s) he hw]
    exact if_pos (by rw [show (ctxOf (clearOut s) n).carried = _ from hc]; rfl)
  have w := arrivalMatched_within (clearOut s) n b
  rw [← hb] at w
  have hl := fullEvent_lasting w.lasts w.fire hres
  have hrec : ∀ k, recordOf (fullEvent (arrive (some b)) s) k = _ := fun k =>
    (recordOf_of_records (records_of_lasting hl) k).trans
      (recordOf_setResidence (clearOut s) b k (.atChute .inward))
  refine ⟨_, rfl, chute_of_lasting hl, (hrec b).trans ?_, fun k hk => (hrec k).trans ?_⟩
  · rw [if_pos rfl]
    exact congrArg (Option.map _) hr
  · rw [if_neg hk]
    rfl

theorem arrival_noRecord {s : State} {b : BinId} {n : Nat} (hts : TablesSized s)
    (hres : s.fire.node ≠ .resuming) (he : s.motion.chute = .empty) (hw : awaitingBin s b = some n)
    (hc : (ctxOf s n).carried = none) :
    ∃ t, exec (.arrival (some b)) s = .next t ∧ t.motion.chute = .blocked ∧
      t.motion.reason = .noRecord ∧ t.inv.records = s.inv.records ∧
      (s.sched.doneQ.length < 8 → (s.fire.node = .guarded → s.motion.held = none) →
        ctxOf t n = Ctx.blank ∧ ∃ e ∈ t.sched.doneQ,
          e.body.outcome = .noRecord ∧ e.body.ctx = n ∧ e.body.origin = (ctxOf s n).origin ∧
          e.body.tag = (ctxOf s n).tag ∧ e.body.delivered = 0) := by
  have hb : arrive (some b) (clearOut s) = blockChute (endCtx (clearOut s) n .noRecord 0) .noRecord := by
    rw [arrive_matched (s := clearOut s) he hw]
    exact if_neg (by rw [show (ctxOf (clearOut s) n).carried = _ from hc]; simp)
  have w : Within Scope.ending (clearOut s) (endCtx (clearOut s) n .noRecord 0) :=
    (Within.refl _ _).after_endCtx trivial trivial _ _
  have hf : (arrive (some b) (clearOut s)).fire = s.fire := by
    rw [hb]
    exact w.fire
  have hl := fullEvent_lasting (congrArg lasting hb) hf hres
  refine ⟨_, rfl, chute_of_lasting hl, reason_of_lasting hl,
    (records_of_lasting hl).trans (records_of_lasting (s := clearOut s) (t := endCtx (clearOut s) n .noRecord 0) w.lasts),
    fun hroom hheld => ?_⟩
  obtain ⟨hn, hst, hkind⟩ := awaitingBin_awaits hw
  have hn' : n < (clearOut s).sched.ctxs.length := by
    rw [show (clearOut s).sched.ctxs.length = 16 from hts.2.1]
    exact hn
  have hst' : (ctxOf (clearOut s) n).state = .awaiting := hst
  have hlive : (ctxOf (clearOut s) n).state ≠ .free ∧ (ctxOf (clearOut s) n).state ≠ .ending := by simp [hst']
  obtain ⟨_, e, hq, hbody⟩ := endCtx_reported .noRecord 0 hn' hlive hroom
  have hvac : Vacant (arrive (some b) (clearOut s)) n := by
    rw [hb]
    exact (endCtx_vacant .noRecord 0 hn' hlive (by simp [hst']) hroom).of_sched rfl
  have hheld' : (arrive (some b) (clearOut s)).fire.node = .guarded →
      (arrive (some b) (clearOut s)).motion.held = none := fun hg => by
    rw [hf] at hg
    rw [hb]
    have hd := w.port.drive (fun h => h)
    simp only [Motion.drive, Prod.mk.injEq] at hd
    exact hd.2.2.1.trans (hheld hg)
  obtain ⟨hblank, hpre⟩ := fullEvent_vacant (body := arrive (some b)) (by rw [hf]; exact hres) hheld' hvac
  refine ⟨hblank, e, hpre.subset ?_, ?_⟩
  · rw [hb]
    change e ∈ (endCtx (clearOut s) n .noRecord 0).sched.doneQ
    rw [hq]
    exact List.mem_append_right _ (List.mem_singleton.mpr rfl)
  · rw [hbody]
    have hk : (ctxOf (clearOut s) n).kind = .stow := hkind
    exact ⟨rfl, rfl, rfl, rfl, by simp [doneBody, hk]⟩

/-! ### TAKEN -/

theorem chuteEmptied_within (s : State) :
    Within Scope.waking (s.withMotion { s.motion with chute := .empty, reason := .none }) (chuteEmptied s) := by
  unfold chuteEmptied
  dsimp only
  split
  · exact (Within.refl _ _).after_wakeOn _
  · exact Within.refl _ _

theorem chuteTaken_follows {s : State} (hres : s.fire.node ≠ .resuming) :
    ∃ t, exec .chuteTaken s = .next t ∧
      (t.motion.chute = match s.motion.chute with
        | .empty | .outbound => .empty
        | .inbound | .blocked => .blocked) ∧
      (s.motion.chute = .inbound → t.motion.reason = .chuteConflict) ∧
      (t.inv.records = if s.motion.chute = .outbound ∨ s.motion.chute = .blocked then
          s.inv.records.map (fun r =>
            if r.residence = .atChute .outward then { r with residence := .away } else r)
        else s.inv.records) ∧
      t.inv.columns = s.inv.columns := by
  refine ⟨_, rfl, ?_⟩
  cases hc : s.motion.chute with
  | empty =>
    have hb : collected (clearOut s) = clearOut s := by
      rw [collected, show (clearOut s).motion.chute = _ from hc]
    have hl := fullEvent_lasting (congrArg lasting hb) (by rw [hb]; rfl) hres
    exact ⟨(chute_of_lasting hl).trans hc, fun h => (by cases h), (records_of_lasting hl).trans rfl,
      (columns_of_lasting hl).trans rfl⟩
  | outbound =>
    have hb : collected (clearOut s) = chuteEmptied (chuteRecordsAway (clearOut s) .outward) := by
      rw [collected, show (clearOut s).motion.chute = _ from hc]
    have w := chuteEmptied_within (chuteRecordsAway (clearOut s) .outward)
    rw [← hb] at w
    have hl := fullEvent_lasting w.lasts w.fire hres
    exact ⟨chute_of_lasting hl, fun h => (by cases h), (records_of_lasting hl).trans rfl,
      (columns_of_lasting hl).trans rfl⟩
  | inbound =>
    have hb : collected (clearOut s) = blockChute (clearOut s) .chuteConflict := by
      rw [collected, show (clearOut s).motion.chute = _ from hc]
    obtain ⟨h1, h2, h3, h4⟩ := blocked_lasts hb hres
    exact ⟨h1, fun _ => h2, h3, h4⟩
  | blocked =>
    have hb : collected (clearOut s) = chuteRecordsAway (clearOut s) .outward := by
      rw [collected, show (clearOut s).motion.chute = _ from hc]
    have hl := fullEvent_lasting (congrArg lasting hb) (by rw [hb]; rfl) hres
    exact ⟨(chute_of_lasting hl).trans hc, fun h => (by cases h), (records_of_lasting hl).trans rfl,
      (columns_of_lasting hl).trans rfl⟩

/-- Settles O40: the reports' effects on the chute and its records last through the event's end, and a
context they end stays ended. -/
theorem chuteFollowsItsReports : Obligations.ChuteFollowsItsReports := by
  refine ⟨fun s tag hres => ⟨fun hne => ?_, fun he hw => ?_, fun b n r he ht hw hc hr => ?_,
    fun b n hts he ht hw hc => ?_⟩, fun s hres => chuteTaken_follows hres⟩
  · obtain ⟨h1, h2, h3, _⟩ := blocked_lasts (arrive_conflict (s := clearOut s) tag hne) hres
    exact ⟨_, rfl, h1, h2, h3⟩
  · obtain ⟨h1, h2, h3, _⟩ := blocked_lasts (arrive_unmatched (s := clearOut s) he hw) hres
    exact ⟨_, rfl, h1, h2, h3⟩
  · rw [ht]
    exact arrival_inbound hres he hw hc hr
  · rw [ht]
    exact arrival_noRecord hts hres he hw hc

end Sys2Proof.Machine
end

section
/-! PROOFS. CHUTE CLEAR (O41). -/

namespace Sys2Proof.Machine

open Sys2Proof

-- In turn, so that the proofs do not hold more threads at once than the memory limit has stacks for.
set_option Elab.async false

/-! ### The chute at an event's end -/

/-- The chute's state and blocked reason. -/
def chuteSide (s : State) : ChuteState × BlockReason := (s.motion.chute, s.motion.reason)

theorem chuteSide_of_lasting {s t : State} (h : lasting t = lasting s) : chuteSide t = chuteSide s :=
  Prod.ext (chute_of_lasting h) (reason_of_lasting h)

theorem chuteSide_leaveHoming (s : State) : chuteSide (leaveHoming s) = chuteSide s := by
  have hviews : ∀ (l : List Side) (t : State), chuteSide (l.foldl freeView t) = chuteSide t := fun l t =>
    chuteSide_of_lasting (lasting_foldl _ lasting_freeView _ _)
  unfold leaveHoming
  split
  · unfold enterJoining postAnnounce
    split
    · rfl
    · rfl
  · unfold emptyImage
    split
    · rfl
    · exact hviews sides _

theorem chuteSide_resumeSync (s : State) : chuteSide (resumeSync s) = chuteSide s := by
  unfold resumeSync
  split
  · unfold endResuming
    dsimp only
    split
    · exact chuteSide_of_lasting (lasting_enterRun _)
    · exact chuteSide_of_lasting (lasting_enterRun _)
    · rfl
    · unfold enterJoining postAnnounce
      split
      · rfl
      · rfl
    · exact chuteSide_leaveHoming _
  · rfl

/-- The end of an event leaves the chute alone in every node state. -/
theorem chuteSide_fullEvent (body : State → State) (s : State) :
    chuteSide (fullEvent body s) = chuteSide (body (clearOut s)) := by
  rw [fullEvent, chuteSide_of_lasting (lasting_endEvent _ _)]
  simp only [settle]
  rw [chuteSide_of_lasting (lasting_foldl _ lasting_resendLoaded _ _),
    chuteSide_of_lasting (lasting_runSchedule _ _), chuteSide_of_lasting (lasting_commandPutAway _),
    chuteSide_of_lasting (lasting_guardSides _), chuteSide_resumeSync,
    chuteSide_of_lasting (lasting_shutdownSync _), chuteSide_of_lasting (lasting_moveOverflow _)]

/-! ### Emptying the chute -/

/-- A record once the chute, in a state, has been cleared (R14, R138). -/
def cleared (k : ChuteState) (r : BinRecord) : BinRecord :=
  if r.residence = .atChute .outward ∧ (k = .outbound ∨ k = .blocked) ∨
      r.residence = .atChute .inward ∧ (k = .inbound ∨ k = .blocked) then { r with residence := .away }
  else r

/-- What clearing the chute leaves. -/
structure Emptied (s t : State) : Prop where
  chute : t.motion.chute = .empty
  reason : s.motion.chute ≠ .empty → t.motion.reason = .none
  columns : t.inv.columns = s.inv.columns
  records : t.inv.records = s.inv.records.map (cleared s.motion.chute)
  kept : kept t = kept s
  fire : t.fire = s.fire

/-- The chute emptied over work at the desk that leaves what `u` leaves. -/
theorem Emptied.of_within {s u v : State} (w : Within Scope.ending u v)
    (hc : u.inv.columns = s.inv.columns) (hr : u.inv.records = s.inv.records.map (cleared s.motion.chute))
    (hk : Machine.kept u = Machine.kept s) (hf : u.fire = s.fire) : Emptied s (chuteEmptied v) := by
  have w' := chuteEmptied_within v
  exact ⟨chute_of_lasting w'.lasts, fun _ => reason_of_lasting w'.lasts,
    (columns_of_lasting w'.lasts).trans ((columns_of_lasting w.lasts).trans hc),
    (records_of_lasting w'.lasts).trans ((records_of_lasting w.lasts).trans hr),
    (kept_of_lasting w'.lasts).trans ((kept_of_lasting w.lasts).trans hk), w'.fire.trans (w.fire.trans hf)⟩

theorem clearInbound_within (s : State) :
    Within Scope.ending (chuteRecordsAway s .inward) (clearInbound s) :=
  (Within.refl _ _).foldl _ _ (fun _ _ _ hu => hu.after_endCtx trivial trivial _ _)

theorem clearChute_empties (s : State) : Emptied s (clearChute s) := by
  unfold clearChute
  split
  · rename_i hc
    have hid : cleared s.motion.chute = id := by
      funext r
      simp [cleared, hc]
    exact ⟨hc, fun h => absurd hc h, rfl, by rw [hid, List.map_id], rfl, rfl⟩
  · rename_i hc
    refine Emptied.of_within (Within.refl _ (chuteRecordsAway s .outward)) rfl
      (List.map_congr_left (fun r _ => ?_)) rfl rfl
    simp [cleared, hc]
  · rename_i hc
    refine Emptied.of_within (clearInbound_within s) rfl (List.map_congr_left (fun r _ => ?_)) rfl rfl
    simp [cleared, hc]
  · rename_i hc
    refine Emptied.of_within (clearInbound_within (chuteRecordsAway s .outward)) rfl
      ((List.map_map ..).trans (List.map_congr_left (fun r _ => ?_))) rfl rfl
    by_cases ho : r.residence = .atChute .outward
    · simp [cleared, hc, ho]
    · simp [cleared, hc, ho]

/-! ### The command -/

section Command

variable {s : State} {h : Header}

/-- The request is judged on tables that hearing its sender leaves alone. -/
theorem chuteClear_judged (hp : Passes s h) : notReady (heard s h) = notReady s ∧
    (heard s h).motion = (clearOut s).motion ∧ (heard s h).inv = s.inv ∧ (heard s h).fire = s.fire ∧
    (heard s h).sched = (clearOut s).sched ∧ (heard s h).slots = s.slots := by
  obtain ⟨_, _, hl⟩ := id hp
  obtain ⟨w, e, heq⟩ := heard_eq s h hl
  rw [heq]
  exact ⟨rfl, rfl, rfl, rfl, rfl, rfl⟩

theorem chuteJobActive_heard (hp : Passes s h) : chuteJobActive (heard s h) = chuteJobActive s := by
  obtain ⟨_, _, hl⟩ := id hp
  obtain ⟨w, e, heq⟩ := heard_eq s h hl
  rw [heq]
  rfl

theorem heard_board (hp : Passes s h) : (heard s h).board = s.board := by
  obtain ⟨_, _, hl⟩ := id hp
  obtain ⟨w, e, heq⟩ := heard_eq s h hl
  rw [heq]
  rfl

/-- A received frame that its owner answers: the answer joins the reply list. -/
theorem receive_answered (hp : Passes s h) {body : State → State} {v : State} {f : Frame}
    (hb : body (heard s h) = postReply v f) (hv : v.bus.replies = s.bus.replies) (hposts : posts v = true) :
    (receive h body s).bus.replies = s.bus.replies ++ [posted v.bus.seq f] := by
  rw [receive_eq hp, replies_of_kept (kept_fullEvent _ s), hb, postReply_eq hposts, ← hv]
  rfl

/-- Outside RESUMING a received frame leaves of `lasting` what its owner leaves. -/
theorem receive_lasting (hp : Passes s h) {body : State → State} {v : State} (hb : body (heard s h) = v)
    (hf : v.fire = s.fire) (hres : s.fire.node ≠ .resuming) : lasting (receive h body s) = lasting v := by
  rw [receive_eq hp, lasting_fullEvent _ _ (by rw [hb, hf]; exact hres), hb]

/-- An answer leaves the inventory, the chute and the fire controller. -/
theorem postReply_leaves {v : State} (hposts : posts v = true) (f : Frame) :
    (postReply v f).inv = v.inv ∧ (postReply v f).motion = v.motion ∧ (postReply v f).fire = v.fire ∧
      (postReply v f).sched = v.sched ∧ (postReply v f).slots = v.slots := by
  rw [postReply_eq hposts]
  exact ⟨rfl, rfl, rfl, rfl, rfl⟩

theorem chuteClear_notReady (hp : Passes s h) (hr : s.bus.replies.length < 8) (hn : notReady s = true) :
    ∃ t q, exec (.chuteClear h) s = .next t ∧ t.motion.chute = s.motion.chute ∧
      t.bus.replies = s.bus.replies ++ [posted q (refusal s 2 h .notReady)] := by
  obtain ⟨hnot, hmot, _⟩ := chuteClear_judged hp
  have hb : takeChuteClear h (heard s h) = postReply (heard s h) (refusal s 2 h .notReady) := by
    rw [takeChuteClear, hnot, if_pos hn, heard_refuseAt hp hr]
  obtain ⟨_, hm, _⟩ := postReply_leaves (heard_posts hp) (refusal s 2 h .notReady)
  refine ⟨_, (heard s h).bus.seq, rfl, ?_, receive_answered hp hb (heard_replies hp) (heard_posts hp)⟩
  have hc := congrArg Prod.fst (chuteSide_fullEvent (fun _ => takeChuteClear h (heard s h)) s)
  rw [← receive_eq hp, chuteSide, chuteSide, hb, hm, hmot] at hc
  exact hc

theorem notResuming_of_ready (h : notReady s = false) : s.fire.node ≠ .resuming := by
  intro hn
  simp [notReady, hn] at h

theorem chuteClear_moving (hp : Passes s h) (hr : s.bus.replies.length < 8) (hn : notReady s = false)
    (hc : s.motion.chute = .inbound ∨ s.motion.chute = .blocked) (hj : chuteJobActive s = true) :
    ∃ t q, exec (.chuteClear h) s = .next t ∧ t.motion.chute = s.motion.chute ∧
      t.motion.reason = s.motion.reason ∧ t.inv.records = s.inv.records ∧
      t.bus.replies = s.bus.replies ++ [posted q (refusal s 2 h .binMoving)] := by
  obtain ⟨hnot, hmot, hinv, hfire, _⟩ := chuteClear_judged hp
  have hb : takeChuteClear h (heard s h) = postReply (heard s h) (refusal s 2 h .binMoving) := by
    rw [takeChuteClear, hnot, if_neg (by simp [hn]), if_pos ⟨by rw [hmot]; exact hc,
      (chuteJobActive_heard hp).trans hj⟩, heard_refuseAt hp hr]
  obtain ⟨hi, hm, hf, _⟩ := postReply_leaves (heard_posts hp) (refusal s 2 h .binMoving)
  have hl := receive_lasting hp hb (hf.trans hfire) (notResuming_of_ready hn)
  have hc := chute_of_lasting hl
  have hreason := reason_of_lasting hl
  have hrecs := records_of_lasting hl
  rw [hm, hmot] at hc hreason
  rw [hi, hinv] at hrecs
  exact ⟨_, (heard s h).bus.seq, rfl, hc, hreason, hrecs,
    receive_answered hp hb (heard_replies hp) (heard_posts hp)⟩

/-- The accepted command: the chute emptied, and the answer posted. -/
theorem takeChuteClear_accepted (hp : Passes s h) (hr : s.bus.replies.length < 8) (hn : notReady s = false)
    (ha : ¬ ((s.motion.chute = .inbound ∨ s.motion.chute = .blocked) ∧ chuteJobActive s = true)) :
    takeChuteClear h (heard s h) = postReply (clearChute (heard s h)) (replyTo s h (.chuteClear .empty
      (if s.motion.chute = .blocked then s.motion.reason else .none))) ∧
    posts (clearChute (heard s h)) = true ∧ (clearChute (heard s h)).bus.replies = s.bus.replies := by
  obtain ⟨hnot, hmot, _⟩ := chuteClear_judged hp
  have e := clearChute_empties (heard s h)
  have hboard : (clearChute (heard s h)).board = s.board :=
    (congrArg (fun x => x.1) e.kept).trans (heard_board hp)
  have hposts : posts (clearChute (heard s h)) = true := by
    rw [posts, hboard]
    obtain ⟨_, hps, _⟩ := hp
    exact hps
  refine ⟨?_, hposts, (replies_of_kept e.kept).trans (heard_replies hp)⟩
  rw [takeChuteClear, hnot, if_neg (by simp [hn]), if_neg (by rw [hmot, chuteJobActive_heard hp]; exact ha),
    heard_respond hp hr]
  refine congrArg _ ?_
  rw [replyFrame, e.chute, clearedReason, hmot, frameOf, hboard]
  rfl

theorem chuteClear_accepted (hp : Passes s h) (hr : s.bus.replies.length < 8) (hn : notReady s = false)
    (ha : ¬ ((s.motion.chute = .inbound ∨ s.motion.chute = .blocked) ∧ chuteJobActive s = true)) :
    ∃ t q, exec (.chuteClear h) s = .next t ∧ t.motion.chute = .empty ∧
      (s.motion.chute ≠ .empty → t.motion.reason = .none) ∧ t.inv.columns = s.inv.columns ∧
      t.inv.records = s.inv.records.map (cleared s.motion.chute) ∧
      t.bus.replies = s.bus.replies ++ [posted q (replyTo s h (.chuteClear .empty
        (if s.motion.chute = .blocked then s.motion.reason else .none)))] := by
  obtain ⟨_, hmot, hinv, hfire, _⟩ := chuteClear_judged hp
  obtain ⟨hb, hposts, hreplies⟩ := takeChuteClear_accepted hp hr hn ha
  have e := clearChute_empties (heard s h)
  obtain ⟨hi, hm, hf, _⟩ := postReply_leaves hposts (replyTo s h (.chuteClear .empty
    (if s.motion.chute = .blocked then s.motion.reason else .none)))
  have hl := receive_lasting hp hb (hf.trans (e.fire.trans hfire)) (notResuming_of_ready hn)
  have hc := chute_of_lasting hl
  have hreason := reason_of_lasting hl
  have hcols := columns_of_lasting hl
  have hrecs := records_of_lasting hl
  rw [hm] at hc hreason
  rw [hi] at hcols hrecs
  rw [e.records, hinv, hmot] at hrecs
  rw [e.columns, hinv] at hcols
  exact ⟨_, (clearChute (heard s h)).bus.seq, rfl, hc.trans e.chute,
    fun hne => hreason.trans (e.reason (by rw [hmot]; exact hne)), hcols, hrecs,
    receive_answered hp hb hreplies hposts⟩

/-! ### The put-away of a chute that is cleared (R97) -/

/-- The records of an OUTBOUND bin that becomes AWAY name no other put-away. -/
theorem chuteCtxs_outwardAway (s : State) : chuteCtxs (chuteRecordsAway s .outward) = chuteCtxs s := by
  have hlook : ∀ b, recordOf (chuteRecordsAway s .outward) b = (recordOf s b).map (fun r =>
      if r.residence = .atChute .outward then { r with residence := .away } else r) := fun b => by
    refine lookup_map _ (fun r => ?_) b _
    split
    · rfl
    · rfl
  have hres : ∀ b, residenceOf (chuteRecordsAway s .outward) b = some (.atChute .inward) ↔
      residenceOf s b = some (.atChute .inward) := fun b => by
    unfold residenceOf
    rw [hlook]
    cases recordOf s b with
    | none => rfl
    | some r => by_cases h : r.residence = .atChute .outward <;> simp [h]
  refine List.filter_congr (fun n _ => ?_)
  have hctx : ctxOf (chuteRecordsAway s .outward) n = ctxOf s n := rfl
  rw [hctx]
  split
  · simp only [hres]
  · rfl

/-- A context whose put-away waits at the chute is a STOW of the table. -/
theorem chuteCtxs_mem {n : Nat} (hn : n ∈ chuteCtxs s) : n < 16 ∧ (ctxOf s n).kind = .stow := by
  obtain ⟨hr, hp⟩ := List.mem_filter.mp hn
  refine ⟨List.mem_range.mp hr, ?_⟩
  split at hp
  · exact (of_decide_eq_true hp).1
  · cases hp

/-- Clearing a chute with one put-away ends its context, over records made AWAY. -/
theorem clearChute_one {u : State} {n : Nat} (hone : chuteCtxs u = [n])
    (hc : u.motion.chute = .inbound ∨ u.motion.chute = .blocked) :
    ∃ rs, clearChute u = chuteEmptied
      (endCtx (u.withInv { u.inv with records := rs }) n .removed 0) := by
  have hin : ∀ v, chuteCtxs v = [n] → clearInbound v = endCtx (chuteRecordsAway v .inward) n .removed 0 :=
    fun v hv => by rw [clearInbound, hv, List.foldl_cons, List.foldl_nil]
  unfold clearChute
  rcases hc with hc | hc
  · rw [hc]
    dsimp only
    rw [hin u hone]
    exact ⟨_, rfl⟩
  · rw [hc]
    dsimp only
    rw [hin _ ((chuteCtxs_outwardAway u).trans hone)]
    exact ⟨_, rfl⟩

theorem chuteClear_removes {n : Nat} (hcalm : Calm s) (hts : TablesSized s) (hp : Passes s h)
    (hr : s.bus.replies.length < 8) (hroom : s.sched.doneQ.length < 8)
    (hc : s.motion.chute = .inbound ∨ s.motion.chute = .blocked) (hone : chuteCtxs s = [n])
    (hst : (ctxOf s n).state = .ready ∨ (ctxOf s n).state = .stalled ∨ (ctxOf s n).state = .paused) :
    ∃ t e, exec (.chuteClear h) s = .next t ∧ ctxOf t n = Ctx.blank ∧
      t.sched.doneQ = s.sched.doneQ ++ [e] ∧ e.body.outcome = .removed ∧ e.body.ctx = n ∧
      e.body.origin = (ctxOf s n).origin ∧ e.body.tag = (ctxOf s n).tag ∧ e.body.delivered = 0 := by
  obtain ⟨hrun, hgan, hover, hheld, hviews⟩ := id hcalm
  have hn : notReady s = false := by simp [notReady, hrun]
  have hidle : ¬ ((s.motion.chute = .inbound ∨ s.motion.chute = .blocked) ∧ chuteJobActive s = true) := by
    rintro ⟨_, hj⟩
    obtain ⟨x, _, hx⟩ := (Option.any_eq_true ..).mp hj
    obtain ⟨m, _, hm⟩ := (Option.any_eq_true ..).mp (of_decide_eq_true hx).2
    obtain ⟨hact, hmem⟩ := of_decide_eq_true hm
    obtain rfl : m = n := by rwa [hone, List.mem_singleton] at hmem
    simp [hact] at hst
  obtain ⟨hb, hposts, _⟩ := takeChuteClear_accepted hp hr hn hidle
  obtain ⟨_, hmot, hinv, hfire, hsched, hslots⟩ := chuteClear_judged hp
  obtain ⟨rs, hclear⟩ := clearChute_one (u := heard s h) (n := n)
    (by
      obtain ⟨_, _, hl⟩ := id hp
      obtain ⟨w, e, heq⟩ := heard_eq s h hl
      rw [heq]
      exact hone) (by rw [hmot]; exact hc)
  let A := (heard s h).withInv { (heard s h).inv with records := rs }
  have hctx : ctxOf A n = ctxOf s n := congrArg (fun v => v.ctxs.getD n Ctx.blank) hsched
  have hlive : (ctxOf A n).state ≠ .free ∧ (ctxOf A n).state ≠ .ending := by
    rw [hctx]
    rcases hst with h | h | h <;> simp [h]
  obtain ⟨hlt, hkind⟩ := chuteCtxs_mem (s := s) (n := n) (by rw [hone]; exact List.mem_singleton.mpr rfl)
  have hq : A.sched.doneQ = (clearOut s).sched.doneQ := congrArg Sched.doneQ hsched
  have hlen : n < A.sched.ctxs.length := by
    rw [show A.sched.ctxs.length = _ from congrArg (fun v => v.ctxs.length) hsched]
    exact hts.2.1 ▸ hlt
  obtain ⟨hblank, e, hdone, hbody⟩ := endCtx_reported .removed 0 hlen hlive (hq ▸ hroom)
  let v := clearChute (heard s h)
  have w0 : Within Scope.ending A (endCtx A n .removed 0) := (Within.refl _ _).after_endCtx trivial trivial _ _
  have w1 := chuteEmptied_within (endCtx A n .removed 0)
  rw [← hclear] at w1
  have hv : Calm v := by
    have hA : Calm A := by
      refine ⟨by rw [← hrun, ← hfire]; rfl, ?_, by rw [← hover, ← hinv]; rfl, ?_, fun sd hsd => ?_⟩
      · change (heard s h).motion.gantry ≠ _
        rw [hmot]
        exact hgan
      · change (heard s h).motion.held = _
        rw [hmot]
        exact hheld
      · have hview : view A sd = view s sd := by
          change (match sd with | .west => (heard s h).slots.west | .east => (heard s h).slots.east) = _
          rw [hslots]
          rfl
        rw [hview]
        exact hviews sd hsd
    exact w1.calm (fun h => h) (fun h => h) (w0.calm (fun h => h) (fun h => h) hA)
  obtain ⟨_, _, _, hs5, _⟩ := postReply_leaves hposts (replyTo s h (.chuteClear .empty
    (if s.motion.chute = .blocked then s.motion.reason else .none)))
  have ce := fullEvent_calmEnd (body := fun _ => takeChuteClear h (heard s h)) (s := s)
    (by rw [hb, postReply_eq hposts]; exact hv)
  rw [← receive_eq hp, hb] at ce
  have hctxv : ctxOf v n = Ctx.blank := by
    refine (w1.sched.others n (fun hf => hf) ?_ (fun hf => hf.elim)).trans hblank
    change (ctxOf (endCtx A n .removed 0) n).state ≠ .stalled
    rw [hblank]
    exact CtxState.noConfusion
  have hdonev : v.sched.doneQ = s.sched.doneQ ++ [e] := by
    refine (w1.sched.notDone (fun hf => hf)).trans (hdone.trans ?_)
    rw [hq]
    rfl
  have hpost : ctxOf (postReply v (replyTo s h (.chuteClear .empty
      (if s.motion.chute = .blocked then s.motion.reason else .none)))) n = Ctx.blank := by
    rw [ctxOf, hs5]
    exact hctxv
  refine ⟨_, e, rfl, (ce.ctx n ?_).trans hpost, ce.doneQ.trans ((congrArg Sched.doneQ hs5).trans hdonev), ?_⟩
  · rw [hpost]
    exact CtxState.noConfusion
  · rw [hbody, hctx]
    exact ⟨rfl, rfl, rfl, rfl, by simp [doneBody, hkind]⟩

end Command

/-- Settles O41: the command's effects last through the event's end, and the put-away it ends stays ended. -/
theorem chuteClearEmptiesTheChute : Obligations.ChuteClearEmptiesTheChute :=
  ⟨fun _ _ hp hr => ⟨fun hn => chuteClear_notReady hp hr hn,
      fun hn hc hj => chuteClear_moving hp hr hn hc hj, fun hn ha => chuteClear_accepted hp hr hn ha⟩,
    fun _ _ _ hcalm hts hp hr hroom hc hone hst => chuteClear_removes hcalm hts hp hr hroom hc hone hst⟩

end Sys2Proof.Machine
end

section
/-! PROOFS. COLUMN LOAD (O28). -/

namespace Sys2Proof.Machine

open Sys2Proof

-- In turn, so that the proofs do not hold more threads at once than the memory limit has stacks for.
set_option Elab.async false

/-! ### The checks of R7 -/

theorem hasTwice_iff (l : List Nat) : hasTwice l = true ↔ ¬ l.Nodup := by
  induction l with
  | nil => simp [hasTwice]
  | cons b bs ih =>
    simp only [hasTwice, Bool.or_eq_true, decide_eq_true_iff, ih, List.nodup_cons, not_and_or, not_not]

theorem isBinId_false_iff (b : Nat) : isBinId b = false ↔ b = 0 ∨ 65534 < b := by
  simp only [isBinId, decide_eq_false_iff_not]
  omega

section Checks

variable (s : State) (c count : Nat) (bins : List BinId)

theorem load_malformed_iff :
    (columnCount s ≤ c ∨ count ≠ bins.length ∨ s.board.c < bins.length ∨
      bins.any (fun b => !isBinId b) = true ∨ hasTwice bins = true) ↔
    (columnCount s ≤ c ∨ count ≠ bins.length ∨ s.board.c < bins.length ∨
      (∃ b ∈ bins, b = 0 ∨ 65534 < b) ∨ ¬ bins.Nodup) := by
  have hids : bins.any (fun b => !isBinId b) = true ↔ ∃ b ∈ bins, b = 0 ∨ 65534 < b := by
    simp only [List.any_eq_true, Bool.not_eq_true', isBinId_false_iff]
  rw [hids, hasTwice_iff]

/-- Whether a bin is RESIDENT in another column. -/
def residentElsewhere (b : BinId) : Bool :=
  match residenceOf s b with
  | some (.resident k _) => k ≠ c
  | _ => false

theorem residentElsewhere_iff (b : BinId) : residentElsewhere s c b = true ↔
    ∃ k i, residenceOf s b = some (.resident k i) ∧ k ≠ c := by
  unfold residentElsewhere
  split
  · rename_i k i h
    simp [h]
  · rename_i h
    refine ⟨fun hf => (by cases hf), ?_⟩
    rintro ⟨k, i, hki, _⟩
    exact absurd hki (h k i)

/-- Whether a bin is where R7 lets no load move it. -/
abbrev LoadMoving (b : BinId) : Prop :=
  s.inv.overflow = some b ∨ isCarried s b = true ∨ residenceOf s b = some .inHand ∨
    residenceOf s b = some .arriving ∨ (∃ sd, residenceOf s b = some (.inSlot sd)) ∨
    (∃ d, residenceOf s b = some (.atChute d)) ∨ ∃ w, residenceOf s b = some (.handing w)

theorem loadMoves_iff (b : BinId) : loadMoves s b = true ↔ LoadMoving s b := by
  unfold loadMoves
  rw [Bool.or_eq_true, Bool.or_eq_true, decide_eq_true_iff, or_assoc]
  refine or_congr Iff.rfl (or_congr Iff.rfl ?_)
  cases hres : residenceOf s b with
  | none => simp
  | some p => cases p <;> simp

/-- Whether R7 names a column or a bin of a load as busy. -/
abbrev LoadBusy : Prop :=
  columnAwaitsBin s c = true ∨ s.fire.node ≠ .survey ∧
    (columnInXfer s c = true ∨ lockedBut s none c = true ∨ (column s c).bins.any (isTargetBut s none) = true ∨
      (loadReturns s bins).any (isOffered s) = true)

theorem loadBusy_iff : LoadBusy s c bins ↔
    (columnAwaitsBin s c = true ∨ s.fire.node ≠ .survey ∧
      (columnInXfer s c = true ∨ (∃ n ∈ ctxNumbers, (ctxOf s n).lock = some c) ∨
        (∃ b ∈ (column s c).bins, isTargetBut s none b = true) ∨
        ∃ b ∈ bins, residenceOf s b = some .away ∧ ∃ e ∈ s.stow.offers, e.bin = b)) := by
  have hlock : lockedBut s none c = true ↔ ∃ n ∈ ctxNumbers, (ctxOf s n).lock = some c := by
    simp [lockedBut]
  have hoffer : (loadReturns s bins).any (isOffered s) = true ↔
      ∃ b ∈ bins, residenceOf s b = some .away ∧ ∃ e ∈ s.stow.offers, e.bin = b := by
    simp [loadReturns, isOffered]
  unfold LoadBusy
  rw [hlock, hoffer, List.any_eq_true]

/-- The refusal as the chain of R7's checks. -/
theorem loadRefusal_eq : loadRefusal s c count bins =
    if columnCount s ≤ c ∨ count ≠ bins.length ∨ s.board.c < bins.length ∨
      bins.any (fun b => !isBinId b) = true ∨ hasTwice bins = true then some .malformed
    else if bins.any (residentElsewhere s c) = true then some .malformed
    else if bins.any (loadMoves s) = true then some .binMoving
    else if LoadBusy s c bins then some .binBusy
    else if loadFits s c bins = true then none
    else some .tableFull := rfl

theorem loadRefusal_of_refused {r : RefuseReason} (h : LoadRefused s c count bins r) :
    loadRefusal s c count bins = some r := by
  have hwhere : bins.any (residentElsewhere s c) = true ↔
      ∃ b ∈ bins, ∃ k i, residenceOf s b = some (.resident k i) ∧ k ≠ c := by
    simp only [List.any_eq_true, residentElsewhere_iff]
  have hmove : bins.any (loadMoves s) = true ↔ ∃ b ∈ bins, LoadMoving s b := by
    simp only [List.any_eq_true, loadMoves_iff]
  have hbad := load_malformed_iff s c count bins
  have hbusy := loadBusy_iff s c bins
  rw [loadRefusal_eq]
  rcases h with ⟨rfl, hb | he⟩ | ⟨hb, he, hrest⟩
  · rw [if_pos (hbad.mpr hb)]
  · split
    · rfl
    · rw [if_pos (hwhere.mpr he)]
  · rw [if_neg (fun h => hb (hbad.mp h)), if_neg (fun h => he (hwhere.mp h))]
    rcases hrest with ⟨rfl, hm⟩ | ⟨hm, hrest⟩
    · rw [if_pos (hmove.mpr hm)]
    · rw [if_neg (fun h => hm (hmove.mp h))]
      rcases hrest with ⟨rfl, hy⟩ | ⟨hy, rfl, hfit⟩
      · rw [if_pos (hbusy.mpr hy)]
      · rw [if_neg (fun h => hy (hbusy.mp h)), if_neg (by simp [hfit])]

/-- A load that R7 takes is in range and names no id twice. -/
theorem taken_of_loadRefusal (h : loadRefusal s c count bins = none) :
    c < columnCount s ∧ bins.Nodup := by
  rw [loadRefusal_eq] at h
  split at h
  · cases h
  · rename_i hbad
    simp only [load_malformed_iff, not_or, not_le, not_not] at hbad
    obtain ⟨hc, _, _, _, hnd⟩ := hbad
    exact ⟨hc, hnd⟩

end Checks

/-! ### The load's effect on the tables (R8) -/

/-- Placing one bin: its record RESIDENT at its height, its away entry gone, and nothing else. -/
theorem placeLoaded_eq (c : Nat) (s : State) (b : BinId) (i : Nat) :
    ∃ rs, placeLoaded c s (b, i) = s.withInv { s.inv with
        records := rs
        away := s.inv.away.filter (fun e => e.bin ≠ b ∨ (recordOf s e.bin).isNone) } ∧
      lookup b rs = some { body := loadedBody (recordOf s b) b, residence := .resident c i } ∧
      ∀ k, k ≠ b → lookup k rs = lookup k s.inv.records := by
  unfold placeLoaded
  dsimp only
  cases hr : recordOf s b with
  | none =>
    refine ⟨insert { body := freshBody b, residence := .resident c i } s.inv.records, ?_,
      lookup_insert_self { body := freshBody b, residence := .resident c i } _, fun k hk => lookup_insert_other _ k _ hk⟩
    have hkeep : s.inv.away.filter (fun e => e.bin ≠ b ∨ (recordOf s e.bin).isNone) = s.inv.away := by
      refine List.filter_eq_self.mpr (fun e _ => ?_)
      by_cases he : e.bin = b
      · simp [he, hr]
      · simp [he]
    rw [hkeep]
    rfl
  | some r =>
    have hbin : r.body.bin = b := lookup_bin b _ r hr
    refine ⟨insert { body := { r.body with suspectTag := false }, residence := .resident c i }
      s.inv.records, ?_, ?_, fun k hk => lookup_insert_other _ k _ (by rw [← hbin] at hk; exact hk)⟩
    · have hkeep : s.inv.away.filter (fun e => e.bin ≠ b ∨ (recordOf s e.bin).isNone) =
          s.inv.away.filter (fun e => e.bin ≠ b) := by
        refine List.filter_congr (fun e _ => ?_)
        by_cases he : e.bin = b
        · simp [he, hr]
        · simp [he]
      rw [hkeep]
      rfl
    · have h := lookup_insert_self { body := { r.body with suspectTag := false }, residence := .resident c i }
        s.inv.records
      rw [hbin] at h
      exact h

/-- Placing bins that differ: each RESIDENT at its place in the list. -/
theorem placeLoaded_fold (c : Nat) (bins : List BinId) (hnd : bins.Nodup) (k : Nat) (s : State) :
    ∃ rs, (bins.zipIdx k).foldl (placeLoaded c) s = s.withInv { s.inv with
        records := rs
        away := s.inv.away.filter (fun e => e.bin ∉ bins ∨ (recordOf s e.bin).isNone) } ∧
      (∀ i b, bins[i]? = some b → lookup b rs =
        some { body := loadedBody (recordOf s b) b, residence := .resident c (k + i) }) ∧
      ∀ b, b ∉ bins → lookup b rs = lookup b s.inv.records := by
  induction bins generalizing k s with
  | nil =>
    refine ⟨s.inv.records, ?_, fun i b h => by simp at h, fun _ _ => rfl⟩
    have hkeep : s.inv.away.filter (fun e => e.bin ∉ ([] : List BinId) ∨ (recordOf s e.bin).isNone) =
        s.inv.away := List.filter_eq_self.mpr (fun e _ => by simp)
    rw [hkeep]
    rfl
  | cons a as ih =>
    obtain ⟨hnot, hnd'⟩ := List.nodup_cons.mp hnd
    obtain ⟨rs1, h1, hself1, hother1⟩ := placeLoaded_eq c s a k
    obtain ⟨rs, h2, hself2, hother2⟩ := ih hnd' (k + 1) (placeLoaded c s (a, k))
    rw [h1] at h2 hself2 hother2
    refine ⟨rs, ?_, fun i b hb => ?_, fun b hb => ?_⟩
    · rw [List.zipIdx_cons, List.foldl_cons, h1, h2]
      have haway : (s.inv.away.filter (fun e => e.bin ≠ a ∨ (recordOf s e.bin).isNone)).filter
          (fun e => e.bin ∉ as ∨ (lookup e.bin rs1).isNone) =
          s.inv.away.filter (fun e => e.bin ∉ a :: as ∨ (recordOf s e.bin).isNone) := by
        rw [List.filter_filter]
        refine List.filter_congr (fun e _ => ?_)
        by_cases he : e.bin = a
        · simp [he, hnot]
        · simp [he, hother1 e.bin he, recordOf]
      exact congrArg (fun aw => s.withInv { s.inv with records := rs, away := aw }) haway
    · cases i with
      | zero =>
        obtain rfl : a = b := by simpa using hb
        rw [hother2 a hnot]
        exact hself1
      | succ i =>
        have hb' : as[i]? = some b := by simpa using hb
        have hne : b ≠ a := fun h => hnot (h ▸ List.mem_of_getElem? hb')
        have hrec : recordOf (s.withInv { s.inv with
            records := rs1
            away := s.inv.away.filter (fun e => e.bin ≠ a ∨ (recordOf s e.bin).isNone) }) b = recordOf s b :=
          hother1 b hne
        rw [hself2 i b hb', hrec, show k + 1 + i = k + (i + 1) by omega]
    · rw [List.mem_cons, not_or] at hb
      obtain ⟨hba, hbas⟩ := hb
      exact (hother2 b hbas).trans (hother1 b hba)

/-- Removing bins: their records AWAY, their entries at the tail of the away list in order. -/
theorem removeLoaded_fold (bins : List BinId) (s : State) :
    ∃ rs, bins.foldl removeLoaded s = s.withInv { s.inv with
        records := rs
        away := s.inv.away ++ bins.map (fun b => { bin := b, winner := none }) } ∧
      ∀ b, lookup b rs = if b ∈ bins then (lookup b s.inv.records).map (fun r => { r with residence := .away })
        else lookup b s.inv.records := by
  induction bins generalizing s with
  | nil => exact ⟨s.inv.records, by rw [List.map_nil, List.append_nil]; rfl, fun b => by simp⟩
  | cons a as ih =>
    obtain ⟨rs, h, hrs⟩ := ih (removeLoaded s a)
    refine ⟨rs, ?_, fun b => ?_⟩
    · rw [List.foldl_cons, h, List.map_cons, ← List.singleton_append, ← List.append_assoc]
      rfl
    · have hset : lookup b (removeLoaded s a).inv.records = _ := recordOf_setResidence s a b .away
      rw [hrs b, hset]
      by_cases hb : b = a
      · subst hb
        by_cases hm : b ∈ as <;> simp [hm, recordOf, Function.comp_def]
      · by_cases hm : b ∈ as <;> simp [hb, hm, recordOf]

/-- What a COLUMN LOAD makes of the tables (R8). -/
theorem loadColumn_eq {s : State} {c : Nat} {bins : List BinId} (hnd : bins.Nodup) :
    ∃ rs, loadColumn c bins s = s.withInv { s.inv with
        records := rs
        away := s.inv.away.filter (fun e => e.bin ∉ bins ∨ (recordOf s e.bin).isNone) ++
          (loadRemoves s c bins).map (fun b => { bin := b, winner := none })
        columns := s.inv.columns.set c { bins, suspect := false } } ∧
      (∀ i b, bins[i]? = some b → lookup b rs =
        some { body := loadedBody (recordOf s b) b, residence := .resident c i }) ∧
      ∀ b ∈ (column s c).bins, b ∉ bins →
        lookup b rs = (recordOf s b).map (fun r => { r with residence := .away }) := by
  obtain ⟨rs1, h1, hplaced, hkept⟩ := placeLoaded_fold c bins hnd 0 s
  obtain ⟨rs, h2, hrs⟩ := removeLoaded_fold (loadRemoves s c bins) (bins.zipIdx.foldl (placeLoaded c) s)
  rw [h1] at h2 hrs
  refine ⟨rs, ?_, fun i b hb => ?_, fun b hb hnot => ?_⟩
  · unfold loadColumn
    dsimp only
    rw [h1, h2]
    rfl
  · have hnot : b ∉ loadRemoves s c bins := fun h => by
      have := (List.mem_filter.mp h).2
      simp [List.mem_of_getElem? hb] at this
    rw [hrs b, if_neg hnot]
    exact (hplaced i b hb).trans (by rw [Nat.zero_add])
  · have hmem : b ∈ loadRemoves s c bins := List.mem_filter.mpr ⟨hb, by simp [hnot]⟩
    rw [hrs b, if_pos hmem]
    exact congrArg (Option.map _) (hkept b hnot)

theorem acceptLoad_within (s : State) (c : Nat) (bins : List BinId) :
    Within Scope.ending (loadColumn c bins s) (acceptLoad c bins s) :=
  ((Within.refl _ _).after_moveOverflow trivial).after_wakeWhere _

/-! ### A RESUMING that does not end -/

/-- Before RESUMING has asked the shutters OPEN an event's end leaves `lasting` alone. -/
theorem lasting_fullEvent_unopened (body : State → State) (s : State)
    (h : (body (clearOut s)).fire.node = .resuming ∧ (body (clearOut s)).fire.opening = false) :
    lasting (fullEvent body s) = lasting (body (clearOut s)) := by
  obtain ⟨hn, ho⟩ := h
  have h1 : shutdownSync (moveOverflow (body (clearOut s))) = moveOverflow (body (clearOut s)) :=
    shutdownSync_elsewhere _ (by rw [moveOverflow_fire, hn]; exact NodeState.noConfusion)
  have h2 : resumeSync (moveOverflow (body (clearOut s))) = moveOverflow (body (clearOut s)) := by
    rw [resumeSync, moveOverflow_fire, ho, if_neg (by simp)]
  rw [fullEvent, lasting_endEvent]
  simp only [settle]
  rw [lasting_foldl _ lasting_resendLoaded, lasting_runSchedule, lasting_commandPutAway,
    lasting_guardSides, h1, h2, lasting_moveOverflow]

/-! ### The command -/

section Command

variable {s : State} {h : Header} {c count : Nat} {bins : List BinId}

/-- The request is judged on tables that hearing its sender leaves alone. -/
theorem columnLoad_judged (hp : Passes s h) : loadRefusal (heard s h) c count bins = loadRefusal s c count bins ∧
    (heard s h).fire = s.fire ∧ (heard s h).inv = s.inv := by
  obtain ⟨_, _, hl⟩ := id hp
  obtain ⟨w, e, heq⟩ := heard_eq s h hl
  rw [heq]
  exact ⟨rfl, rfl, rfl⟩

/-- Outside RESUMING a refusal leaves the tables, and is posted. -/
theorem columnLoad_refusedOut (hp : Passes s h) {r : RefuseReason} (hres : s.fire.node ≠ .resuming)
    (hb : takeColumnLoad h c count bins (heard s h) = postReply (heard s h) (refusal s 2 h r)) :
    ∃ t q, exec (.columnLoad h c count bins) s = .next t ∧ t.inv.columns = s.inv.columns ∧
      t.inv.records = s.inv.records ∧ t.bus.replies = s.bus.replies ++ [posted q (refusal s 2 h r)] := by
  obtain ⟨_, hfire, hinv⟩ := columnLoad_judged (c := c) (count := count) (bins := bins) hp
  obtain ⟨hi, _, hf, _⟩ := postReply_leaves (heard_posts hp) (refusal s 2 h r)
  have hl := receive_lasting hp hb (hf.trans hfire) hres
  have hcols := columns_of_lasting hl
  have hrecs := records_of_lasting hl
  rw [hi, hinv] at hcols hrecs
  exact ⟨_, (heard s h).bus.seq, rfl, hcols, hrecs,
    receive_answered hp hb (heard_replies hp) (heard_posts hp)⟩

theorem columnLoad_refused (hp : Passes s h) (hr : s.bus.replies.length < 8)
    (hn : s.fire.node ∈ [.survey, .joining, .run, .guarded, .safe]) {r : RefuseReason}
    (href : LoadRefused s c count bins r) :
    ∃ t q, exec (.columnLoad h c count bins) s = .next t ∧ t.inv.columns = s.inv.columns ∧
      t.inv.records = s.inv.records ∧ t.bus.replies = s.bus.replies ++ [posted q (refusal s 2 h r)] := by
  obtain ⟨hjudge, hfire, _⟩ := columnLoad_judged (c := c) (count := count) (bins := bins) hp
  refine columnLoad_refusedOut hp (fun hres => by simp [hres] at hn) ?_
  rw [← heard_refuseAt hp hr, takeColumnLoad, hfire, hjudge, loadRefusal_of_refused s c count bins href]
  simp only [List.mem_cons, List.not_mem_nil, or_false] at hn
  rcases hn with hn | hn | hn | hn | hn
  all_goals rw [hn]

/-- The state an accepted load leaves, before its answer. -/
theorem acceptLoad_loads (hp : Passes s h) (hts : TablesSized s)
    (href : loadRefusal s c bins.length bins = none) :
    (∀ k, column (acceptLoad c bins (heard s h)) k = if k = c then { bins, suspect := false } else column s k) ∧
    (∀ i b, bins[i]? = some b → recordOf (acceptLoad c bins (heard s h)) b =
      some { body := loadedBody (recordOf s b) b, residence := .resident c i }) ∧
    awayLine (acceptLoad c bins (heard s h)) =
      s.inv.away.filter (fun e => e.bin ∉ bins ∨ (recordOf s e.bin).isNone) ++
        (loadRemoves s c bins).map (fun b => { bin := b, winner := none }) ++
        (s.inv.overflow.map (fun b => { bin := b, winner := none })).toList ∧
    (∀ b ∈ (column s c).bins, b ∉ bins → recordOf (acceptLoad c bins (heard s h)) b =
      (recordOf s b).map (fun r => { r with residence := .away })) ∧
    kept (acceptLoad c bins (heard s h)) = kept (heard s h) ∧
    (acceptLoad c bins (heard s h)).fire = s.fire := by
  obtain ⟨_, hfire, hinv⟩ := columnLoad_judged (c := c) (count := 0) (bins := bins) hp
  obtain ⟨hc, hnd⟩ := taken_of_loadRefusal s c bins.length bins href
  obtain ⟨h64, _, _, _, _, hcols, _⟩ := id hts
  obtain ⟨rs, heq, hplaced, hremoved⟩ := loadColumn_eq (s := heard s h) (c := c) hnd
  have w := acceptLoad_within (heard s h) c bins
  rw [heq] at w
  have hrec : ∀ b, recordOf (acceptLoad c bins (heard s h)) b = lookup b rs :=
    recordOf_of_records (records_of_lasting w.lasts)
  have hrec0 : ∀ b, recordOf (heard s h) b = recordOf s b := recordOf_of_records (congrArg Image.records hinv)
  have hcol0 : ∀ k, column (heard s h) k = column s k := column_of_columns (congrArg Image.columns hinv)
  refine ⟨fun k => ?_, fun i b hb => ?_, ?_, fun b hb hnot => ?_, (kept_of_lasting w.lasts).trans rfl,
    w.fire.trans hfire⟩
  · have hset := column_set (l := (heard s h).inv.columns) (c := c)
      (by rw [hinv, hcols]; omega) { bins, suspect := false } k
    exact (column_of_columns (columns_of_lasting w.lasts) k).trans (hset.trans (by rw [← hcol0 k]; rfl))
  · rw [hrec, hplaced i b hb, hrec0]
  · refine (awayLine_of_lasting w.lasts).trans ?_
    simp only [awayLine, State.withInv_inv, loadRemoves, hinv, hrec0, hcol0]
  · rw [hrec, hremoved b (by rw [hcol0]; exact hb) hnot, hrec0]

/-- An accepted load's answer, over the state that the load leaves. -/
theorem takeColumnLoad_accepted (hp : Passes s h) (hts : TablesSized s) (hr : s.bus.replies.length < 8)
    (hn : s.fire.node ∈ [.survey, .joining, .run, .guarded, .safe])
    (href : loadRefusal s c bins.length bins = none) :
    takeColumnLoad h c bins.length bins (heard s h) = postReply (acceptLoad c bins (heard s h))
      (replyTo s h (.columnLoad c false bins)) := by
  obtain ⟨hjudge, hfire, _⟩ := columnLoad_judged (c := c) (count := bins.length) (bins := bins) hp
  obtain ⟨hcol, _, _, _, hkept, _⟩ := acceptLoad_loads hp hts href
  have hboard : (acceptLoad c bins (heard s h)).board = s.board :=
    (congrArg (fun x => x.1) hkept).trans (heard_board hp)
  have hanswer : takeColumnLoad h c bins.length bins (heard s h) = respond (heard s h) (acceptLoad c bins)
      (fun t => replyFrame h (.columnLoad c (column t c).suspect (column t c).bins) t) := by
    rw [takeColumnLoad, hfire, hjudge, href]
    simp only [List.mem_cons, List.not_mem_nil, or_false] at hn
    rcases hn with hn | hn | hn | hn | hn
    all_goals rw [hn]
  rw [hanswer, heard_respond hp hr, hcol, if_pos rfl, replyFrame, frameOf, hboard]
  rfl

theorem columnLoad_accepted (hp : Passes s h) (hts : TablesSized s) (hr : s.bus.replies.length < 8)
    (hn : s.fire.node ∈ [.survey, .joining, .run, .guarded, .safe])
    (href : loadRefusal s c bins.length bins = none) :
    ∃ t q, exec (.columnLoad h c bins.length bins) s = .next t ∧
      column t c = { bins, suspect := false } ∧ (∀ k, k ≠ c → column t k = column s k) ∧
      (∀ i b, bins[i]? = some b →
        recordOf t b = some { body := loadedBody (recordOf s b) b, residence := .resident c i }) ∧
      awayLine t = s.inv.away.filter (fun e => e.bin ∉ bins ∨ (recordOf s e.bin).isNone) ++
        ((column s c).bins.filter (fun b => b ∉ bins)).map (fun b => { bin := b, winner := none }) ++
        (s.inv.overflow.map (fun b => { bin := b, winner := none })).toList ∧
      (∀ b ∈ (column s c).bins, b ∉ bins → (recordOf s b).isSome → residenceOf t b = some .away) ∧
      t.bus.replies = s.bus.replies ++ [posted q (replyTo s h (.columnLoad c false bins))] := by
  have hb := takeColumnLoad_accepted hp hts hr hn href
  obtain ⟨hcol, hplaced, haway, hremoved, hkept, hfire⟩ := acceptLoad_loads hp hts href
  have hposts : posts (acceptLoad c bins (heard s h)) = true := by
    obtain ⟨_, hps, _⟩ := id hp
    have hboard : (acceptLoad c bins (heard s h)).board = s.board :=
      (congrArg (fun x => x.1) hkept).trans (heard_board hp)
    rw [posts, hboard]
    exact hps
  obtain ⟨hi, _, hf, _⟩ := postReply_leaves hposts (replyTo s h (.columnLoad c false bins))
  have hl := receive_lasting hp hb (hf.trans hfire) (fun hres => by simp [hres] at hn)
  have hcols := columns_of_lasting hl
  have hrecs := records_of_lasting hl
  have hline := awayLine_of_lasting hl
  rw [hi] at hcols hrecs
  have hrec := recordOf_of_records hrecs
  refine ⟨_, (acceptLoad c bins (heard s h)).bus.seq, rfl, ?_, fun k hk => ?_, fun i b hib => ?_, ?_,
    fun b hbc hnot hsome => ?_, receive_answered hp hb ((replies_of_kept hkept).trans (heard_replies hp)) hposts⟩
  · exact (column_of_columns hcols c).trans ((hcol c).trans (if_pos rfl))
  · exact (column_of_columns hcols k).trans ((hcol k).trans (if_neg hk))
  · exact (hrec b).trans (hplaced i b hib)
  · refine hline.trans (Eq.trans ?_ haway)
    rw [awayLine, hi]
    rfl
  · rw [residenceOf, (hrec b).trans (hremoved b hbc hnot)]
    obtain ⟨r, hr⟩ := Option.isSome_iff_exists.mp hsome
    rw [hr]
    rfl

/-- A refusal in a RESUMING whose shutters have not been asked OPEN, so that it does not end here. -/
theorem columnLoad_resuming (hp : Passes s h) (hr : s.bus.replies.length < 8)
    (hn : s.fire.node = .resuming) :
    ∃ t q, exec (.columnLoad h c count bins) s = .next t ∧
      (s.fire.opening = false → t.inv.columns = s.inv.columns ∧ t.inv.records = s.inv.records) ∧
      t.bus.replies = s.bus.replies ++ [posted q (refusal s 2 h .notReady)] := by
  obtain ⟨_, hfire, hinv⟩ := columnLoad_judged (c := c) (count := count) (bins := bins) hp
  have hb : takeColumnLoad h c count bins (heard s h) = postReply (heard s h) (refusal s 2 h .notReady) := by
    rw [← heard_refuseAt hp hr, takeColumnLoad, hfire, hn]
  obtain ⟨hi, _, hf, _⟩ := postReply_leaves (heard_posts hp) (refusal s 2 h .notReady)
  refine ⟨_, (heard s h).bus.seq, rfl, fun ho => ?_,
    receive_answered hp hb (heard_replies hp) (heard_posts hp)⟩
  have hl := lasting_fullEvent_unopened (fun _ => takeColumnLoad h c count bins (heard s h)) s
    (by rw [hb, hf, hfire]; exact ⟨hn, ho⟩)
  rw [← receive_eq hp, hb] at hl
  have hcols := columns_of_lasting hl
  have hrecs := records_of_lasting hl
  rw [hi, hinv] at hcols hrecs
  exact ⟨hcols, hrecs⟩

end Command

/-- Settles O28: a load is R7's chain of checks and R8's two passes over the tables, and its event's end leaves
what it makes of them. -/
theorem columnLoadTakenOrRefused : Obligations.ColumnLoadTakenOrRefused := by
  refine ⟨fun s h c bins hp hts hr hn href => columnLoad_accepted hp hts hr hn href,
    fun s h c count bins hp hr => ⟨fun hn => ?_, fun hn => columnLoad_resuming hp hr hn, fun hn => ?_,
      fun hn r href => columnLoad_refused hp hr hn href⟩⟩
  · obtain ⟨_, hfire, _⟩ := columnLoad_judged (c := c) (count := count) (bins := bins) hp
    obtain ⟨t, q, ht, hcols, _, hrep⟩ := columnLoad_refusedOut (c := c) (count := count)
      (bins := bins) (r := .notReady) hp (by simp [hn])
      (by rw [← heard_refuseAt hp hr, takeColumnLoad, hfire, hn])
    exact ⟨t, q, ht, hcols, hrep⟩
  · obtain ⟨_, hfire, _⟩ := columnLoad_judged (c := c) (count := count) (bins := bins) hp
    obtain ⟨t, q, ht, hcols, _, hrep⟩ := columnLoad_refusedOut (c := c) (count := count)
      (bins := bins) (r := .fire) hp (by simp [hn])
      (by rw [← heard_refuseAt hp hr, takeColumnLoad, hfire, hn])
    exact ⟨t, q, ht, hcols, hrep⟩

end Sys2Proof.Machine
end

section
/-! PROOFS. PLACED on a column and on the chute (O35). -/

namespace Sys2Proof.Machine

open Sys2Proof

-- In turn, so that the proofs do not hold more threads at once than the memory limit has stacks for.
set_option Elab.async false

/-! ### What follows a PLACED for the job -/

section AfterPlace

variable {k : Scope} {s t : State} {n : Nat}

theorem Within.after_haltEnd (h : Within k s t) (hn : k.who n) (he : k.ends) (kind : StepKind) (p : Pos) :
    Within k s (haltEnd t n kind p) := by
  unfold haltEnd
  dsimp only
  split
  · exact (h.after_modCtx' hn _).after_endCtx hn he _ _
  · exact h.after_endCtx hn he _ _

/-- A step boundary begins a step in RUN alone. -/
theorem Within.after_boundary (h : Within k s t) (hn : k.who n) (he : k.ends)
    (hs : k.steps ∨ t.fire.node ≠ .run) (kind : StepKind) (p : Pos) : Within k s (boundary t n kind p) := by
  unfold boundary
  dsimp only
  split
  · exact h.after_haltEnd hn he kind p
  · split
    · exact h.after_endCtx hn he _ _
    · split
      · exact h.after_pauseCtx hn
      · rename_i hrun
        split
        · exact h.after_toHead hn
        · exact h.after_stepStart hn he (hs.resolve_right hrun)

theorem Within.after_setDownEnd (h : Within k s t) (hn : k.who n) (he : k.ends) (kind : StepKind) (p : Pos) :
    Within k s (setDownEnd t n kind p) := by
  unfold setDownEnd
  dsimp only
  split
  · exact h.after_haltEnd hn he kind p
  · split
    · exact h.after_endCtx hn he _ _
    · exact h

theorem Within.after_afterPlace (h : Within k s t) (hn : k.who n) (he : k.ends)
    (hs : k.steps ∨ t.fire.node ≠ .run ∨ (ctxOf t n).kind = .stow ∨ (ctxOf t n).kind = .spill)
    (kind : StepKind) (p : Pos) (note : NoticeBody) : Within k s (afterPlace t n kind p note) := by
  have hnote : Within k s (if (ctxOf t n).notify then offerNotice t n note else t) ∧
      (if (ctxOf t n).notify then offerNotice t n note else t).fire = t.fire := by
    split
    · exact ⟨h.after_offerNotice hn note, ((Within.refl Scope.any t).after_offerNotice trivial note).fire⟩
    · exact ⟨h, rfl⟩
  obtain ⟨h1, hf⟩ := hnote
  have hs' : (ctxOf t n).kind = .fetch ∨ (ctxOf t n).kind = .verify → k.steps ∨ t.fire.node ≠ .run := by
    rintro (hk | hk)
    · simpa [hk] using hs
    · simpa [hk] using hs
  unfold afterPlace
  split
  · exact h.after_endCtx hn he _ _
  · exact h.after_endCtx hn he _ _
  · exact h.after_endCtx hn he _ _
  · rename_i hk
    split
    · exact h1.after_boundary hn he (by rw [hf]; exact hs' (.inl hk)) kind p
    · exact h.after_setDownEnd hn he kind p
  · rename_i hk
    split
    · exact h1.after_boundary hn he (by rw [hf]; exact hs' (.inr hk)) kind p
    · exact h.after_setDownEnd hn he kind p

theorem Within.after_settleHand (h : Within k s t) (hw : ∀ n, k.who n) (he : k.ends) (b : BinId)
    (p : Option Nat) : Within k s (settleHand t b p) := by
  unfold settleHand
  split
  · exact h
  · rename_i n _
    have h1 : Within k s (modCtx (t.withSched { t.sched with stepEnded := some n }) n
        (fun c => { c with step := none })) := (h.marks _).after_modCtx' (hw n) _
    unfold settleJob
    dsimp only
    split
    iterate 3
      · split
        · exact h1.after_endCtx (hw n) he _ _
        · exact h1.after_endCtx (hw n) he _ _
    iterate 2
      · split
        · split
          · exact (h1.after_modCtx' (hw n) _).after_restoreOver (hw n)
          · exact h1
        · split
          · exact (h1.after_modCtx' (hw n) _).after_restoreOver (hw n)
          · exact h1
        · exact h1.after_modCtx' (hw n) _
        · exact (h1.after_modCtx' (hw n) _).after_restoreOver (hw n)
        · exact h1
        · exact h1

end AfterPlace

/-! ### The place and its tables -/

section Place

variable {s : State} {x : Xfer} {r : BinRecord}

theorem placeReport_accepted {p : Pos} {n : Nat} (hg : s.motion.gantry = .loaded)
    (hx : s.motion.xfer = some x) (ho : x.owner = some n) (hin : inHand s = some r)
    (ha : placeAccepted s x p = true) : placeReport s p = placeFor (gantryIdle s) n p r.body.bin := by
  unfold placeReport
  rw [hg, hx, hin]
  dsimp only
  rw [if_pos ha, ho]

/-- The state whose step is over, before the place takes effect. -/
def stepOver (s : State) (n : Nat) : State :=
  (gantryIdle s).withSched { s.sched with stepEnded := some n }

/-- The job's context once its step is over. -/
def stepDone (c : Ctx) : Ctx := { c with step := none }

theorem placeFor_eq (s : State) (n : Nat) (p : Pos) (b : BinId) : placeFor (gantryIdle s) n p b =
    afterPlace (modCtx (placeAt (stepOver s n) n p b) n stepDone) n
      (((ctxOf s n).step.map (·.kind)).getD .skipped) p (noticeBody (ctxOf s n)) := rfl

theorem placeColumn_within (s : State) (n c : Nat) (b : BinId) :
    Within Scope.ending (pushColumn s c b) (placeColumn s n c b) :=
  ((Within.refl _ _).after_modCtx' trivial _).after_restoreOver trivial

/-- A PLACED on a column changes the tables by the push alone. -/
theorem placeReport_column {c : Nat} (hg : s.motion.gantry = .loaded) (hx : s.motion.xfer = some x)
    (hin : inHand s = some r) (hdst : x.dst = .column c ∨ x.retarget = some (.column c)) :
    (placeReport s (.column c)).fire = s.fire ∧
      (placeReport s (.column c)).inv.records = (pushColumn s c r.body.bin).inv.records ∧
      (placeReport s (.column c)).inv.columns = (pushColumn s c r.body.bin).inv.columns := by
  have ha : placeAccepted s x (.column c) = true := by
    have : Pos.column c = x.dst ∨ some (Pos.column c) = x.retarget := hdst.imp Eq.symm Eq.symm
    simp [placeAccepted, this]
  cases ho : x.owner with
  | some n =>
    rw [placeReport_accepted hg hx ho hin ha, placeFor_eq]
    have w0 : Within Scope.any (pushColumn (stepOver s n) c r.body.bin)
        (modCtx (placeAt (stepOver s n) n (.column c) r.body.bin) n stepDone) :=
      (((Within.refl _ _).after_modCtx' trivial _).after_restoreOver trivial).after_modCtx' trivial _
    have w := w0.after_afterPlace (n := n) trivial trivial (.inl trivial)
      (((ctxOf s n).step.map (·.kind)).getD .skipped) (.column c) (noticeBody (ctxOf s n))
    exact ⟨w.fire, records_of_lasting w.lasts, columns_of_lasting w.lasts⟩
  | none =>
    have heq : placeReport s (.column c) = placeHoming (gantryIdle s) c r.body.bin := by
      unfold placeReport
      rw [hg, hx, hin]
      dsimp only
      rw [if_pos ha, ho]
    have w : Within Scope.any (pushColumn (gantryIdle s) c r.body.bin)
        (settleHand (pushColumn (gantryIdle s) c r.body.bin) r.body.bin (some c)) :=
      (Within.refl _ _).after_settleHand (fun _ => trivial) trivial _ _
    rw [heq]
    unfold placeHoming
    dsimp only
    generalize settleHand (pushColumn (gantryIdle s) c r.body.bin) r.body.bin (some c) = v at w
    have hrecs := records_of_lasting w.lasts
    have hcols := columns_of_lasting w.lasts
    split
    · exact ⟨w.fire, hrecs, hcols⟩
    · exact ⟨w.fire, hrecs, hcols⟩

theorem lookup_eq_find (b : BinId) (l : List BinRecord) :
    lookup b l = l.find? (fun r => r.body.bin = b) := by
  induction l with
  | nil => rfl
  | cons r rs ih =>
    rw [lookup, List.find?_cons, ih]
    by_cases h : r.body.bin = b <;> simp [h]

/-- The bin in hand has a record. -/
theorem recordOf_inHand (hin : inHand s = some r) : ∃ q, recordOf s r.body.bin = some q := by
  have hmem := List.mem_of_find?_eq_some hin
  have hsome : (s.inv.records.find? (fun q => q.body.bin = r.body.bin)).isSome := by
    rw [List.find?_isSome]
    exact ⟨r, hmem, by simp⟩
  rw [recordOf, lookup_eq_find]
  exact Option.isSome_iff_exists.mp hsome

theorem recordOf_pushColumn (s : State) (c : Nat) (b k : BinId) : recordOf (pushColumn s c b) k =
    if k = b then (recordOf s k).map (fun r => { r with residence := .resident c (column s c).bins.length })
    else recordOf s k :=
  recordOf_setResidence (setColumn s c { column s c with bins := (column s c).bins ++ [b] }) b k _

theorem placed_column {c : Nat} (hres : s.fire.node ≠ .resuming) (hg : s.motion.gantry = .loaded)
    (hx : s.motion.xfer = some x) (hdst : x.dst = .column c ∨ x.retarget = some (.column c))
    (hin : inHand s = some r) : ∃ t, exec (.placed (.column c)) s = .next t ∧
      t.inv.columns = (pushColumn s c r.body.bin).inv.columns ∧
      ∀ b, recordOf t b = recordOf (pushColumn s c r.body.bin) b := by
  obtain ⟨hf, hrecs, hcols⟩ := placeReport_column (s := clearOut s) hg hx hin hdst
  have hl := lasting_fullEvent (fun t => placeReport t (.column c)) s (by rw [hf]; exact hres)
  exact ⟨_, rfl, (columns_of_lasting hl).trans hcols,
    fun b => recordOf_of_records ((records_of_lasting hl).trans hrecs) b⟩

theorem placed_onColumn {c : Nat} (hres : s.fire.node ≠ .resuming) (hg : s.motion.gantry = .loaded)
    (hx : s.motion.xfer = some x) (hdst : x.dst = .column c ∨ x.retarget = some (.column c))
    (hc : c < s.inv.columns.length) (hin : inHand s = some r) :
    ∃ t, exec (.placed (.column c)) s = .next t ∧
      column t c = { column s c with bins := (column s c).bins ++ [r.body.bin] } ∧
      (∀ k, k ≠ c → column t k = column s k) ∧
      residenceOf t r.body.bin = some (.resident c (column s c).bins.length) ∧
      ∀ b, b ≠ r.body.bin → recordOf t b = recordOf s b := by
  obtain ⟨t, ht, hcols, hrecs⟩ := placed_column hres hg hx hdst hin
  have hcol : ∀ k, column t k = if k = c then { column s c with bins := (column s c).bins ++ [r.body.bin] }
      else column s k := fun k => (column_of_columns hcols k).trans (column_set hc _ k)
  obtain ⟨q, hq⟩ := recordOf_inHand hin
  refine ⟨t, ht, (hcol c).trans (if_pos rfl), fun k hk => (hcol k).trans (if_neg hk), ?_, fun b hb => ?_⟩
  · rw [residenceOf, hrecs, recordOf_pushColumn, if_pos rfl, hq]
    rfl
  · rw [hrecs, recordOf_pushColumn, if_neg hb]

theorem placed_keepsDemand {c : Nat} (hres : s.fire.node ≠ .resuming) (hg : s.motion.gantry = .loaded)
    (hx : s.motion.xfer = some x) (hdst : x.dst = .column c) (hin : inHand s = some r)
    (hr : recordOf s r.body.bin = some r) :
    ∃ t q, exec (.placed (.column c)) s = .next t ∧ recordOf t r.body.bin = some q ∧ q.body = r.body := by
  obtain ⟨t, ht, _, hrecs⟩ := placed_column hres hg hx (.inl hdst) hin
  refine ⟨t, { r with residence := .resident c (column s c).bins.length }, ht, ?_, rfl⟩
  rw [hrecs, recordOf_pushColumn, if_pos rfl, hr]
  rfl

/-- A record set down on the chute by a delivery (R33, R69). -/
def delivered (r : BinRecord) : BinRecord :=
  { r with body := { r.body with demand := min 7 (r.body.demand + 1) }, residence := .atChute .outward }

theorem placed_onChute {n : Nat} (hres : s.fire.node ≠ .resuming) (hg : s.motion.gantry = .loaded)
    (hx : s.motion.xfer = some x) (ho : x.owner = some n) (hdst : x.dst = .chute)
    (hempty : s.motion.chute = .empty) (hin : inHand s = some r) (hr : recordOf s r.body.bin = some r) :
    ∃ t, exec (.placed .chute) s = .next t ∧ t.motion.chute = .outbound ∧
      recordOf t r.body.bin = some (delivered r) ∧
      (∀ b, b ≠ r.body.bin → recordOf t b = recordOf s b) ∧ t.inv.columns = s.inv.columns := by
  have ha : placeAccepted (clearOut s) x .chute = true := by
    have : (clearOut s).motion.chute = .empty := hempty
    simp [placeAccepted, hdst, this]
  have hbody : placeReport (clearOut s) .chute = placeFor (gantryIdle (clearOut s)) n .chute r.body.bin :=
    placeReport_accepted hg hx ho hin ha
  rw [placeFor_eq] at hbody
  let u := modCtx (placeAt (stepOver (clearOut s) n) n .chute r.body.bin) n stepDone
  have w := (Within.refl Scope.any u).after_afterPlace (n := n) trivial trivial (.inl trivial)
    (((ctxOf (clearOut s) n).step.map (·.kind)).getD .skipped) .chute (noticeBody (ctxOf (clearOut s) n))
  rw [← hbody] at w
  have hl := fullEvent_lasting (body := fun t => placeReport t .chute) w.lasts w.fire hres
  have hrec : ∀ b, recordOf (fullEvent (fun t => placeReport t .chute) s) b =
      if b = r.body.bin then (recordOf s b).map delivered else recordOf s b := fun b =>
    (recordOf_of_records (records_of_lasting hl) b).trans
      (recordOf_modRecord (stepOver (clearOut s) n) r.body.bin b delivered (fun _ => rfl))
  refine ⟨_, rfl, chute_of_lasting hl, ?_, fun b hb => ?_, (columns_of_lasting hl).trans rfl⟩
  · refine (hrec _).trans ?_
    rw [if_pos rfl, hr]
    rfl
  · exact (hrec b).trans (if_neg hb)

end Place

end Sys2Proof.Machine
end

section
/-! PROOFS. The end of an event that begins no step; PLACED in a slot (O35). -/

namespace Sys2Proof.Machine

open Sys2Proof

-- In turn, so that the proofs do not hold more threads at once than the memory limit has stacks for.
set_option Elab.async false

/-! ### The scheduler with nothing to choose -/

/-- In GUARD, or with no context STALLED or in a ready list, the scheduler only wakes. -/
def NoneReady (s : State) : Prop :=
  s.fire.node = .guarded ∨
    (∀ m, (ctxOf s m).state ≠ .stalled) ∧ ∀ m, ¬ ∃ l ∈ s.sched.ready, m ∈ l

theorem runSchedule_idle {s : State} (h : NoneReady s) (k : Nat) : runSchedule k s = flushWoken s := by
  cases k with
  | zero => rfl
  | succ k =>
    have w : Within Scope.waking s (flushWoken s) := (Within.refl _ s).after_flushWoken
    unfold runSchedule
    dsimp only
    split
    · rename_i hfree
      split
      · rfl
      · rename_i n hn
        exfalso
        rcases h with hg | ⟨hst, hl⟩
        · obtain ⟨hrun, _⟩ := of_decide_eq_true hfree
          rw [w.fire, hg] at hrun
          cases hrun
        · exact hl n (w.sched.listed n (fun hf => hf) (hst n) (headReady_listed hn))
    · rfl

/-- Work that names no context, and leaves the node state, leaves the scheduler nothing to choose. -/
theorem Within.noneReady {k : Scope} {s t : State} (w : Within k s t) (hk : ∀ m, ¬ k.who m)
    (h : NoneReady s) : NoneReady t := by
  rcases h with hg | ⟨hst, hl⟩
  · exact .inl (by rw [w.fire]; exact hg)
  · exact .inr ⟨fun m hm => hst m ((w.sched.state m (hk m) (hst m)).symm.trans hm),
      fun m hm => hl m (w.sched.listed m (hk m) (hst m) hm)⟩

/-! ### Resends -/

theorem resendLoaded_view {s : State} {sd e : Side} (h : (view s sd).resendOwed = false) :
    view (resendLoaded s e) sd = view s sd := by
  by_cases he : e = sd
  · subst he
    rw [resendLoaded_notOwed s e h]
  · have hother : ∀ (f : SlotView → SlotView) (u : State), view (modView u e f) sd = view u sd := fun f u => by
      rw [modView, view_setView, if_neg (fun h => he h.symm)]
    unfold resendLoaded
    split
    · unfold postWaiting
      dsimp only
      split
      · split
        · rw [postSlot, view_bumpSeq, hother, hother]
        · exact hother _ _
      · exact hother _ _
    · rfl

theorem resendAll_view {s : State} {sd : Side} (h : (view s sd).resendOwed = false) :
    view (sides.foldl resendLoaded s) sd = view s sd := by
  have h1 := resendLoaded_view (e := .west) h
  exact (resendLoaded_view (s := resendLoaded s .west) (e := .east) (by rw [h1]; exact h)).trans h1

/-! ### The event's end -/

/-- What an event's end leaves, in GUARD or RUN, with nothing for the scheduler to choose. -/
structure Rested (v t : State) : Prop where
  ctx : ∀ m, (ctxOf v m).state ≠ .stalled → ctxOf t m = ctxOf v m
  inv : t.inv = (moveOverflow v).inv
  doneQ : t.sched.doneQ = v.sched.doneQ
  loaded : ∀ sd, (view v sd).state = .loadedOut → (view v sd).resendOwed = false →
    (view t sd).state = .loadedOut ∧ (view t sd).tag = (view v sd).tag ∧
      (view t sd).loadRefused = (view v sd).loadRefused ∧ (view t sd).pend = (view v sd).pend

/-- Waking, following zones and beginning the steps that no context begins. -/
def Scope.closing : Scope := { who := fun _ => False, ends := False, steps := True, guards := True }

theorem commandPutAway_eq (s : State) : ∃ m, commandPutAway s = s.withMotion m := by
  unfold commandPutAway
  split
  · exact ⟨s.motion, rfl⟩
  · split
    · split
      · exact ⟨s.motion, rfl⟩
      · exact ⟨_, rfl⟩
    · exact ⟨s.motion, rfl⟩

theorem settle_rested {v : State} (hnode : v.fire.node = .run ∨ v.fire.node = .guarded)
    (hheld : v.motion.held = none) (hnone : NoneReady v) : Rested v (settle v) := by
  have hov : NoneReady (moveOverflow v) := by
    unfold NoneReady ctxOf
    rw [moveOverflow_fire, moveOverflow_sched]
    exact hnone
  have hheld' : (moveOverflow v).motion.held = none := by rw [moveOverflow_motion]; exact hheld
  let u := guardSides (moveOverflow v)
  have wz : Within Scope.zones (moveOverflow v) u := (Within.refl _ _).after_guardSides trivial (.inl hheld')
  obtain ⟨m, hm⟩ := commandPutAway_eq u
  have hready : NoneReady (commandPutAway u) := by
    rw [hm]
    exact wz.noneReady (fun _ h => h) hov
  have heq : settle v = sides.foldl resendLoaded (flushWoken (commandPutAway u)) := by
    rw [settle_eq v (by rcases hnode with h | h <;> simp [h]) (by rcases hnode with h | h <;> simp [h]),
      runSchedule_idle hready]
  have wc : Within Scope.closing (moveOverflow v) (settle v) := by
    rw [heq]
    exact ((((Within.refl _ _).after_guardSides trivial (.inl hheld')).after_commandPutAway
      trivial).after_flushWoken).after_resendAll trivial
  have hctx : ∀ n, ctxOf (moveOverflow v) n = ctxOf v n := fun n => by rw [ctxOf, moveOverflow_sched]; rfl
  have hview : ∀ sd, view (moveOverflow v) sd = view v sd := fun sd => by
    unfold moveOverflow
    split
    · rfl
    · split
      · rfl
      · rfl
  refine ⟨fun n hn => ?_, wc.inv (fun h => h.elim), (wc.sched.notDone (fun h => h)).trans (by rw [moveOverflow_sched]), fun sd hl hr => ?_⟩
  · refine (wc.sched.others n (fun h => h) ?_ (fun h => h.elim)).trans (hctx n)
    have := hctx n
    rw [ctxOf] at this
    rw [this]
    exact hn
  · have hv := wz.views sd
    rw [hview] at hv
    obtain ⟨h1, h2, h3, h4⟩ := hv.loaded (fun h => h) hl
    have hnot : (view u sd).resendOwed = false := by
      cases hu : (view u sd).resendOwed with
      | false => rfl
      | true => exact absurd (hv.resend hu) (by simp [hr])
    have hsame : view (settle v) sd = view u sd := by
      have hflush : view (flushWoken (commandPutAway u)) sd = view u sd := by
        rw [view_flushWoken, hm]
        cases sd <;> rfl
      rw [heq, resendAll_view (by rw [hflush]; exact hnot), hflush]
    rw [hsame]
    exact ⟨h1, h2, h3, h4⟩

theorem fullEvent_rested {body : State → State} {s v : State} (hb : body (clearOut s) = v)
    (hnode : v.fire.node = .run ∨ v.fire.node = .guarded)
    (hheld : v.motion.held = none) (hnone : NoneReady v) : Rested v (fullEvent body s) := by
  obtain ⟨hctx, hinv, hdone, hloaded⟩ := settle_rested hnode hheld hnone
  rw [fullEvent, hb]
  generalize settle v = u at hctx hinv hdone hloaded
  have e := endEvent_blocks (clearOut s) u
  refine ⟨fun m hm => ?_, e.inv.trans hinv, by rw [e.sched]; exact hdone, fun sd hl hr => ?_⟩
  · rw [ctxOf, e.sched]
    exact hctx m hm
  · have hview : view (endEvent (clearOut s) u) sd = view u sd := by
      unfold view
      rw [e.slots]
    rw [hview]
    exact hloaded sd hl hr

end Sys2Proof.Machine
end

section
/-! PROOFS. PLACED in a slot (O35). -/

namespace Sys2Proof.Machine

open Sys2Proof

-- In turn, so that the proofs do not hold more threads at once than the memory limit has stacks for.
set_option Elab.async false

/-! ### A record set down in a slot -/

/-- With one record standing at a place, setting another's residence to it makes that one the record there. -/
theorem recordAt_setResidence {s : State} {b : BinId} {p : Residence} {r : BinRecord}
    (hr : recordOf s b = some r) (hnone : recordAt s p = none) :
    recordAt (setResidence s b p) p = some { r with residence := p } := by
  have key : ∀ l : List BinRecord, l.find? (fun q => q.body.bin = b) = some r →
      l.find? (fun q => q.residence = p) = none →
      (l.map (fun q => if q.body.bin = b then { q with residence := p } else q)).find?
        (fun q => q.residence = p) = some { r with residence := p } := by
    intro l
    induction l with
    | nil => exact fun h => by cases h
    | cons q qs ih =>
      intro hf hn
      rw [List.find?_cons] at hf hn
      have hq : ¬ q.residence = p := fun h => by simp [h] at hn
      rw [List.map_cons, List.find?_cons]
      by_cases hb : q.body.bin = b
      · have hqr : q = r := by simpa [hb] using hf
        simp [hb, ← hqr]
      · simp only [hq, hb, decide_false, if_false] at hf hn ⊢
        exact ih hf hn
  refine key s.inv.records ?_ hnone
  rw [← lookup_eq_find]
  exact hr

/-- Two changes of one context are one. -/
theorem modCtx_modCtx {s : State} {n : Nat} {f g : Ctx → Ctx} (hn : n < s.sched.ctxs.length) :
    modCtx (modCtx s n f) n g = modCtx s n (fun c => g (f c)) := by
  have hctx := ctxOf_modCtx s n f
  rw [if_pos hn] at hctx
  rw [modCtx, hctx, modCtx, setCtx, setCtx, State.withSched_sched, List.set_set]
  rfl

/-- A side's view once a bin has been set down in it (R107). -/
def loadedView (v : SlotView) (b : BinId) : SlotView :=
  { v with
    state := .loadedOut, ctx := none, bin := some b, resendOwed := false, loadRefused := false,
    claimTimer := none }

/-- The job's context once its bin stands in a slot (R67). -/
def spilledStep (sd : Side) (b : BinId) (c : Ctx) : Ctx :=
  { c with
    spilled := c.spilled + 1
    reloc := if c.step.any (fun k => k.kind = .dig) then
        c.reloc ++ [{ bin := b, place := .spilled sd }]
      else c.reloc }

/-- The state in which a PLACED in a slot has taken effect, before what follows it for the job. -/
def slotPlaced (s : State) (n : Nat) (sd : Side) (b : BinId) : State :=
  modCtx (placeSlot (stepOver s n) n sd b) n stepDone

section Slot

variable {s : State} {n : Nat} {sd : Side} {r : BinRecord}

theorem placeSlot_posts (hr : recordOf s r.body.bin = some r) (hnone : recordAt s (.inSlot sd) = none)
    (hpend : (view s sd).pend = none) : placeSlot s n sd r.body.bin = modCtx (postSlot
      (modView (setResidence s r.body.bin (.inSlot sd)) sd (fun v => loadedView v r.body.bin)) sd
      (view s sd).tag (.slotLoaded r.body)) n (spilledStep sd r.body.bin) := by
  have hrec := recordAt_setResidence hr hnone
  let t := modView (setResidence s r.body.bin (.inSlot sd)) sd (fun v => loadedView v r.body.bin)
  have hview : view t sd = loadedView (view s sd) r.body.bin := by cases sd <;> rfl
  have hat : recordAt t (.inSlot sd) = some { r with residence := .inSlot sd } := by
    rw [← hrec]
    cases sd <;> rfl
  have hpost : postSlotData t sd .loaded = postSlot t sd (view s sd).tag (.slotLoaded r.body) := by
    have hp : (view t sd).pend = none := by rw [hview]; exact hpend
    have hst : (view t sd).state = .loadedOut := by rw [hview]; rfl
    have htag : (view t sd).tag = (view s sd).tag := by rw [hview]; rfl
    rw [postSlotData, hp]
    change postWaiting t sd .loaded = _
    rw [postWaiting, if_pos hst, hat, htag]
  have hdef : placeSlot s n sd r.body.bin =
      modCtx (postSlotData t sd .loaded) n (spilledStep sd r.body.bin) := rfl
  rw [hdef, hpost]

/-- What a PLACED in a slot makes of the tables, the view and the context. -/
structure SlotPlaced (s : State) (n : Nat) (sd : Side) (r : BinRecord) (u : State) : Prop where
  records : ∀ b, recordOf u b = if b = r.body.bin then some { r with residence := .inSlot sd } else recordOf s b
  columns : u.inv.columns = s.inv.columns
  fire : u.fire = s.fire
  held : u.motion.held = s.motion.held
  view : view u sd = { loadedView (view s sd) r.body.bin with
    pend := some (posted s.bus.seq
      (frameOf s 12 0 ((nbr s sd).station.getD 0) (Machine.view s sd).tag (.slotLoaded r.body))) }
  sched : u.sched = { s.sched with
    stepEnded := some n
    ctxs := s.sched.ctxs.set n (stepDone (spilledStep sd r.body.bin (ctxOf s n))) }

theorem slotPlaced_spec (hn : n < s.sched.ctxs.length) (hr : recordOf s r.body.bin = some r)
    (hnone : recordAt s (.inSlot sd) = none) (hpend : (view s sd).pend = none) :
    SlotPlaced s n sd r (slotPlaced s n sd r.body.bin) := by
  have hpend' : (view (stepOver s n) sd).pend = none := by cases sd <;> exact hpend
  have heq := placeSlot_posts (s := stepOver s n) (n := n) (sd := sd) hr hnone hpend'
  have hu : slotPlaced s n sd r.body.bin = modCtx (placeSlot (stepOver s n) n sd r.body.bin) n stepDone := rfl
  rw [heq] at hu
  rw [hu]
  refine ⟨fun b => ?_, by cases sd <;> rfl, by cases sd <;> rfl, by cases sd <;> rfl, by cases sd <;> rfl, ?_⟩
  · have hset := recordOf_setResidence (stepOver s n) r.body.bin b (.inSlot sd)
    have : recordOf (stepOver s n) b = recordOf s b := rfl
    rw [this] at hset
    have hmain : recordOf (setResidence (stepOver s n) r.body.bin (.inSlot sd)) b =
        if b = r.body.bin then some { r with residence := .inSlot sd } else recordOf s b := by
      rw [hset]
      by_cases hb : b = r.body.bin
      · rw [if_pos hb, if_pos hb, hb, hr]
        rfl
      · rw [if_neg hb, if_neg hb]
    rw [← hmain]
    cases sd <;> rfl
  · have htwice := modCtx_modCtx (s := postSlot (modView (setResidence (stepOver s n) r.body.bin (.inSlot sd)) sd
        (fun v => loadedView v r.body.bin)) sd (view (stepOver s n) sd).tag (.slotLoaded r.body))
      (f := spilledStep sd r.body.bin) (g := stepDone) (n := n) (by cases sd <;> exact hn)
    rw [htwice]
    cases sd <;> rfl

/-! ### What follows for the job -/

/-- A notice offered at a boundary changes the notices, posting numbers, and the context's own notice. -/
theorem offerNotice_eq (hn : n < s.sched.ctxs.length) (b : NoticeBody) :
    ∃ d q l o, offerNotice s n b = (s.withSched d).withBus { s.bus with seq := q } ∧
      d.ctxs = s.sched.ctxs.set n { ctxOf s n with lastNotice := l, noticeOwed := o } ∧
      d.ready = s.sched.ready ∧ d.woken = s.sched.woken ∧ d.stepEnded = s.sched.stepEnded := by
  unfold offerNotice
  dsimp only
  split
  · let t := modCtx s n (fun c => { c with lastNotice := some b })
    have htwice := modCtx_modCtx (f := fun c => { c with lastNotice := some b })
      (g := fun c => { c with noticeOwed := false }) hn
    refine ⟨(loadNotice t n b).sched, (loadNotice t n b).bus.seq, some b, false, rfl, ?_, rfl, rfl, rfl⟩
    exact congrArg (fun u => u.sched.ctxs) htwice
  · have htwice := modCtx_modCtx (f := fun c => { c with lastNotice := some b })
      (g := fun c => { c with noticeOwed := true }) hn
    rw [htwice]
    exact ⟨(modCtx s n (fun c => { c with lastNotice := some b, noticeOwed := true })).sched, s.bus.seq,
      some b, true, rfl, rfl, rfl, rfl, rfl⟩

/-- At a boundary outside RUN a context with work left is PAUSED, keeping its job (R43, R153). -/
theorem boundary_pauses {kind : StepKind} {p : Pos} (hn : n < s.sched.ctxs.length)
    (hh : (ctxOf s n).halt = false) (hw : ∃ k ∈ (ctxOf s n).targets, k.status = .waiting)
    (hrun : s.fire.node ≠ .run) :
    (ctxOf (boundary s n kind p) n) = { ctxOf s n with state := .paused, wait := none } := by
  have hdone : workDone (ctxOf s n) = false := by
    obtain ⟨k, hk, hst⟩ := hw
    have : hasTarget (ctxOf s n) .waiting = true := List.any_eq_true.mpr ⟨k, hk, by simp [hst]⟩
    simp [workDone, this]
  have heq : boundary s n kind p = pauseCtx s n := by
    unfold boundary
    dsimp only
    rw [hh, if_neg Bool.false_ne_true, hdone, if_neg Bool.false_ne_true, if_pos hrun]
  have hctx := ctxOf_modCtx (leaveList s n) n (fun c => { c with state := .paused, wait := none })
  rw [if_pos (show n < (leaveList s n).sched.ctxs.length from hn)] at hctx
  rw [heq]
  exact hctx

/-- In GUARD a FETCH whose dig ends in a slot is PAUSED. -/
theorem afterPlace_pauses {kind : StepKind} {p : Pos} {note : NoticeBody} (hn : n < s.sched.ctxs.length)
    (hk : (ctxOf s n).kind = .fetch) (ha : (ctxOf s n).state = .active) (hh : (ctxOf s n).halt = false)
    (hw : ∃ k ∈ (ctxOf s n).targets, k.status = .waiting) (hrun : s.fire.node ≠ .run) :
    (ctxOf (afterPlace s n kind p note) n).state = .paused ∧
      (ctxOf (afterPlace s n kind p note) n).spilled = (ctxOf s n).spilled ∧
      (ctxOf (afterPlace s n kind p note) n).reloc = (ctxOf s n).reloc := by
  unfold afterPlace
  rw [hk]
  dsimp only
  rw [if_pos ha]
  split
  · obtain ⟨d, q, l, o, heq, hctxs, _⟩ := offerNotice_eq hn note
    have hctx : ctxOf (offerNotice s n note) n = { ctxOf s n with lastNotice := l, noticeOwed := o } := by
      rw [heq]
      change d.ctxs.getD n Ctx.blank = _
      rw [hctxs]
      exact (ctxOf_setCtx s n n _).trans (if_pos ⟨rfl, hn⟩)
    have hlen : n < (offerNotice s n note).sched.ctxs.length := by
      rw [heq]
      change n < d.ctxs.length
      rw [hctxs, List.length_set]
      exact hn
    have hfire : (offerNotice s n note).fire = s.fire := by rw [heq]; rfl
    have hb := boundary_pauses (kind := kind) (p := p) hlen (by rw [hctx]; exact hh) (by rw [hctx]; exact hw)
      (by rw [hfire]; exact hrun)
    rw [hb, hctx]
    exact ⟨rfl, rfl, rfl⟩
  · rw [boundary_pauses hn hh hw hrun]
    exact ⟨rfl, rfl, rfl⟩

/-- The end of a STOW's or SPILL's put-away in a slot. -/
theorem afterPlace_ends {kind : StepKind} {note : NoticeBody}
    (hk : (ctxOf s n).kind = .stow ∨ (ctxOf s n).kind = .spill) :
    afterPlace s n kind (.slot sd) note = endCtx s n .complete 0 := by
  unfold afterPlace
  rcases hk with hk | hk
  · rw [hk]
  · rw [hk]

/-- Work on one context. -/
def Scope.one (n : Nat) : Scope := { who := (· = n), ends := True, steps := False, guards := False }

/-- Ending the context with nothing else ready or waiting leaves the scheduler nothing to choose. -/
theorem endCtx_noneReady {o : JobOutcome} {d : Nat} (hn : n < s.sched.ctxs.length)
    (hst : ∀ m, (ctxOf s m).state ≠ .stalled) (hl : ∀ m, ¬ ∃ l ∈ s.sched.ready, m ∈ l) :
    NoneReady (endCtx s n o d) := by
  by_cases hlive : (ctxOf s n).state ≠ .free ∧ (ctxOf s n).state ≠ .ending
  · obtain ⟨hover, hout⟩ := endCtx_over o d hn hlive (hst n)
    have w : Within (Scope.one n) s (endCtx s n o d) := (Within.refl _ _).after_endCtx rfl trivial _ _
    refine .inr ⟨fun m => ?_, fun m => ?_⟩
    · by_cases hm : m = n
      · rw [hm]
        exact hover
      · exact fun h => hst m ((w.sched.state m hm (hst m)).symm.trans h)
    · by_cases hm : m = n
      · rw [hm]
        exact hout
      · exact fun h => hl m (w.sched.listed m hm (hst m) h)
  · have heq : endCtx s n o d = s := by
      unfold endCtx
      dsimp only
      rw [if_pos (by tauto)]
    rw [heq]
    exact .inr ⟨hst, hl⟩

/-! ### The event -/

variable {x : Xfer}

/-- Beyond the table's sixteen contexts none is STALLED. -/
theorem noneStalled (hlen : s.sched.ctxs.length = 16) (h : ∀ m ∈ ctxNumbers, (ctxOf s m).state ≠ .stalled)
    (m : Nat) : (ctxOf s m).state ≠ .stalled := by
  by_cases hm : m < 16
  · exact h m (List.mem_range.mpr hm)
  · have : ctxOf s m = Ctx.blank := by
      rw [ctxOf, List.getD_eq_getElem?_getD, List.getElem?_eq_none (by omega)]
      rfl
    rw [this]
    exact CtxState.noConfusion

theorem ctxOf_slotPlaced {u : State} (hn : n < s.sched.ctxs.length) (h : SlotPlaced s n sd r u) (m : Nat) :
    ctxOf u m = if m = n then stepDone (spilledStep sd r.body.bin (ctxOf s n)) else ctxOf s m := by
  have hset := ctxOf_setCtx s n m (stepDone (spilledStep sd r.body.bin (ctxOf s n)))
  rw [ctxOf, h.sched]
  refine (show _ = _ from hset).trans ?_
  by_cases hm : m = n
  · rw [if_pos ⟨hm, hn⟩, if_pos hm]
  · rw [if_neg (fun h => hm h.1), if_neg hm]

/-- The state a PLACED in a slot leaves before its event ends. -/
theorem placed_slot_body {p : Pos} (hp : p = .slot sd) (hg : s.motion.gantry = .loaded)
    (hx : s.motion.xfer = some x) (ho : x.owner = some n)
    (hdst : x.dst = .slot sd ∨ x.retarget = some (.slot sd)) (hin : inHand s = some r) :
    placeReport s p = afterPlace (slotPlaced s n sd r.body.bin) n
      (((ctxOf s n).step.map (·.kind)).getD .skipped) (.slot sd) (noticeBody (ctxOf s n)) := by
  subst hp
  have ha : placeAccepted s x (.slot sd) = true := by
    have : Pos.slot sd = x.dst ∨ some (Pos.slot sd) = x.retarget := hdst.imp Eq.symm Eq.symm
    simp [placeAccepted, this]
  rw [placeReport_accepted hg hx ho hin ha, placeFor_eq]
  rfl

theorem placed_inSlot (hts : TablesSized s) (hn : n < 16) (hg : s.motion.gantry = .loaded)
    (hx : s.motion.xfer = some x) (hheld : s.motion.held = none) (ho : x.owner = some n)
    (hdst : x.dst = .slot sd ∨ x.retarget = some (.slot sd)) (hin : inHand s = some r)
    (hr : recordOf s r.body.bin = some r) (hnone : recordAt s (.inSlot sd) = none)
    (hpend : (view s sd).pend = none)
    (hrun : s.fire.node = .guarded ∨
      s.fire.node = .run ∧ ((ctxOf s n).kind = .stow ∨ (ctxOf s n).kind = .spill) ∧
        (∀ l ∈ s.sched.ready, l = []) ∧ ∀ m ∈ ctxNumbers, (ctxOf s m).state ≠ .stalled) :
    ∃ t, exec (.placed (.slot sd)) s = .next t ∧
      recordOf t r.body.bin = some { r with residence := .inSlot sd } ∧
      (∀ b, b ≠ r.body.bin → recordOf t b = recordOf s b) ∧ t.inv.columns = s.inv.columns ∧
      (view t sd).state = .loadedOut ∧ (view t sd).tag = (view s sd).tag ∧
      (view t sd).loadRefused = false ∧
      (view t sd).pend = some (posted s.bus.seq
        (frameOf s 12 0 ((nbr s sd).station.getD 0) (view s sd).tag (.slotLoaded r.body))) ∧
      (s.fire.node = .guarded → (ctxOf s n).kind = .fetch → (ctxOf s n).state = .active →
        (ctxOf s n).step.map (·.kind) = some .dig → (ctxOf s n).halt = false →
        (∃ k ∈ (ctxOf s n).targets, k.status = .waiting) →
        (ctxOf t n).state = .paused ∧ (ctxOf t n).spilled = (ctxOf s n).spilled + 1 ∧
          (ctxOf t n).reloc = (ctxOf s n).reloc ++ [{ bin := r.body.bin, place := .spilled sd }]) ∧
      (s.fire.node = .run → s.sched.doneQ.length < 8 → (ctxOf s n).state = .active →
        ctxOf t n = Ctx.blank ∧ ∃ e, t.sched.doneQ = s.sched.doneQ ++ [e] ∧
          e.body.outcome = .complete ∧ e.body.ctx = n ∧ e.body.delivered = 0 ∧
          e.body.spilled = (ctxOf s n).spilled + 1) := by
  have hlen : n < s.sched.ctxs.length := hts.2.1 ▸ hn
  have hbody := placed_slot_body (s := clearOut s) rfl hg hx ho hdst hin
  let u := slotPlaced (clearOut s) n sd r.body.bin
  have hu : SlotPlaced (clearOut s) n sd r u := slotPlaced_spec hlen hr hnone (by cases sd <;> exact hpend)
  let v := afterPlace u n (((ctxOf (clearOut s) n).step.map (·.kind)).getD .skipped) (.slot sd)
    (noticeBody (ctxOf (clearOut s) n))
  have hctx : ctxOf u n = stepDone (spilledStep sd r.body.bin (ctxOf s n)) :=
    (ctxOf_slotPlaced (s := clearOut s) hlen hu n).trans (if_pos rfl)
  have hkind : (ctxOf u n).kind = (ctxOf s n).kind := by rw [hctx]; rfl
  have hfire : u.fire = s.fire := hu.fire
  have hulen : n < u.sched.ctxs.length := by
    rw [hu.sched]
    change n < (s.sched.ctxs.set n _).length
    rw [List.length_set]
    exact hlen
  have w : Within Scope.ending u v := (Within.refl _ u).after_afterPlace trivial trivial
    (by rw [hfire, hkind]; rcases hrun with h | ⟨_, h, _⟩ <;> simp [h]) _ _ _
  have hnode : v.fire.node = .run ∨ v.fire.node = .guarded := by
    rw [w.fire, hfire]
    rcases hrun with h | ⟨h, _⟩ <;> simp [h]
  have hvheld : v.motion.held = none := by
    have hd := w.port.drive (fun h => h)
    simp only [Motion.drive, Prod.mk.injEq] at hd
    obtain ⟨_, _, hh, _⟩ := hd
    exact hh.trans (hu.held.trans hheld)
  have hready : NoneReady v := by
    rcases hrun with hgd | ⟨_, hk, hempty, hst⟩
    · exact .inl (by rw [w.fire, hfire]; exact hgd)
    · have heq : v = endCtx u n .complete 0 := afterPlace_ends (by rw [hkind]; exact hk)
      rw [heq]
      refine endCtx_noneReady hulen (fun m => ?_) (fun m hm => ?_)
      · rw [ctxOf_slotPlaced (s := clearOut s) hlen hu m]
        have hall := noneStalled hts.2.1 hst
        split
        · exact hall n
        · exact hall m
      · obtain ⟨l, hl, hml⟩ := hm
        rw [hu.sched] at hl
        rw [hempty l hl] at hml
        cases hml
  have hrest := fullEvent_rested (body := fun t => placeReport t (.slot sd)) (s := s) (v := v) hbody
    hnode hvheld hready
  have hl := fullEvent_lasting (body := fun t => placeReport t (.slot sd)) (s := s) (u := u)
    ((congrArg lasting hbody).trans w.lasts) ((congrArg State.fire hbody).trans (w.fire.trans hfire))
    (by rcases hrun with h | ⟨h, _⟩ <;> simp [h])
  have hrec := recordOf_of_records (records_of_lasting hl)
  have hv := w.views sd
  have huview := hu.view
  have hbefore : view (clearOut s) sd = view s sd := rfl
  rw [hbefore] at huview
  rw [huview] at hv
  obtain ⟨hst, htag, href, hpd⟩ := hv.loaded (fun h => h) rfl
  have hres : (view v sd).resendOwed = false := by
    cases hx : (view v sd).resendOwed with
    | false => rfl
    | true => exact absurd (hv.resend hx) Bool.noConfusion
  obtain ⟨hst', htag', href', hpd'⟩ := hrest.loaded sd hst hres
  refine ⟨_, rfl, ?_, fun b hb => ?_, ?_, hst', htag'.trans htag, href'.trans href, hpd'.trans hpd,
    fun hgd hk ha hdig hh hw => ?_, fun hrn hroom ha => ?_⟩
  · exact (hrec _).trans ((hu.records _).trans (if_pos rfl))
  · exact (hrec b).trans ((hu.records b).trans (if_neg hb))
  · exact (columns_of_lasting hl).trans hu.columns
  · have hany : (ctxOf s n).step.any (fun k => k.kind = .dig) = true := by
      obtain ⟨k, hk, hkd⟩ := Option.map_eq_some_iff.mp hdig
      simp [hk, hkd]
    obtain ⟨h1, h2, h3⟩ := afterPlace_pauses (s := u) (n := n)
      (kind := ((ctxOf (clearOut s) n).step.map (·.kind)).getD .skipped) (p := .slot sd)
      (note := noticeBody (ctxOf (clearOut s) n)) hulen (hkind.trans hk) (by rw [hctx]; exact ha)
      (by rw [hctx]; exact hh) (by rw [hctx]; exact hw) (by rw [hfire, hgd]; exact NodeState.noConfusion)
    have hsame := hrest.ctx n (by
      change (ctxOf v n).state = _ at h1
      rw [h1]
      exact CtxState.noConfusion)
    change (ctxOf v n).state = _ at h1
    change (ctxOf v n).spilled = _ at h2
    change (ctxOf v n).reloc = _ at h3
    refine ⟨(congrArg Ctx.state hsame).trans h1, (congrArg Ctx.spilled hsame).trans (h2.trans ?_),
      (congrArg Ctx.reloc hsame).trans (h3.trans ?_)⟩
    · rw [hctx]
      rfl
    · rw [hctx]
      exact if_pos hany
  · have hk : (ctxOf s n).kind = .stow ∨ (ctxOf s n).kind = .spill := by
      rcases hrun with h | ⟨_, h, _⟩
      · rw [hrn] at h
        cases h
      · exact h
    have heq : v = endCtx u n .complete 0 := afterPlace_ends (by rw [hkind]; exact hk)
    have hua : (ctxOf u n).state = .active := by
      rw [hctx]
      exact ha
    have hdone : u.sched.doneQ = s.sched.doneQ := by rw [hu.sched]; rfl
    obtain ⟨hblank, e, hq, hbody'⟩ := endCtx_reported (s := u) (n := n) .complete 0 hulen (by simp [hua])
      (by rw [hdone]; exact hroom)
    rw [← heq] at hblank hq
    refine ⟨(hrest.ctx n (by rw [hblank]; exact CtxState.noConfusion)).trans hblank, e,
      hrest.doneQ.trans (hq.trans (by rw [hdone])), ?_⟩
    rw [hbody']
    refine ⟨rfl, rfl, ?_, ?_⟩
    · rcases hk with hk | hk
      · simp [doneBody, hkind, hk]
      · simp [doneBody, hkind, hk]
    · change (ctxOf u n).spilled = _
      rw [hctx]
      rfl

end Slot

end Sys2Proof.Machine
end

section
/-! PROOFS. The put-away that preempts a dig at a PLACED (O35). -/

namespace Sys2Proof.Machine

open Sys2Proof

-- In turn, so that the proofs do not hold more threads at once than the memory limit has stacks for.
set_option Elab.async false

/-! ### A choice is made where one can be -/

theorem lowest_mem {l : List (Nat × Nat)} {p : Nat × Nat} (h : lowest l = some p) : p ∈ l := by
  induction l generalizing p with
  | nil => cases h
  | cons a as ih =>
    rw [lowest] at h
    split at h
    · exact List.mem_cons.mpr (.inl (Option.some.inj h).symm)
    · rename_i q hq
      split at h
      · exact List.mem_cons_of_mem _ (Option.some.inj h ▸ ih hq)
      · exact List.mem_cons.mpr (.inl (Option.some.inj h).symm)

theorem lowest_some {l : List (Nat × Nat)} (h : l ≠ []) : ∃ p, lowest l = some p := by
  cases l with
  | nil => contradiction
  | cons a as =>
    rw [lowest]
    split
    · exact ⟨_, rfl⟩
    · split
      · exact ⟨_, rfl⟩
      · exact ⟨_, rfl⟩

/-- With an eligible column there is a choice, and it is a column of the bay. -/
theorem chooseColumn_some {s : State} {who src : Option Nat} {k : Nat} (d : Nat) (ref : Pos)
    (hk : k < columnCount s) (he : eligible s who src k = true) :
    ∃ j, chooseColumn s d ref who src = some j ∧ j < columnCount s := by
  have hmem : (k, score s d ref k) ∈ ((List.range (columnCount s)).filter (eligible s who src)).map
      (fun c => (c, score s d ref c)) :=
    List.mem_map.mpr ⟨k, List.mem_filter.mpr ⟨List.mem_range.mpr hk, he⟩, rfl⟩
  obtain ⟨p, hp⟩ := lowest_some (List.ne_nil_of_mem hmem)
  obtain ⟨c, hc, rfl⟩ := List.mem_map.mp (lowest_mem hp)
  exact ⟨c, by rw [chooseColumn, choose, hp]; rfl, List.mem_range.mp (List.mem_filter.mp hc).1⟩

/-! ### The head of the highest list -/

/-- The context the scheduler would choose: the head of a list above which every list is empty. -/
theorem headReady_of_top {s : State} {i m : Nat} (hi : i < s.sched.ready.length)
    (hm : (s.sched.ready.getD i []).head? = some m)
    (habove : ∀ j, i < j → j < s.sched.ready.length → s.sched.ready.getD j [] = []) :
    headReady s = some m := by
  have hsplit : s.sched.ready = s.sched.ready.take i ++
      s.sched.ready[i] :: s.sched.ready.drop (i + 1) := by
    rw [List.getElem_cons_drop, List.take_append_drop]
  have hnone : (s.sched.ready.drop (i + 1)).reverse.findSome? (·.head?) = none := by
    rw [List.findSome?_eq_none_iff]
    intro l hl
    obtain ⟨j, hj, rfl⟩ := List.mem_iff_getElem.mp (List.mem_reverse.mp hl)
    have hlt : i + 1 + j < s.sched.ready.length := by
      rw [List.length_drop] at hj
      omega
    have := habove (i + 1 + j) (by omega) hlt
    rw [List.getD_eq_getElem _ _ hlt] at this
    rw [List.getElem_drop, this]
    rfl
  rw [List.getD_eq_getElem _ _ hi] at hm
  unfold headReady
  rw [hsplit, List.reverse_append, List.reverse_cons, List.append_assoc, List.findSome?_append, hnone]
  simp [hm]

/-! ### The dig set down and the context preempted -/

/-- The state a PLACED leaves that ends a dig and finds a context of higher level READY: the column pushed,
the gantry IDLE, and the context at the head of its list (R43). -/
structure Preempted (s : State) (n c : Nat) (b : BinId) (v : State) : Prop where
  inv : v.inv = (pushColumn s c b).inv
  fire : v.fire = s.fire
  board : v.board = s.board
  store : v.store = s.store
  slots : v.slots = s.slots
  motion : v.motion = (gantryIdle (clearOut s)).motion
  own : (ctxOf v n).state = .ready ∧ (ctxOf v n).stamp = (ctxOf s n).stamp ∧
    (ctxOf v n).lock = (ctxOf s n).lock
  others : ∀ m, m ≠ n → ctxOf v m = ctxOf s m
  length : v.sched.ctxs.length = s.sched.ctxs.length
  ready : v.sched.ready = s.sched.ready.modify ((ctxOf s n).level - 1) (fun l => n :: l)
  woken : v.sched.woken = []
  stepEnded : v.sched.stepEnded = some n

section Preempt

variable {s : State} {n c : Nat} {b : BinId}

/-- A context preempted at a boundary enters the head of its list. -/
theorem boundary_preempts {kind : StepKind} {p : Pos} (hh : (ctxOf s n).halt = false)
    (hw : ∃ k ∈ (ctxOf s n).targets, k.status = .waiting) (hrun : s.fire.node = .run)
    (hhigh : higherReady s (ctxOf s n).level = true) : boundary s n kind p = toHead s n := by
  have hdone : workDone (ctxOf s n) = false := by
    obtain ⟨k, hk, hst⟩ := hw
    have : hasTarget (ctxOf s n) .waiting = true := List.any_eq_true.mpr ⟨k, hk, by simp [hst]⟩
    simp [workDone, this]
  unfold boundary
  dsimp only
  rw [hh, if_neg Bool.false_ne_true, hdone, if_neg Bool.false_ne_true, if_neg (not_not.mpr hrun), if_pos hhigh]

/-- A context's dig that has been set down on a column. -/
def dug (c : Nat) (b : BinId) (k : Ctx) : Ctx := stepDone (placeStep c b k)

theorem dug_keeps (c : Nat) (b : BinId) (k : Ctx) : (dug c b k).state = k.state ∧ (dug c b k).stamp = k.stamp ∧
    (dug c b k).lock = k.lock ∧ (dug c b k).kind = k.kind ∧ (dug c b k).halt = k.halt ∧
    (dug c b k).level = k.level ∧ (dug c b k).notify = k.notify := by
  unfold dug placeStep
  split
  all_goals exact ⟨rfl, rfl, rfl, rfl, rfl, rfl, rfl⟩

theorem dug_targets {k : Ctx} (hd : k.step.map (·.kind) = some .dig) :
    (dug c b k).targets = k.targets ∧ (placeStep c b k).restoring = k.restoring := by
  unfold dug placeStep
  rw [hd]
  exact ⟨rfl, rfl⟩

/-- A dig set down on a column, before its boundary. -/
theorem digPlaced_eq (hn : n < s.sched.ctxs.length) (hd : (ctxOf s n).step.map (·.kind) = some .dig)
    (hr : (ctxOf s n).restoring = false) :
    modCtx (placeAt (stepOver s n) n (.column c) b) n stepDone =
      modCtx (pushColumn (stepOver s n) c b) n (dug c b) := by
  have hctx := ctxOf_modCtx (pushColumn (stepOver s n) c b) n (placeStep c b)
  rw [if_pos (show n < (pushColumn (stepOver s n) c b).sched.ctxs.length from hn)] at hctx
  have hrest : (ctxOf (modCtx (pushColumn (stepOver s n) c b) n (placeStep c b)) n).restoring = false := by
    rw [hctx]
    exact (dug_targets hd).2.trans hr
  have hplace : placeAt (stepOver s n) n (.column c) b =
      modCtx (pushColumn (stepOver s n) c b) n (placeStep c b) := by
    change restoreOver _ n = _
    unfold restoreOver
    rw [if_neg (by simp [hrest])]
  rw [hplace]
  exact modCtx_modCtx (show n < (pushColumn (stepOver s n) c b).sched.ctxs.length from hn)

/-- What a notice's offer at a boundary leaves. -/
structure Offered (u v : State) (n : Nat) : Prop where
  own : ∃ l o, ctxOf v n = { ctxOf u n with lastNotice := l, noticeOwed := o }
  others : ∀ m, m ≠ n → ctxOf v m = ctxOf u m
  length : v.sched.ctxs.length = u.sched.ctxs.length
  marks : (v.sched.ready, v.sched.woken, v.sched.stepEnded) = (u.sched.ready, u.sched.woken, u.sched.stepEnded)
  tables : (v.inv, v.fire, v.board, v.store, v.slots, v.motion) =
    (u.inv, u.fire, u.board, u.store, u.slots, u.motion)

theorem offered (hn : n < s.sched.ctxs.length) (note : NoticeBody) :
    Offered s (if (ctxOf s n).notify then offerNotice s n note else s) n := by
  split
  · obtain ⟨d, q, l, o, heq, hctxs, hr, hw, he⟩ := offerNotice_eq hn note
    have hctx : ∀ m, ctxOf (offerNotice s n note) m =
        if m = n ∧ n < s.sched.ctxs.length then { ctxOf s n with lastNotice := l, noticeOwed := o }
        else ctxOf s m := fun m => by
      rw [heq]
      change d.ctxs.getD m Ctx.blank = _
      rw [hctxs]
      exact ctxOf_setCtx s n m _
    refine ⟨⟨l, o, (hctx n).trans (if_pos ⟨rfl, hn⟩)⟩, fun m hm => (hctx m).trans (if_neg (fun h => hm h.1)),
      ?_, ?_, ?_⟩
    · rw [heq]
      change d.ctxs.length = _
      rw [hctxs, List.length_set]
    · rw [heq]
      change (d.ready, d.woken, d.stepEnded) = _
      rw [hr, hw, he]
    · rw [heq]
      rfl
  · exact ⟨⟨_, _, rfl⟩, fun _ _ => rfl, rfl, rfl, rfl⟩

theorem ctxOf_toHead (s : State) (n m : Nat) : ctxOf (toHead s n) m =
    if m = n ∧ n < s.sched.ctxs.length then { ctxOf s n with state := .ready, wait := none } else ctxOf s m :=
  ctxOf_setCtx s n m _

theorem placed_preempts {x : Xfer} {r : BinRecord} {m : Nat} (hn : n < s.sched.ctxs.length) (hm : m < 16)
    (hg : s.motion.gantry = .loaded) (hx : s.motion.xfer = some x) (ho : x.owner = some n)
    (hdst : x.dst = .column c) (hin : inHand s = some r) (hrun : s.fire.node = .run)
    (hk : (ctxOf s n).kind = .fetch) (ha : (ctxOf s n).state = .active)
    (hd : (ctxOf s n).step.map (·.kind) = some .dig) (hh : (ctxOf s n).halt = false)
    (hr : (ctxOf s n).restoring = false) (hw : ∃ j ∈ (ctxOf s n).targets, j.status = .waiting)
    (hlevel : (ctxOf s n).level < (ctxOf s m).level) (hready : (ctxOf s m).state = .ready) :
    Preempted s n c r.body.bin (placeReport (clearOut s) (.column c)) := by
  have hmn : m ≠ n := fun h => absurd hlevel (by rw [h]; exact lt_irrefl _)
  have hacc : placeAccepted (clearOut s) x (.column c) = true := by simp [placeAccepted, hdst]
  let u := modCtx (pushColumn (stepOver (clearOut s) n) c r.body.bin) n (dug c r.body.bin)
  have hlen : n < u.sched.ctxs.length := by
    change n < (s.sched.ctxs.set n _).length
    rw [List.length_set]
    exact hn
  have hctx : ∀ k, ctxOf u k = if k = n then dug c r.body.bin (ctxOf s n) else ctxOf s k := fun k => by
    refine (ctxOf_setCtx (pushColumn (stepOver (clearOut s) n) c r.body.bin) n k _).trans ?_
    by_cases hkn : k = n
    · rw [if_pos ⟨hkn, hn⟩, if_pos hkn]
      rfl
    · rw [if_neg (fun h => hkn h.1), if_neg hkn]
      rfl
  have hun := (hctx n).trans (if_pos rfl)
  obtain ⟨hst, hstamp, hlock, hkind, hhalt, hlvl, _⟩ := dug_keeps c r.body.bin (ctxOf s n)
  let note := noticeBody (ctxOf (clearOut s) n)
  have ho' := offered hlen note
  let v := if (ctxOf u n).notify then offerNotice u n note else u
  obtain ⟨⟨l, o, hown⟩, hothers, hvlen, hmarks, htables⟩ := ho'
  simp only [Prod.mk.injEq] at hmarks htables
  obtain ⟨hvready, hvwoken, hvended⟩ := hmarks
  obtain ⟨hvinv, hvfire, hvboard, hvstore, hvslots, hvmotion⟩ := htables
  change ctxOf v n = _ at hown
  have hvm : ctxOf v m = ctxOf s m := (hothers m hmn).trans ((hctx m).trans (if_neg hmn))
  have hhigh : higherReady v (ctxOf v n).level = true := by
    refine List.any_eq_true.mpr ⟨m, List.mem_range.mpr hm, decide_eq_true ⟨.inl ?_, ?_⟩⟩
    · rw [hvm]
      exact hready
    · rw [hown, hvm, hun]
      exact hlvl.symm ▸ hlevel
  have hbody : placeReport (clearOut s) (.column c) = toHead v n := by
    rw [placeReport_accepted (s := clearOut s) hg hx ho hin hacc, placeFor_eq,
      digPlaced_eq (s := clearOut s) (b := r.body.bin) hn hd hr]
    change afterPlace u n _ _ note = _
    unfold afterPlace
    rw [hun, hkind, hk]
    dsimp only
    rw [if_pos (hst.trans ha), ← hun]
    refine boundary_preempts (s := v) ?_ ?_ ?_ hhigh
    · rw [hown, hun]
      exact hhalt.trans hh
    · rw [hown, hun]
      change ∃ k ∈ (dug c r.body.bin (ctxOf s n)).targets, _
      rw [(dug_targets hd).1]
      exact hw
    · rw [show v.fire = _ from hvfire]
      exact hrun
  rw [hbody]
  have hhead := ctxOf_toHead v n
  have hvl : n < v.sched.ctxs.length := by
    rw [show v.sched.ctxs.length = _ from hvlen]
    exact hlen
  have hhn := (hhead n).trans (if_pos ⟨rfl, hvl⟩)
  refine ⟨hvinv, hvfire, hvboard, hvstore, hvslots, hvmotion, ?_, fun k hkn => ?_, ?_, ?_, hvwoken, hvended⟩
  · rw [hhn, hown, hun]
    exact ⟨rfl, hstamp, hlock⟩
  · exact (hhead k).trans ((if_neg (fun h => hkn h.1)).trans
      ((hothers k hkn).trans ((hctx k).trans (if_neg hkn))))
  · change (v.sched.ctxs.set n _).length = _
    rw [List.length_set]
    refine (show v.sched.ctxs.length = _ from hvlen).trans ?_
    change (s.sched.ctxs.set n _).length = _
    rw [List.length_set]
  · change v.sched.ready.modify ((ctxOf v n).level - 1) _ = _
    rw [show v.sched.ready = _ from hvready, hown, hun]
    change s.sched.ready.modify ((dug c r.body.bin (ctxOf s n)).level - 1) _ = _
    rw [hlvl]

end Preempt

/-! ### The put-away that takes the gantry -/

/-- A step begun for the put-away of a bin at the chute. -/
def putAwayStep (c : Ctx) : Ctx := { c with step := some { kind := .putAway, bin := none } }

/-- The put-away's transfer from the chute to a column. -/
def putAwayXfer (m j : Nat) : Xfer :=
  { src := .chute, dst := .column j, retarget := none, owner := some m, abandonSent := false, setDown := false }

section Schedule

variable {s v : State} {n m c j : Nat} {b : BinId}

/-- A STOW whose bin waits at the chute commands its put-away to the column chosen. -/
theorem stepStart_putAway (hk : (ctxOf s m).kind = .stow) (hc : (ctxOf s m).carried = some (.own b))
    (hchute : s.motion.chute ≠ .blocked) (hside : ∀ sd ∈ sides, (view s sd).ctx ≠ some m)
    (hj : chooseColumn s (demandOf s b) .chute (some m) none = some j)
    (hheld : stepHeld (modCtx s m putAwayStep) m = false) :
    stepStart s m = launch (modCtx s m putAwayStep) (putAwayXfer m j) := by
  have hgrant : grantedSide s m = none := by
    refine List.find?_eq_none.mpr (fun sd hsd => ?_)
    simp [hside sd hsd]
  unfold stepStart
  rw [hk]
  dsimp only
  unfold stowStart
  rw [if_neg hchute, hc]
  dsimp only
  unfold putAwayStart
  rw [hgrant]
  dsimp only
  rw [putAwayChoice, hj]
  dsimp only
  unfold beginTransfer
  dsimp only
  change (if stepHeld (modCtx s m putAwayStep) m = true then _ else _) = _
  rw [hheld, if_neg Bool.false_ne_true]
  rfl

theorem resendLoaded_keeps (s : State) (sd : Side) :
    (resendLoaded s sd).sched = s.sched ∧ (resendLoaded s sd).motion = s.motion := by
  unfold resendLoaded
  split
  · unfold postWaiting
    dsimp only
    split
    · split
      · cases sd <;> exact ⟨rfl, rfl⟩
      · cases sd <;> exact ⟨rfl, rfl⟩
    · cases sd <;> exact ⟨rfl, rfl⟩
  · exact ⟨rfl, rfl⟩

/-- A full event in RUN with the gantry IDLE, nothing woken and nothing of the sides to settle: the scheduler
gives the gantry to the head of the highest list, whose step commands a motion. -/
theorem settle_launches {x : Xfer} (hrun : v.fire.node = .run)
    (hsides : ∀ sd ∈ sides, (view v sd).fireClosed = false) (hover : v.inv.overflow = none)
    (hidle : v.motion.gantry = .idle) (hheld : v.motion.held = none) (hput : v.motion.putAway = none)
    (hrec : v.motion.recovery = false) (hact : activeCtx? v = none) (hwoken : v.sched.woken = [])
    (hhead : headReady v = some m)
    (hstep : stepStart (activate v m) m = launch (modCtx (activate v m) m putAwayStep) x) :
    (settle v).sched = (modCtx (activate v m) m putAwayStep).sched ∧
      (settle v).motion = (launch (modCtx (activate v m) m putAwayStep) x).motion := by
  have h1 : guardSides (moveOverflow v) = v := by
    rw [moveOverflow_none v hover]
    have hw := guardSide_run v .west hrun (hsides .west (by simp [sides]))
    have he := guardSide_run v .east hrun (hsides .east (by simp [sides]))
    simp only [guardSides, sides, List.foldl, hw, he]
  have h2 : commandPutAway v = v := by rw [commandPutAway, hput]
  let l := launch (modCtx (activate v m) m putAwayStep) x
  have h3 : runSchedule scheduleBound v = l := by
    have hfree : gantryFree v = true := by
      simp [gantryFree, hrun, hidle, hheld, hact, hput, hrec]
    change runSchedule (255 + 1) v = l
    unfold runSchedule
    dsimp only
    rw [flushWoken_none v hwoken, if_pos hfree, hhead]
    dsimp only
    rw [hstep]
    have hbusy : l.motion.gantry ≠ .idle := by
      change (if x.src = .park then GantryState.loaded else .movingEmpty) ≠ .idle
      split <;> exact GantryState.noConfusion
    rw [runSchedule_busy _ _ hbusy]
    refine flushWoken_none _ ?_
    change v.sched.woken.filter _ = []
    rw [hwoken]
    rfl
  rw [settle_eq v (by simp [hrun]) (by simp [hrun]), h1, h2, h3]
  obtain ⟨ws, wm⟩ := resendLoaded_keeps l .west
  obtain ⟨es, em⟩ := resendLoaded_keeps (resendLoaded l .west) .east
  exact ⟨es.trans ws, em.trans wm⟩

theorem ctxOf_activate (hm : m < v.sched.ctxs.length) (k : Nat) : ctxOf (activate v m) k =
    if k = m then { ctxOf v m with state := .active, wait := none } else ctxOf v k := by
  refine (ctxOf_setCtx (leaveList v m) m k _).trans ?_
  by_cases hk : k = m
  · rw [if_pos ⟨hk, hm⟩, if_pos hk]
    rfl
  · rw [if_neg (fun h => hk h.1), if_neg hk]
    rfl

theorem eligible_of_preempted {k : Nat} (hp : Preempted s n c b v) (hm : m < v.sched.ctxs.length) (hkc : k ≠ c)
    (he : eligible s (some m) none k = true) : eligible (activate v m) (some m) none k = true := by
  have hcols : (activate v m).inv.columns =
      s.inv.columns.set c { column s c with bins := (column s c).bins ++ [b] } := by
    change v.inv.columns = _
    rw [hp.inv]
    rfl
  have hcol : column (activate v m) k = column s k := by
    rw [column, hcols, List.getD_eq_getElem?_getD, List.getElem?_set_ne (Ne.symm hkc),
      ← List.getD_eq_getElem?_getD]
    rfl
  have hlock : ∀ i, i ≠ m → (ctxOf (activate v m) i).lock = (ctxOf s i).lock := fun i hi => by
    rw [ctxOf_activate hm, if_neg hi]
    by_cases hin : i = n
    · rw [hin]
      exact hp.own.2.2
    · rw [hp.others i hin]
  have hlocked : lockedBut (activate v m) (some m) k = lockedBut s (some m) k := by
    have hany : ∀ l : List Nat, l.any (fun i => some i ≠ some m ∧ (ctxOf (activate v m) i).lock = some k) =
        l.any (fun i => some i ≠ some m ∧ (ctxOf s i).lock = some k) := by
      intro l
      induction l with
      | nil => rfl
      | cons a as ih =>
        rw [List.any_cons, List.any_cons, ih]
        by_cases ha : a = m
        · simp [ha]
        · rw [hlock a ha]
    exact hany ctxNumbers
  have hcap : (activate v m).board.c = s.board.c := congrArg (fun x => x.c) hp.board
  rw [eligible, hcol, hlocked, hcap]
  exact he

theorem activeCtx_of_preempted (hp : Preempted s n c b v)
    (ha : ∀ k ∈ ctxNumbers, (ctxOf s k).state = .active → k = n) : activeCtx? v = none := by
  refine List.find?_eq_none.mpr (fun k hk => ?_)
  by_cases hkn : k = n
  · rw [hkn, hp.own.1]
    simp
  · rw [hp.others k hkn]
    exact fun h => hkn (ha k hk (of_decide_eq_true h))

theorem headReady_of_preempted (hp : Preempted s n c b v) (hlen : s.sched.ready.length = 10)
    (h1 : 1 ≤ (ctxOf s n).level) (hlevel : (ctxOf s n).level < (ctxOf s m).level)
    (h10 : (ctxOf s m).level ≤ 10) (hhead : (readyList s (ctxOf s m).level).head? = some m)
    (habove : ∀ k, (ctxOf s m).level < k → k ≤ 10 → readyList s k = []) : headReady v = some m := by
  have hget : ∀ i, i ≠ (ctxOf s n).level - 1 → v.sched.ready.getD i [] = s.sched.ready.getD i [] := fun i hi => by
    rw [hp.ready, List.getD_eq_getElem?_getD, List.getElem?_modify, List.getD_eq_getElem?_getD]
    simp [Ne.symm hi]
  have hvlen : v.sched.ready.length = 10 := by rw [hp.ready, List.length_modify, hlen]
  refine headReady_of_top (i := (ctxOf s m).level - 1) (by omega) ?_ (fun k hk hklen => ?_)
  · rw [hget _ (by omega)]
    exact hhead
  · rw [hget k (by omega)]
    have := habove (k + 1) (by omega) (by omega)
    rwa [readyList, Nat.add_sub_cancel] at this

end Schedule

theorem placed_preempted {s : State} {x : Xfer} {n m c k : Nat} {b : BinId} {r : BinRecord}
    (hts : TablesSized s) (hn : n < 16) (hm : m < 16) (hrun : s.fire.node = .run)
    (hsides : ∀ sd ∈ sides, (view s sd).fireClosed = false) (hover : s.inv.overflow = none)
    (hg : s.motion.gantry = .loaded) (hx : s.motion.xfer = some x) (hheld : s.motion.held = none)
    (hput : s.motion.putAway = none) (hrec : s.motion.recovery = false) (ho : x.owner = some n)
    (hdst : x.dst = .column c) (hin : inHand s = some r) (hk : (ctxOf s n).kind = .fetch)
    (ha : (ctxOf s n).state = .active) (hd : (ctxOf s n).step.map (·.kind) = some .dig)
    (hh : (ctxOf s n).halt = false) (hr : (ctxOf s n).restoring = false)
    (hw : ∃ j ∈ (ctxOf s n).targets, j.status = .waiting) (h1 : 1 ≤ (ctxOf s n).level)
    (hlevel : (ctxOf s n).level < (ctxOf s m).level) (h10 : (ctxOf s m).level ≤ 10)
    (hone : ∀ j ∈ ctxNumbers, (ctxOf s j).state = .active → j = n) (hready : (ctxOf s m).state = .ready)
    (hhead : (readyList s (ctxOf s m).level).head? = some m)
    (habove : ∀ j, (ctxOf s m).level < j → j ≤ 10 → readyList s j = [])
    (hmk : (ctxOf s m).kind = .stow) (hcar : (ctxOf s m).carried = some (.own b))
    (hchute : s.motion.chute ≠ .blocked) (hside : ∀ sd ∈ sides, (view s sd).ctx ≠ some m)
    (hstore : ∀ u ∈ s.store.queue, u.stepCtx ≠ some m) (hkc : k < columnCount s) (hne : k ≠ c)
    (he : eligible s (some m) none k = true) :
    ∃ t j, exec (.placed (.column c)) s = .next t ∧ (ctxOf t n).state = .ready ∧
      (ctxOf t n).stamp = (ctxOf s n).stamp ∧
      (readyList t (ctxOf s n).level).head? = some n ∧ (ctxOf t m).state = .active ∧
      t.motion.gantry = .movingEmpty ∧ t.motion.out = [.transfer .chute (.column j)] ∧
      j < columnCount s := by
  obtain ⟨_, hctxs, hlists, _⟩ := id hts
  have hmn : m ≠ n := fun h => absurd hlevel (by rw [h]; exact lt_irrefl _)
  have hp := placed_preempts (s := s) (n := n) (c := c) (m := m) (by rw [hctxs]; exact hn) hm hg hx ho hdst
    hin hrun hk ha hd hh hr hw hlevel hready
  generalize hv : placeReport (clearOut s) (.column c) = v at hp
  have hvlen : m < v.sched.ctxs.length := by rw [hp.length, hctxs]; exact hm
  obtain ⟨j, hj, hjlt⟩ := chooseColumn_some (s := activate v m) (demandOf (activate v m) b) .chute
    (k := k) (by
      change k < v.board.w * v.board.d
      rw [hp.board]
      exact hkc) (eligible_of_preempted hp hvlen hne he)
  have hjlt' : j < columnCount s := by
    change j < v.board.w * v.board.d at hjlt
    rw [hp.board] at hjlt
    exact hjlt
  have hview : ∀ sd, view v sd = view s sd := fun sd => by
    unfold view
    rw [hp.slots]
  have hactm := (ctxOf_activate hvlen m).trans (if_pos rfl)
  rw [hp.others m hmn] at hactm
  have hstep := stepStart_putAway (s := activate v m) (m := m) (j := j) (b := b) (by rw [hactm]; exact hmk)
    (by rw [hactm]; exact hcar)
    (by
      change v.motion.chute ≠ _
      rw [hp.motion]
      exact hchute)
    (fun sd hsd => by
      change (view v sd).ctx ≠ _
      rw [hview]
      exact hside sd hsd) hj
    (by
      have hq : (modCtx (activate v m) m putAwayStep).store.queue = s.store.queue :=
        congrArg Store.queue hp.store
      have hse : (modCtx (activate v m) m putAwayStep).sched.stepEnded = some n := hp.stepEnded
      have hnm : n ≠ m := fun h => hmn h.symm
      rw [stepHeld, hq, hse]
      simp [hnm]
      exact hstore)
  obtain ⟨hsched, hmotion⟩ := settle_launches (v := v) (by rw [hp.fire]; exact hrun)
    (fun sd hsd => by rw [hview]; exact hsides sd hsd) (by rw [hp.inv]; exact hover)
    (by rw [hp.motion]; rfl) (by rw [hp.motion]; exact hheld) (by rw [hp.motion]; exact hput)
    (by rw [hp.motion]; exact hrec) (activeCtx_of_preempted hp hone) hp.woken
    (headReady_of_preempted hp hlists h1 hlevel h10 hhead habove) hstep
  have e := endEvent_blocks (clearOut s) (settle v)
  have hmot := e.motion (by rw [hmotion]; rfl)
  rw [hmotion] at hmot
  have hctx : ∀ i, ctxOf (endEvent (clearOut s) (settle v)) i =
      ctxOf (modCtx (activate v m) m putAwayStep) i := fun i => by
    rw [ctxOf, e.sched, hsched]
    rfl
  have hnm : n ≠ m := fun h => hmn h.symm
  have hctxn : ctxOf (endEvent (clearOut s) (settle v)) n = ctxOf v n :=
    (hctx n).trans ((ctxOf_setCtx_ne (activate v m) _ hnm).trans ((ctxOf_activate hvlen n).trans (if_neg hnm)))
  have hctxm : (ctxOf (endEvent (clearOut s) (settle v)) m).state = .active := by
    rw [hctx m, modCtx_field (f := putAwayStep) Ctx.state _ m (fun _ => rfl), hactm]
  have hlist : (readyList (endEvent (clearOut s) (settle v)) (ctxOf s n).level).head? = some n := by
    have hlt : (ctxOf s n).level - 1 < s.sched.ready.length := by omega
    have hls : (endEvent (clearOut s) (settle v)).sched.ready =
        v.sched.ready.map (fun l => l.filter (· ≠ m)) := by
      rw [e.sched, hsched]
      rfl
    rw [readyList, hls, hp.ready, List.getD_eq_getElem?_getD, List.getElem?_map, List.getElem?_modify,
      List.getElem?_eq_getElem hlt]
    simp [hnm]
  refine ⟨endEvent (clearOut s) (settle v), j, ?_, ?_, ?_, hlist, hctxm, ?_, ?_, hjlt'⟩
  · change Host.Outcome.next (fullEvent (fun t => placeReport t (.column c)) s) = _
    rw [fullEvent, hv]
  · rw [hctxn]
    exact hp.own.1
  · rw [hctxn]
    exact hp.own.2.1
  · rw [hmot]
    rfl
  · rw [hmot]
    change v.motion.out ++ _ = _
    rw [hp.motion]
    rfl

/-- Settles O35: what a PLACED makes of the tables lasts through its event's end; the context whose bin it set
down in a slot, or whose dig it ended, is followed to that end. -/
theorem placedEndsTheCarry : Obligations.PlacedEndsTheCarry := by
  refine ⟨fun s x c r hres hg hx hdst hc hin => placed_onColumn hres hg hx hdst hc hin,
    ⟨fun s x n r hres hg hx ho hdst hempty hin hr => placed_onChute hres hg hx ho hdst hempty hin hr,
      fun s x c r hres hg hx hdst hin hr => placed_keepsDemand hres hg hx hdst hin hr⟩,
    fun s x n sd r hts hn hg hx hheld ho hdst hin hr hnone hpend hrun =>
      placed_inSlot hts hn hg hx hheld ho hdst hin hr hnone hpend hrun, ?_⟩
  intro s x n m c k b r hts hn hm hrun hsides hover hg hx hheld hput hrec ho hdst hin hk ha hd hh hr hw h1
    hlevel h10 hone _ hready hhead habove _ hmk hcar hchute hside hstore hkc hne he
  exact placed_preempted hts hn hm hrun hsides hover hg hx hheld hput hrec ho hdst hin hk ha hd hh hr hw h1
    hlevel h10 hone hready hhead habove hmk hcar hchute hside hstore hkc hne he

end Sys2Proof.Machine
end

section
/-! PROOFS. Drive recovery: RESTART in RUN and GUARD, and the hand at HOMED (O14). -/

namespace Sys2Proof.Machine

open Sys2Proof

-- In turn, so that the proofs do not hold more threads at once than the memory limit has stacks for.
set_option Elab.async false

/-! ### The drive at an event's end -/

theorem resendAll_motion (s : State) : (sides.foldl resendLoaded s).motion = s.motion :=
  (resendLoaded_keeps (resendLoaded s .west) .east).2.trans (resendLoaded_keeps s .west).2

/-- In RUN and GUARD an event's end leaves the drive where the gantry is busy, and in GUARD where no homing
put-away is pending. -/
theorem settle_drive {v : State} (hnode : v.fire.node = .run ∨ v.fire.node = .guarded)
    (hheld : v.motion.held = none)
    (hstill : v.motion.gantry ≠ .idle ∨ v.fire.node = .guarded ∧ v.motion.putAway = none) :
    (settle v).motion.drive = v.motion.drive ∧
      ((settle v).motion.recovery, (settle v).motion.power) = (v.motion.recovery, v.motion.power) := by
  let u := guardSides (moveOverflow v)
  have w : Within Scope.zones (moveOverflow v) u :=
    (Within.refl _ _).after_guardSides trivial (.inl (by rw [moveOverflow_motion]; exact hheld))
  have hd := w.port.drive (fun h => h)
  have hp := w.port.power
  have hc := w.port.chute
  rw [moveOverflow_motion] at hd hp hc
  have hcalm : commandPutAway u = u ∧ runSchedule scheduleBound u = flushWoken u := by
    rcases hstill with hg | ⟨hgd, hput⟩
    · have hbusy : u.motion.gantry ≠ .idle := by
        have := congrArg Prod.fst hd
        exact fun h => hg (this.symm.trans h)
      exact ⟨commandPutAway_busy u hbusy, runSchedule_busy _ u hbusy⟩
    · have hnone : u.motion.putAway = none := (congrArg (fun x => x.2.2) hc).trans hput
      have hguard : u.fire.node = .guarded := by rw [w.fire, moveOverflow_fire]; exact hgd
      exact ⟨by rw [commandPutAway, hnone], runSchedule_idle (.inl hguard) _⟩
  obtain ⟨h1, h2⟩ := hcalm
  have heq : (settle v).motion = u.motion := by
    rw [settle_eq v (by rcases hnode with h | h <;> simp [h]) (by rcases hnode with h | h <;> simp [h]),
      h1, h2, resendAll_motion, flushWoken_motion]
  rw [heq]
  exact ⟨hd, hp⟩

theorem fullEvent_drive {body : State → State} {s v : State} (hb : body (clearOut s) = v)
    (hnode : v.fire.node = .run ∨ v.fire.node = .guarded) (hheld : v.motion.held = none)
    (hstill : v.motion.gantry ≠ .idle ∨ v.fire.node = .guarded ∧ v.motion.putAway = none) :
    (fullEvent body s).motion.drive = v.motion.drive ∧
      ((fullEvent body s).motion.recovery, (fullEvent body s).motion.power) =
        (v.motion.recovery, v.motion.power) := by
  obtain ⟨hd, hp⟩ := settle_drive hnode hheld hstill
  rw [fullEvent, hb]
  generalize settle v = u at hd hp
  have hu : u.motion.held = none := (congrArg (fun x => x.2.2.1) hd).trans hheld
  rw [(endEvent_blocks (clearOut s) u).motion hu]
  exact ⟨hd, hp⟩

theorem releaseHeld_recovery (s : State) : (releaseHeld s).motion.recovery = s.motion.recovery :=
  congrArg Prod.fst ((Within.refl Scope.any s).after_releaseHeld trivial).port.power

theorem endEvent_recovery (was u : State) : (endEvent was u).motion.recovery = u.motion.recovery := by
  obtain ⟨b, heq, _⟩ := reportChange_keeps was u
  rw [endEvent, heq]
  unfold commit
  dsimp only
  split
  · exact releaseHeld_recovery _
  · rfl

/-- In RUN and GUARD no event's end begins or ends a drive recovery. -/
theorem fullEvent_recovery {body : State → State} {s v : State} (hb : body (clearOut s) = v)
    (hnode : v.fire.node = .run ∨ v.fire.node = .guarded) :
    (fullEvent body s).motion.recovery = v.motion.recovery := by
  have hmove : Within Scope.any v (moveOverflow v) := (Within.refl _ v).after_moveOverflow trivial
  have w : Within Scope.any v (settle v) := by
    rw [settle_eq v (by rcases hnode with h | h <;> simp [h]) (by rcases hnode with h | h <;> simp [h])]
    exact (((hmove.after_guardSides trivial (.inr (.inr ⟨fun _ => trivial, trivial⟩))).after_commandPutAway
      trivial).after_runSchedule trivial trivial (fun _ => .inl trivial) _).after_resendAll trivial
  have hr := w.port.power
  rw [Prod.mk.injEq] at hr
  rw [fullEvent, hb, endEvent_recovery, hr.1]

/-! ### RESTART -/

section Restart

variable {s : State} {h : Header}

/-- The start of a drive recovery changes the motion port alone. -/
theorem driveRecovery_eq (s : State) : ∃ m, driveRecovery s = s.withMotion m ∧ m.recovery = true ∧
    m.gantry = .homing ∧ m.power = true ∧ m.timer = some s.setup.motionTimeout ∧ m.held = s.motion.held := by
  have hopen : ∀ (t : State) (sh : ShutterId), ∃ m, sendHeldOpen t sh = t.withMotion m ∧
      m.recovery = t.motion.recovery ∧ m.power = t.motion.power ∧ m.held = t.motion.held := by
    intro t sh
    unfold sendHeldOpen
    split
    · cases sh <;> exact ⟨_, rfl, rfl, rfl, rfl⟩
    · exact ⟨t.motion, rfl, rfl, rfl, rfl⟩
  let t0 := send ((s.withMotion { s.motion with recovery := true }).withMotion
    { s.motion with recovery := true, power := true }) (.power true)
  obtain ⟨m1, h1, hr1, hp1, hh1⟩ := hopen t0 .west
  obtain ⟨m2, h2, hr2, hp2, hh2⟩ := hopen (sendHeldOpen t0 .west) .east
  obtain ⟨m3, h3, hr3, hp3, hh3⟩ := hopen (sendHeldOpen (sendHeldOpen t0 .west) .east) .chute
  have hpow : powerOn (s.withMotion { s.motion with recovery := true }) = s.withMotion m3 := by
    change sendHeldOpen (sendHeldOpen (sendHeldOpen t0 .west) .east) .chute = _
    rw [h3, h2, h1]
    rfl
  rw [h2, h1] at hr3 hp3 hh3
  rw [h1] at hr2 hp2 hh2
  refine ⟨{ m3 with gantry := .homing, out := m3.out ++ [.park true], timer := some s.setup.motionTimeout }, ?_,
    hr3.trans (hr2.trans hr1), rfl, hp3.trans (hp2.trans hp1), rfl, hh3.trans (hh2.trans hh1)⟩
  rw [driveRecovery, hpow]
  rfl

/-- The request is judged on a node state and a drive that hearing its sender leaves alone. -/
theorem restart_judged (hp : Passes s h) (hd : h.dst = s.board.station) :
    takeRestart h (heard s h) = match restartRefusal s with
      | some r => refuseAt (heard s h) 2 h r
      | none => if s.fire.node = .safe then fireRestart (heard s h) else driveRecovery (heard s h) := by
  have ha := heard_addressed hp hd
  obtain ⟨_, _, hl⟩ := id hp
  obtain ⟨w, e, heq⟩ := heard_eq s h hl
  rw [takeRestart, ha, if_neg (by simp)]
  rw [heq]
  rfl

theorem restart_refused {r : RefuseReason} (hd : h.dst = s.board.station) (hp : Passes s h)
    (hr : s.bus.replies.length < 8) (href : RestartRefused s r) :
    ∃ t q, exec (.restart h) s = .next t ∧ t.bus.replies = s.bus.replies ++ [posted q (refusal s 2 h r)] := by
  have hreason : restartRefusal s = some r := by
    unfold restartRefusal
    rcases href with ⟨rfl, hn⟩ | ⟨rfl, hn⟩ | ⟨hn, hrest⟩
    · have hn' : s.fire.node = .homing ∨ s.fire.node = .survey ∨ s.fire.node = .joining ∨
          s.fire.node = .resuming := of_decide_eq_true hn
      rcases hn' with hn | hn | hn | hn
      all_goals rw [hn]
    · rw [hn]
    · have hcase : (if s.motion.recovery then some RefuseReason.binBusy
          else if s.motion.gantry = .faulted then none else some .notSafe) = some r := by
        rcases hrest with ⟨rfl, hrec⟩ | ⟨rfl, hrec, hg⟩
        · rw [hrec, if_pos rfl]
        · rw [hrec, if_neg Bool.false_ne_true, if_neg hg]
      rcases hn with hn | hn
      · rw [hn]
        exact hcase
      · rw [hn]
        exact hcase
  have hb : takeRestart h (heard s h) = postReply (heard s h) (refusal s 2 h r) := by
    rw [restart_judged hp hd, hreason]
    exact heard_refuseAt hp hr 2 r
  exact ⟨_, (heard s h).bus.seq, rfl, receive_answered hp hb (heard_replies hp) (heard_posts hp)⟩

/-- A RESTART of a FAULTED drive in RUN or GUARD starts a recovery. -/
theorem restart_recovers (hd : h.dst = s.board.station) (hp : Passes s h)
    (hnode : s.fire.node = .run ∨ s.fire.node = .guarded) (hg : s.motion.gantry = .faulted)
    (hrec : s.motion.recovery = false) : takeRestart h (heard s h) = driveRecovery (heard s h) := by
  have hreason : restartRefusal s = none := by
    unfold restartRefusal
    rcases hnode with hn | hn
    all_goals
      rw [hn]
      dsimp only
      rw [hrec, if_neg Bool.false_ne_true, if_pos hg]
  rw [restart_judged hp hd, hreason]
  dsimp only
  rw [if_neg (by rcases hnode with hn | hn <;> simp [hn])]

/-- An event whose body leaves the node calm and wakes no context ends as it stands. -/
theorem fullEvent_still {body : State → State} {v : State} (hb : body (clearOut s) = v) (hc : Calm v)
    (hw : v.sched.woken = []) : EndedAs v (fullEvent body s) := by
  rw [fullEvent, hb, settle_calm _ hc, flushWoken_none _ hw]
  exact endEvent_blocks _ _

/-- The state a RESTART leaves that starts a recovery, before its event ends. -/
theorem restart_body (hd : h.dst = s.board.station) (hp : Passes s h)
    (hnode : s.fire.node = .run ∨ s.fire.node = .guarded) (hg : s.motion.gantry = .faulted)
    (hrec : s.motion.recovery = false) : ∃ m w e, takeRestart h (heard s h) = ((clearOut s).withBus
        { s.bus with nbWest := w, nbEast := e, counters := oneReceived s.bus.counters }).withMotion m ∧
      m.recovery = true ∧ m.gantry = .homing ∧ m.power = true ∧ m.timer = some s.setup.motionTimeout ∧
      m.held = s.motion.held := by
  obtain ⟨_, _, hl⟩ := id hp
  obtain ⟨w, e, heq⟩ := heard_eq s h hl
  obtain ⟨m, hm, h1, h2, h3, h4, h5⟩ := driveRecovery_eq (heard s h)
  rw [restart_recovers hd hp hnode hg hrec, hm]
  rw [heq] at h4 h5 ⊢
  exact ⟨m, w, e, rfl, h1, h2, h3, h4, h5⟩

theorem restart_inRun (hd : h.dst = s.board.station) (hp : Passes s h) (hc : Calm s)
    (hg : s.motion.gantry = .faulted) (hrec : s.motion.recovery = false) :
    ∃ t, exec (.restart h) s = .next t ∧ t.motion.recovery = true ∧ t.motion.gantry = .homing ∧
      t.motion.power = true ∧ t.motion.timer = some s.setup.motionTimeout ∧
      t.bus.replies = s.bus.replies ∧ t.inv = s.inv ∧ t.sched.ctxs = s.sched.ctxs := by
  obtain ⟨hrun, _, hover, hheld, hviews⟩ := id hc
  obtain ⟨m, w, e, hb, h1, h2, h3, h4, h5⟩ := restart_body hd hp (.inl hrun) hg hrec
  have hv : Calm (((clearOut s).withBus { s.bus with
      nbWest := w, nbEast := e, counters := oneReceived s.bus.counters }).withMotion m) :=
    ⟨hrun, fun hi => (by
      change m.gantry = _ at hi
      rw [h2] at hi
      cases hi), hover, h5.trans hheld, hviews⟩
  have ea := fullEvent_still (body := fun _ => takeRestart h (heard s h)) (s := s) hb hv rfl
  have hk := kept_fullEvent (fun _ => takeRestart h (heard s h)) s
  rw [← receive_eq hp] at ea hk
  have hm := ea.motion (h5.trans hheld)
  refine ⟨_, rfl, ?_, ?_, ?_, ?_, (replies_of_kept (hk.trans (congrArg kept hb))).trans rfl, ea.inv.trans rfl, ?_⟩
  · exact (congrArg Motion.recovery hm).trans h1
  · exact (congrArg Motion.gantry hm).trans h2
  · exact (congrArg Motion.power hm).trans h3
  · exact (congrArg Motion.timer hm).trans h4
  · exact (congrArg Sched.ctxs ea.sched).trans rfl

theorem restart_inGuard (hd : h.dst = s.board.station) (hp : Passes s h) (hgd : s.fire.node = .guarded)
    (hheld : s.motion.held = none) (hg : s.motion.gantry = .faulted) (hrec : s.motion.recovery = false) :
    ∃ t, exec (.restart h) s = .next t ∧ t.motion.recovery = true ∧ t.motion.gantry = .homing ∧
      t.motion.power = true ∧ t.motion.timer = some s.setup.motionTimeout ∧
      t.bus.replies = s.bus.replies ∧ t.inv.records = s.inv.records ∧ t.inv.columns = s.inv.columns := by
  obtain ⟨m, w, e, hb, h1, h2, h3, h4, h5⟩ := restart_body hd hp (.inr hgd) hg hrec
  have hbusy : m.gantry ≠ .idle := fun hi => by
    rw [h2] at hi
    cases hi
  have hdrive := fullEvent_drive (body := fun _ => takeRestart h (heard s h)) (s := s) hb (.inr hgd)
    (h5.trans hheld) (.inl hbusy)
  have hl := lasting_fullEvent (fun _ => takeRestart h (heard s h)) s
    (by rw [hb]; exact fun hr => by
          rw [show s.fire.node = _ from hr] at hgd
          cases hgd)
  rw [← receive_eq hp] at hdrive hl
  replace hl := hl.trans (congrArg lasting hb)
  simp only [Motion.drive, Prod.mk.injEq] at hdrive
  obtain ⟨⟨hga, _, _, hti⟩, hre, hpo⟩ := hdrive
  exact ⟨_, rfl, hre.trans h1, hga.trans h2, hpo.trans h3, hti.trans h4, (replies_of_lasting hl).trans rfl,
    (records_of_lasting hl).trans rfl, (columns_of_lasting hl).trans rfl⟩

end Restart

/-! ### HOMED with the hand as the records have it -/

section Homed

variable {s : State}

/-- HOMED in RUN and GUARD reconciles the hand as a drive recovery does. -/
theorem homedReport_reconciles {hand : HandReport} (hnode : s.fire.node = .run ∨ s.fire.node = .guarded)
    (hg : s.motion.gantry = .homing) : homedReport s hand = reconcileHand (gantryIdle s) hand true := by
  unfold homedReport
  rw [hg]
  dsimp only
  rcases hnode with h | h
  all_goals rw [h]

theorem reconcileHand_kept {tag : Option BinId} {r : BinRecord} (h : inHand s = some r) :
    reconcileHand s (.loaded tag) true = pendPutAway s r.body.bin tag false := by
  unfold reconcileHand
  rw [h]
  rfl

theorem reconcileHand_unknown {tag : Option BinId} (h : inHand s = none) :
    reconcileHand s (.loaded tag) true = faultGantry s := by
  unfold reconcileHand
  rw [h]

theorem reconcileHand_clear (h : inHand s = none) : reconcileHand s .empty true = endRecovery s := by
  unfold reconcileHand
  rw [h]

theorem reconcileHand_gone {r : BinRecord} {t : State} (h : inHand s = some r)
    (hgone : goneFromHand s r.body.bin = some t) :
    reconcileHand s .empty true = endRecovery (settleHand t r.body.bin none) := by
  unfold reconcileHand
  rw [h]
  dsimp only
  rw [hgone]

theorem reconcileHand_noRoom {r : BinRecord} (h : inHand s = some r)
    (hgone : goneFromHand s r.body.bin = none) : reconcileHand s .empty true = faultGantry s := by
  unfold reconcileHand
  rw [h]
  dsimp only
  rw [hgone]

theorem homed_loaded {tag : Option BinId} {r : BinRecord} (hrun : s.fire.node = .run)
    (hg : s.motion.gantry = .homing) (hin : inHand s = some r) (hr : recordOf s r.body.bin = some r) :
    ∃ t, exec (.homed (.loaded tag)) s = .next t ∧ t.motion.putAway = some r.body.bin ∧
      recordOf t r.body.bin = some { r with
        body := { r.body with suspectTag := r.body.suspectTag || decide (tag ≠ some r.body.bin) } } ∧
      t.inv.columns = s.inv.columns := by
  have hb : homedReport (clearOut s) (.loaded tag) =
      pendPutAway (gantryIdle (clearOut s)) r.body.bin tag false := by
    rw [homedReport_reconciles (s := clearOut s) (.inl hrun) hg]
    exact reconcileHand_kept (s := gantryIdle (clearOut s)) hin
  have hpend : pendPutAway (gantryIdle (clearOut s)) r.body.bin tag false =
      ((if tag = some r.body.bin then gantryIdle (clearOut s)
        else markTag (gantryIdle (clearOut s)) r.body.bin).withMotion
        { (gantryIdle (clearOut s)).motion with putAway := some r.body.bin, putAwayWaits := false }) := by
    unfold pendPutAway
    dsimp only
    split
    · rfl
    · rfl
  rw [hpend] at hb
  have hl := fullEvent_lasting (body := fun t => homedReport t (.loaded tag)) (s := s) (congrArg lasting hb)
    (by rw [hb]; split <;> rfl) (by simp [hrun])
  refine ⟨_, rfl, putAway_of_lasting hl, (recordOf_of_records (records_of_lasting hl) _).trans ?_,
    (columns_of_lasting hl).trans ?_⟩
  · split
    · rename_i ht
      simp only [ht, ne_eq, not_true, decide_false, Bool.or_false]
      exact hr
    · rename_i ht
      have hm := recordOf_modRecord (gantryIdle (clearOut s)) r.body.bin r.body.bin
        (fun q => { q with body := { q.body with suspectTag := true } }) (fun _ => rfl)
      rw [if_pos rfl, show recordOf (gantryIdle (clearOut s)) r.body.bin = some r from hr] at hm
      simp only [ht, ne_eq, not_false_eq_true, decide_true, Bool.or_true]
      exact hm
  · split
    · rfl
    · rfl

theorem homed_loadedNone {tag : Option BinId} (hc : Calm s) (hg : s.motion.gantry = .homing)
    (hin : inHand s = none) : ∃ t, exec (.homed (.loaded tag)) s = .next t ∧ t.motion.gantry = .faulted ∧
      t.motion.recovery = false ∧ t.inv = s.inv := by
  obtain ⟨hrun, _, hover, _, hviews⟩ := id hc
  have hb : homedReport (clearOut s) (.loaded tag) = faultGantry (gantryIdle (clearOut s)) := by
    rw [homedReport_reconciles (s := clearOut s) (.inl hrun) hg]
    exact reconcileHand_unknown (s := gantryIdle (clearOut s)) hin
  have hv : Calm (faultGantry (gantryIdle (clearOut s))) :=
    ⟨hrun, GantryState.noConfusion, hover, rfl, hviews⟩
  have ea := fullEvent_still (body := fun t => homedReport t (.loaded tag)) (s := s) hb hv rfl
  have hm := ea.motion rfl
  exact ⟨_, rfl, (congrArg Motion.gantry hm).trans rfl, (congrArg Motion.recovery hm).trans rfl,
    ea.inv.trans rfl⟩

theorem homed_emptyNone (hrun : s.fire.node = .run) (hg : s.motion.gantry = .homing) (hin : inHand s = none) :
    ∃ t, exec (.homed .empty) s = .next t ∧ t.motion.putAway = none ∧ t.motion.recovery = false ∧
      t.inv.records = s.inv.records ∧ t.inv.columns = s.inv.columns := by
  have hb : homedReport (clearOut s) .empty = endRecovery (gantryIdle (clearOut s)) := by
    rw [homedReport_reconciles (s := clearOut s) (.inl hrun) hg]
    exact reconcileHand_clear (s := gantryIdle (clearOut s)) hin
  have hl := fullEvent_lasting (body := fun t => homedReport t .empty) (s := s) (congrArg lasting hb)
    (by rw [hb]; rfl) (by simp [hrun])
  have hrec := fullEvent_recovery (body := fun t => homedReport t .empty) (s := s) hb (.inl hrun)
  exact ⟨_, rfl, (putAway_of_lasting hl).trans rfl, hrec.trans rfl, (records_of_lasting hl).trans rfl,
    (columns_of_lasting hl).trans rfl⟩

end Homed

end Sys2Proof.Machine
end

section
/-! PROOFS. HOMED EMPTY with a record in hand (O14). -/

namespace Sys2Proof.Machine

open Sys2Proof

-- In turn, so that the proofs do not hold more threads at once than the memory limit has stacks for.
set_option Elab.async false

/-! ### The record that leaves the hand -/

/-- Whether the context whose step has a bin in hand holds a reservation for it. -/
abbrev HandReserved (s : State) (b : BinId) : Prop := ∃ n, jobOf s b = some n ∧ (ctxOf s n).reserved = true

/-- What a record's leaving the hand makes of the state (R19, R134). -/
structure Gone (s : State) (b : BinId) (t : State) : Prop where
  records : ∀ k, recordOf t k =
    if k = b then (recordOf s k).map (fun r => { r with residence := .away }) else recordOf s k
  columns : t.inv.columns = s.inv.columns
  away : awayLine t = s.inv.away ++ [{ bin := b, winner := none }] ++
    (s.inv.overflow.map (fun b => { bin := b, winner := none })).toList
  fire : t.fire = s.fire
  motion : t.motion = s.motion
  length : t.sched.ctxs.length = s.sched.ctxs.length
  doneQ : t.sched.doneQ = s.sched.doneQ
  ctx : ∀ n, ∃ e, ctxOf t n = { ctxOf s n with reserved := e }
  overflow : ¬ HandReserved s b → 32 ≤ awayTotal s → t.inv.overflow = some b ∧ awayTotal t = awayTotal s

theorem goneFromHand_none {s : State} {b : BinId} (hr : ¬ HandReserved s b) (ha : 32 ≤ awayTotal s)
    (ho : s.inv.overflow.isSome) : goneFromHand s b = none := by
  have hf : (jobOf s b).filter (fun n => (ctxOf s n).reserved) = none := by
    rw [Option.filter_eq_none_iff]
    exact fun n hn h => hr ⟨n, hn, h⟩
  unfold goneFromHand
  rw [hf]
  dsimp only
  rw [if_neg (by omega), if_neg (by simp [Option.isSome_iff_ne_none.mp ho])]

theorem goneFromHand_gone {s : State} {b : BinId}
    (h : HandReserved s b ∨ awayTotal s < 32 ∨ s.inv.overflow = none) :
    ∃ t, goneFromHand s b = some t ∧ Gone s b t := by
  have hset : ∀ u : State, u.inv = s.inv → ∀ k, recordOf (setResidence u b .away) k =
      if k = b then (recordOf s k).map (fun r => { r with residence := .away }) else recordOf s k := by
    intro u hu k
    rw [recordOf_setResidence, recordOf_of_records (congrArg Image.records hu)]
  unfold goneFromHand
  cases hf : (jobOf s b).filter (fun n => (ctxOf s n).reserved) with
  | some n =>
    obtain ⟨hj, hr⟩ := Option.filter_eq_some_iff.mp hf
    refine ⟨_, rfl, hset (modCtx s n (fun c => { c with reserved := false })) rfl, rfl, rfl, rfl, rfl,
      List.length_set, rfl, fun m => ?_, fun hnot => absurd ⟨n, hj, hr⟩ hnot⟩
    have hctx := ctxOf_setCtx s n m { ctxOf s n with reserved := false }
    by_cases hm : m = n ∧ n < s.sched.ctxs.length
    · rw [if_pos hm] at hctx
      rw [hm.1]
      exact ⟨false, by rw [← hm.1] at hctx ⊢; exact hctx⟩
    · rw [if_neg hm] at hctx
      exact ⟨_, hctx⟩
  | none =>
    have hnot : ¬ HandReserved s b := by
      rintro ⟨n, hj, hr⟩
      rw [hj, Option.filter_some, if_pos hr] at hf
      cases hf
    dsimp only
    split
    · refine ⟨_, rfl, hset s rfl, rfl, rfl, rfl, rfl, rfl, rfl, fun m => ⟨_, rfl⟩, fun _ ha => ?_⟩
      omega
    · rename_i hfull
      have ho : s.inv.overflow = none := (h.resolve_left hnot).resolve_left hfull
      rw [ho]
      refine ⟨setResidence (s.withInv { s.inv with overflow := some b }) b .away, rfl, fun k => ?_, rfl, ?_,
        rfl, rfl, rfl, rfl, fun m => ⟨_, rfl⟩, fun _ _ => ⟨rfl, rfl⟩⟩
      · exact recordOf_setResidence (s.withInv { s.inv with overflow := some b }) b k .away
      · rw [ho]
        simp [awayLine, setResidence, modRecord]

/-! ### The job whose bin it was -/

section Job

variable {s : State} {n : Nat} {b : BinId}

/-- The context of a job once its step is over, in the event that ended it. -/
def jobOver (s : State) (n : Nat) : State :=
  modCtx (s.withSched { s.sched with stepEnded := some n }) n stepDone

theorem ctxOf_jobOver (hn : n < s.sched.ctxs.length) : ctxOf (jobOver s n) n = stepDone (ctxOf s n) :=
  (ctxOf_modCtx (s.withSched { s.sched with stepEnded := some n }) n stepDone).trans (if_pos hn)

theorem settleJob_ends (hn : n < s.sched.ctxs.length)
    (hk : (ctxOf s n).kind = .stow ∨ (ctxOf s n).kind = .spill ∨ (ctxOf s n).kind = .reclaim) :
    settleJob s n none = endCtx (jobOver s n) n .positionFault 0 := by
  have hkind : (ctxOf (jobOver s n) n).kind = (ctxOf s n).kind := by rw [ctxOf_jobOver hn]; rfl
  unfold settleJob
  dsimp only
  change (match (ctxOf (jobOver s n) n).kind with | .stow | .spill | .reclaim => _ | .fetch | .verify => _) = _
  rw [hkind]
  rcases hk with hk | hk | hk
  all_goals
    rw [hk]
    rfl

/-- A dug bin that is gone costs the restore its completeness (R76). -/
def restoreCut (c : Ctx) : Ctx := { c with restorePartial := c.restorePartial || c.restore }

theorem settleJob_dig (hn : n < s.sched.ctxs.length)
    (hk : (ctxOf s n).kind = .fetch ∨ (ctxOf s n).kind = .verify)
    (hd : (ctxOf s n).step.map (·.kind) = some .dig) :
    settleJob s n none = modCtx (jobOver s n) n restoreCut := by
  have hkind : (ctxOf (jobOver s n) n).kind = (ctxOf s n).kind := by rw [ctxOf_jobOver hn]; rfl
  unfold settleJob
  rw [hd]
  dsimp only
  change (match (ctxOf (jobOver s n) n).kind with | .stow | .spill | .reclaim => _ | .fetch | .verify => _) = _
  rw [hkind]
  rcases hk with hk | hk
  all_goals
    rw [hk]
    rfl

theorem endRecovery_within (s : State) : Within Scope.waking
    (s.withMotion { s.motion with putAway := none, putAwayWaits := false, recovery := false })
    (endRecovery s) := (Within.refl _ _).after_wakeOn _

end Job

/-! ### The event -/

section Event

variable {s : State} {r : BinRecord}

/-- The state a HOMED EMPTY leaves with a record in hand, before its event ends. -/
structure Homed (s : State) (r : BinRecord) (t v : State) : Prop where
  gone : Gone (gantryIdle (clearOut s)) r.body.bin t
  body : homedReport (clearOut s) .empty = v
  recovered : v = endRecovery (settleHand t r.body.bin none)
  work : Within Scope.ending t (settleHand t r.body.bin none)

theorem homed_empties (hnode : s.fire.node = .run ∨ s.fire.node = .guarded) (hg : s.motion.gantry = .homing)
    (hin : inHand s = some r)
    (hroom : HandReserved s r.body.bin ∨ awayTotal s < 32 ∨ s.inv.overflow = none) :
    ∃ t v, Homed s r t v := by
  obtain ⟨t, hgone, ht⟩ := goneFromHand_gone (s := gantryIdle (clearOut s)) (b := r.body.bin) hroom
  have hb : homedReport (clearOut s) .empty = endRecovery (settleHand t r.body.bin none) := by
    rw [homedReport_reconciles (s := clearOut s) hnode hg]
    exact reconcileHand_gone (s := gantryIdle (clearOut s)) hin hgone
  exact ⟨t, _, ht, hb, rfl, (Within.refl _ t).after_settleHand (fun _ => trivial) trivial _ _⟩

/-- What holds of it in RUN and in GUARD. -/
theorem Homed.tables {t v : State} (h : Homed s r t v) :
    (∀ k, recordOf v k = if k = r.body.bin
      then (recordOf s k).map (fun q => { q with residence := .away }) else recordOf s k) ∧
    v.inv.columns = s.inv.columns ∧
    awayLine v = s.inv.away ++ [{ bin := r.body.bin, winner := none }] ++
      (s.inv.overflow.map (fun b => { bin := b, winner := none })).toList ∧
    v.motion.putAway = none ∧ v.motion.recovery = false ∧ v.motion.gantry = .idle ∧
    v.motion.held = s.motion.held ∧ v.fire = s.fire := by
  obtain ⟨hgone, _, rfl, w⟩ := h
  have we := endRecovery_within (settleHand t r.body.bin none)
  have hd := we.port.drive (fun h => h)
  have hd' := w.port.drive (fun h => h)
  have hp := we.port.power
  simp only [Motion.drive, Prod.mk.injEq] at hd hd' hp
  obtain ⟨hga, _, hhe, _⟩ := hd
  obtain ⟨hga', _, hhe', _⟩ := hd'
  have hmot := hgone.motion
  refine ⟨fun k => ?_, ?_, ?_, putAway_of_lasting we.lasts, hp.1, ?_, ?_, we.fire.trans (w.fire.trans hgone.fire)⟩
  · exact (recordOf_of_records (records_of_lasting we.lasts) k).trans
      ((recordOf_of_records (records_of_lasting w.lasts) k).trans (hgone.records k))
  · exact (columns_of_lasting we.lasts).trans ((columns_of_lasting w.lasts).trans hgone.columns)
  · exact (awayLine_of_lasting we.lasts).trans ((awayLine_of_lasting w.lasts).trans hgone.away)
  · exact hga.trans (hga'.trans (congrArg Motion.gantry hmot))
  · exact hhe.trans (hhe'.trans ((congrArg Motion.held hmot).trans rfl))

/-- In GUARD nothing but following the zones moves after the body: the context of the job, and the
completion queue, are as the body leaves them. -/
theorem Homed.rested {t v : State} (h : Homed s r t v) (hgd : s.fire.node = .guarded)
    (hheld : s.motion.held = none) : Rested v (fullEvent (fun u => homedReport u .empty) s) := by
  obtain ⟨_, _, _, _, _, _, hh, hf⟩ := h.tables
  have hn : v.fire.node = .guarded := by rw [hf]; exact hgd
  exact fullEvent_rested h.body (.inr hn) (hh.trans hheld) (.inl hn)

theorem Gone.ctx_state {b : BinId} {t : State} (h : Gone s b t) (n : Nat) :
    (ctxOf t n).state = (ctxOf s n).state ∧ (ctxOf t n).kind = (ctxOf s n).kind ∧
      (ctxOf t n).step = (ctxOf s n).step ∧ (ctxOf t n).restore = (ctxOf s n).restore := by
  obtain ⟨e, he⟩ := h.ctx n
  rw [he]
  exact ⟨rfl, rfl, rfl, rfl⟩

/-- The job of a bin is the same once the bin has left the hand. -/
theorem Gone.jobOf {b c : BinId} {t : State} (h : Gone s b t) : Machine.jobOf t c = Machine.jobOf s c := by
  unfold Machine.jobOf
  have hstep : ∀ n, (ctxOf t n).step = (ctxOf s n).step := fun n => (h.ctx_state n).2.2.1
  simp only [hstep]

theorem jobOf_lt {b : BinId} {n : Nat} (h : jobOf s b = some n) : n < 16 :=
  List.mem_range.mp (List.mem_of_find?_eq_some h)

/-- The context of the job that the recovery settles, in GUARD: what the body leaves of it lasts. -/
theorem Homed.job {t v : State} {n : Nat} (h : Homed s r t v) (hj : jobOf s r.body.bin = some n) :
    v = endRecovery (settleJob t n none) := by
  have hj' : jobOf t r.body.bin = some n := (h.gone.jobOf).trans hj
  rw [h.recovered, settleHand, hj']

theorem endRecovery_ctx {u : State} {n : Nat} (hst : (ctxOf u n).state ≠ .stalled) :
    ctxOf (endRecovery u) n = ctxOf u n ∧ (endRecovery u).sched.doneQ = u.sched.doneQ := by
  have w := endRecovery_within u
  exact ⟨w.sched.others n (fun h => h) hst (fun h => h.elim), w.sched.notDone (fun h => h)⟩

theorem Homed.jobEnds {t v : State} {n : Nat} (h : Homed s r t v) (hts : TablesSized s)
    (hgd : s.fire.node = .guarded) (hheld : s.motion.held = none) (hj : jobOf s r.body.bin = some n)
    (hst : (ctxOf s n).state = .paused)
    (hk : (ctxOf s n).kind = .stow ∨ (ctxOf s n).kind = .spill ∨ (ctxOf s n).kind = .reclaim)
    (hroom : s.sched.doneQ.length < 8) :
    ctxOf (fullEvent (fun u => homedReport u .empty) s) n = Ctx.blank ∧
      ∃ e ∈ (fullEvent (fun u => homedReport u .empty) s).sched.doneQ, e.body.outcome = .positionFault ∧
        e.body.ctx = n ∧ e.body.delivered = 0 := by
  obtain ⟨hst', hk', _, _⟩ := h.gone.ctx_state n
  have hst0 : (ctxOf t n).state = .paused := hst'.trans hst
  have hk0 : (ctxOf t n).kind = (ctxOf s n).kind := hk'
  have hn : n < t.sched.ctxs.length := by
    rw [h.gone.length]
    exact hts.2.1 ▸ jobOf_lt hj
  have hover := ctxOf_jobOver hn
  have hn' : n < (jobOver t n).sched.ctxs.length := by
    change n < (t.sched.ctxs.set n _).length
    rw [List.length_set]
    exact hn
  have hdone : (jobOver t n).sched.doneQ = s.sched.doneQ := h.gone.doneQ
  obtain ⟨hblank, e, hq, hbody⟩ := endCtx_reported (s := jobOver t n) .positionFault 0 hn'
    (by
      rw [hover]
      change (ctxOf t n).state ≠ _ ∧ (ctxOf t n).state ≠ _
      rw [hst0]
      exact ⟨CtxState.noConfusion, CtxState.noConfusion⟩) (by rw [hdone]; exact hroom)
  rw [← settleJob_ends hn (by rw [hk0]; exact hk)] at hblank hq
  have hv := h.job hj
  obtain ⟨hctx, hdq⟩ := endRecovery_ctx (u := settleJob t n none) (n := n)
    (by rw [hblank]; exact CtxState.noConfusion)
  rw [← hv] at hctx hdq
  have hrest := h.rested hgd hheld
  have hvb : ctxOf v n = Ctx.blank := hctx.trans hblank
  refine ⟨(hrest.ctx n (by rw [hvb]; exact CtxState.noConfusion)).trans hvb, e, ?_, ?_⟩
  · rw [hrest.doneQ, hdq, hq]
    exact List.mem_append_right _ (List.mem_singleton.mpr rfl)
  · rw [hbody, hover]
    refine ⟨rfl, rfl, ?_⟩
    have hkind : (stepDone (ctxOf t n)).kind = (ctxOf s n).kind := hk0
    rcases hk with hk | hk | hk <;> simp [doneBody, hkind, hk]

theorem Homed.jobCut {t v : State} {n : Nat} (h : Homed s r t v) (hts : TablesSized s)
    (hgd : s.fire.node = .guarded) (hheld : s.motion.held = none) (hj : jobOf s r.body.bin = some n)
    (hst : (ctxOf s n).state = .paused) (hk : (ctxOf s n).kind = .fetch ∨ (ctxOf s n).kind = .verify)
    (hd : (ctxOf s n).step.map (·.kind) = some .dig) (hr : (ctxOf s n).restore = true) :
    (ctxOf (fullEvent (fun u => homedReport u .empty) s) n).restorePartial = true := by
  obtain ⟨hst', hk', hstep', hrestore'⟩ := h.gone.ctx_state n
  have hn : n < t.sched.ctxs.length := by
    rw [h.gone.length]
    exact hts.2.1 ▸ jobOf_lt hj
  have hn' : n < (jobOver t n).sched.ctxs.length := by
    change n < (t.sched.ctxs.set n _).length
    rw [List.length_set]
    exact hn
  have hdig : settleJob t n none = modCtx (jobOver t n) n restoreCut :=
    settleJob_dig hn (by rw [hk']; exact hk) (by rw [hstep']; exact hd)
  have hu : ctxOf (settleJob t n none) n = restoreCut (stepDone (ctxOf t n)) := by
    rw [hdig, ctxOf_modCtx, if_pos hn', ctxOf_jobOver hn]
  have hust : (ctxOf (settleJob t n none) n).state = .paused := by
    rw [hu]
    exact hst'.trans hst
  have hv := h.job hj
  obtain ⟨hctx, _⟩ := endRecovery_ctx (u := settleJob t n none) (n := n)
    (by rw [hust]; exact CtxState.noConfusion)
  rw [← hv] at hctx
  rw [(h.rested hgd hheld).ctx n (by rw [hctx, hust]; exact CtxState.noConfusion), hctx, hu]
  change ((ctxOf t n).restorePartial || (ctxOf t n).restore) = true
  rw [hrestore', show (ctxOf (gantryIdle (clearOut s)) n).restore = true from hr, Bool.or_true]

/-- With no job for the bin and no entry for it, the record stands in the overflow place. -/
theorem Homed.overflows {t v : State} (h : Homed s r t v) (hgd : s.fire.node = .guarded)
    (hheld : s.motion.held = none) (hres : ¬ HandReserved s r.body.bin) (ha : 32 ≤ awayTotal s)
    (hj : jobOf s r.body.bin = none) :
    (fullEvent (fun u => homedReport u .empty) s).inv.overflow = some r.body.bin := by
  obtain ⟨hover, htotal⟩ := h.gone.overflow hres ha
  have hj' : jobOf t r.body.bin = none := (h.gone.jobOf).trans hj
  have hv : v = endRecovery t := by rw [h.recovered, settleHand, hj']
  have hvo : v.inv.overflow = some r.body.bin := by
    rw [hv]
    exact hover
  have hstay : moveOverflow v = v := by
    have hfull : ¬ awayTotal v < 32 := by
      have : awayTotal v = awayTotal t := by rw [hv]; rfl
      rw [this, htotal]
      exact Nat.not_lt.mpr ha
    unfold moveOverflow
    rw [hvo]
    dsimp only
    rw [if_neg hfull]
  rw [(h.rested hgd hheld).inv, hstay, hvo]

theorem homed_gone (hnode : s.fire.node = .run ∨ s.fire.node = .guarded) (hts : TablesSized s)
    (hheld : s.motion.held = none) (hg : s.motion.gantry = .homing) (hin : inHand s = some r)
    (hr : recordOf s r.body.bin = some r)
    (hroom : HandReserved s r.body.bin ∨ awayTotal s < 32 ∨ s.inv.overflow = none) :
    ∃ t, exec (.homed .empty) s = .next t ∧
      recordOf t r.body.bin = some { r with residence := .away } ∧
      (∀ k, k ≠ r.body.bin → recordOf t k = recordOf s k) ∧ t.inv.columns = s.inv.columns ∧
      awayLine t = s.inv.away ++ [{ bin := r.body.bin, winner := none }] ++
        (s.inv.overflow.map (fun b => { bin := b, winner := none })).toList ∧ t.motion.putAway = none ∧
      t.motion.recovery = false ∧
      (s.fire.node = .guarded → t.motion.gantry = .idle ∧
        (¬ HandReserved s r.body.bin → 32 ≤ awayTotal s → jobOf s r.body.bin = none →
          t.inv.overflow = some r.body.bin) ∧
        ∀ n, jobOf s r.body.bin = some n → (ctxOf s n).state = .paused →
          ((ctxOf s n).kind = .stow ∨ (ctxOf s n).kind = .spill ∨ (ctxOf s n).kind = .reclaim →
            s.sched.doneQ.length < 8 →
            ctxOf t n = Ctx.blank ∧ ∃ e ∈ t.sched.doneQ, e.body.outcome = .positionFault ∧
              e.body.ctx = n ∧ e.body.delivered = 0) ∧
          ((ctxOf s n).kind = .fetch ∨ (ctxOf s n).kind = .verify →
            (ctxOf s n).step.map (·.kind) = some .dig → (ctxOf s n).restore = true →
            (ctxOf t n).restorePartial = true)) := by
  obtain ⟨t, v, h⟩ := homed_empties hnode hg hin hroom
  obtain ⟨hrecs, hcols, haway, hput, hrec, hidle, hh, hf⟩ := h.tables
  have hvnode : v.fire.node = .run ∨ v.fire.node = .guarded := by rw [hf]; exact hnode
  have hl := fullEvent_lasting (body := fun u => homedReport u .empty) (s := s) (congrArg lasting h.body)
    ((congrArg State.fire h.body).trans hf) (by rcases hnode with h | h <;> simp [h])
  have hrecovery := fullEvent_recovery (body := fun u => homedReport u .empty) (s := s) h.body hvnode
  have hrec' := recordOf_of_records (records_of_lasting hl)
  refine ⟨_, rfl, ?_, fun k hk => ?_, (columns_of_lasting hl).trans hcols, (awayLine_of_lasting hl).trans haway,
    (putAway_of_lasting hl).trans hput, hrecovery.trans hrec, fun hgd => ⟨?_, fun hres ha hj => ?_,
      fun n hj hst => ⟨fun hk hdone => ?_, fun hk hd hre => ?_⟩⟩⟩
  · exact (hrec' _).trans ((hrecs _).trans (by rw [if_pos rfl, hr]; rfl))
  · exact (hrec' k).trans ((hrecs k).trans (if_neg hk))
  · obtain ⟨hd, _⟩ := fullEvent_drive (body := fun u => homedReport u .empty) (s := s) h.body hvnode
      (hh.trans hheld) (.inr ⟨by rw [hf]; exact hgd, hput⟩)
    simp only [Motion.drive, Prod.mk.injEq] at hd
    exact hd.1.trans hidle
  · exact h.overflows hgd hheld hres ha hj
  · exact h.jobEnds hts hgd hheld hj hst hk hdone
  · exact h.jobCut hts hgd hheld hj hst hk hd hre

theorem homed_noRoom (hnode : s.fire.node = .run ∨ s.fire.node = .guarded)
    (hg : s.motion.gantry = .homing) (hin : inHand s = some r) (hr : recordOf s r.body.bin = some r)
    (hres : ¬ HandReserved s r.body.bin) (ha : 32 ≤ awayTotal s) (ho : s.inv.overflow.isSome) :
    ∃ t, exec (.homed .empty) s = .next t ∧ recordOf t r.body.bin = some r ∧
      awayLine t = awayLine s ∧ t.motion.gantry = .faulted ∧ t.motion.recovery = false ∧
      t.inv.columns = s.inv.columns := by
  have hb : homedReport (clearOut s) .empty = faultGantry (gantryIdle (clearOut s)) := by
    rw [homedReport_reconciles (s := clearOut s) hnode hg]
    exact reconcileHand_noRoom (s := gantryIdle (clearOut s)) hin (goneFromHand_none hres ha ho)
  have hl := fullEvent_lasting (body := fun u => homedReport u .empty) (s := s) (congrArg lasting hb)
    (by rw [hb]; rfl) (by rcases hnode with h | h <;> simp [h])
  have hd := fullEvent_drive (body := fun u => homedReport u .empty) (s := s) hb hnode rfl
    (.inl GantryState.noConfusion)
  simp only [Motion.drive, Prod.mk.injEq] at hd
  obtain ⟨⟨hga, _⟩, hre, _⟩ := hd
  exact ⟨_, rfl, (recordOf_of_records (records_of_lasting hl) _).trans hr, (awayLine_of_lasting hl).trans rfl,
    hga.trans rfl, hre.trans rfl, (columns_of_lasting hl).trans rfl⟩

end Event

/-- Settles O14: RESTART's judgement and start, and the hand's reconcile at HOMED, followed to the event's
end. -/
theorem driveRecoveryRuns : Obligations.DriveRecoveryRuns := by
  unfold Obligations.DriveRecoveryRuns
  refine ⟨⟨fun s h hd hp hc hg hrec => restart_inRun hd hp hc hg hrec,
      fun s h r hd hp hr href => restart_refused hd hp hr href⟩,
    ⟨fun s tag r hrun hg hin hr => homed_loaded hrun hg hin hr,
      fun s tag hc hg hin => homed_loadedNone hc hg hin, fun s hrun hg hin => homed_emptyNone hrun hg hin⟩,
    fun s h hd hp hgd hheld hg hrec => restart_inGuard hd hp hgd hheld hg hrec, ?_⟩
  intro s r hnode hts hheld hg hin hr
  exact ⟨fun hroom => homed_gone hnode hts hheld hg hin hr hroom,
    fun hres ha ho => homed_noRoom hnode hg hin hr hres ha ho⟩

end Sys2Proof.Machine
end

section
/-! PROOFS. What a RESET leaves and starts (O9). -/

namespace Sys2Proof.Machine

open Sys2Proof

-- In turn, so that the proofs do not hold more threads at once than the memory limit has stacks for.
set_option Elab.async false

/-! ### A state in which nothing is under way -/

/-- A state as the blocks' resets leave it: no context, no motion, no shutter asked, no neighbour heard, no
side closed for fire. -/
structure Cold (s : State) : Prop where
  sched : s.sched = Sched.blank
  announce : s.bus.announce = []
  stated : s.bus.state = []
  present : ∀ sd, (nbr s sd).present = false
  notBay : ∀ sd, notBay s sd = true
  unclosed : ∀ sd, (view s sd).fireClosed = false
  shutter : ∀ sh, shutter s sh = Shutter.blank
  gantry : s.motion.gantry = .off
  power : s.motion.power = false
  xfer : s.motion.xfer = none
  held : s.motion.held = none
  putAway : s.motion.putAway = none
  out : s.motion.out = []

/-- What start-up leaves of the state it finds. -/
def steady (s : State) :=
  (s.board, s.setup, s.det, s.sched, s.stow, s.bus, s.pending, s.inv.columns, s.inv.records,
    s.motion.chute, s.motion.reason, s.fire.zones, s.fire.safeWithFault)

theorem nbr_of_steady {s t : State} (h : steady t = steady s) (sd : Side) : nbr t sd = nbr s sd := by
  have hb : t.bus = s.bus := by
    simp only [steady, Prod.mk.injEq] at h
    obtain ⟨-, -, -, -, -, hb, -⟩ := h
    exact hb
  cases sd <;> simp [nbr, hb]

/-! ### Closing for fire -/

/-- The FIRE cause of both sides set, with nothing else changed. -/
def withFireCause (s : State) : State :=
  s.withSlots
    { s.slots with
      west := { s.slots.west with fireClosed := true }, east := { s.slots.east with fireClosed := true } }

/-- A side without a bay beyond it is CLOSED already, so the FIRE cause changes nothing else. -/
theorem setFireCause_notBay {s : State} {sd : Side} (h : notBay s sd = true) :
    setFireCause s true sd = modView s sd (fun v => { v with fireClosed := true }) := by
  have hc : sideClosed s sd = true := by simp [sideClosed, h]
  have hd : sideClosed (modView s sd (fun v => { v with fireClosed := true })) sd = true := by
    cases sd <;> simp [sideClosed, modView, setView, view, State.withSlots]
  simp [setFireCause, changeOverlay, hc, hd]

theorem closeSides_notBay {s : State} (h : ∀ sd, notBay s sd = true) :
    sides.foldl (fun t sd => setFireCause t true sd) s = withFireCause s := by
  have he : notBay (modView s .west (fun v => { v with fireClosed := true })) .east = true := h .east
  change setFireCause (setFireCause s true .west) true .east = _
  rw [setFireCause_notBay (h .west), setFireCause_notBay he]
  rfl

theorem view_withFireCause (s : State) (sd : Side) :
    view (withFireCause s) sd = { view s sd with fireClosed := true } := by
  cases sd <;> rfl

/-- A shutter asked CLOSE without drive power: CLOSING, with no timer. -/
def askedShut : Shutter := { state := .closing, timer := none, asked := some .closed, heldOpen := false }

theorem askShutter_cold {s : State} {sh : ShutterId} (h : shutter s sh = Shutter.blank)
    (hp : s.motion.power = false) : askShutter s sh .closed = setShutter s sh askedShut := by
  simp [askShutter, h, hp, Shutter.blank, askedShut]

theorem askAll_cold {s : State} (h : ∀ sh, shutter s sh = Shutter.blank) (hp : s.motion.power = false) :
    askAll s .closed =
      s.withMotion { s.motion with shWest := askedShut, shEast := askedShut, shChute := askedShut } := by
  change askShutter (askShutter (askShutter s .west .closed) .east .closed) .chute .closed = _
  rw [askShutter_cold (h .west) hp,
    askShutter_cold (s := setShutter s .west askedShut) (sh := .east) (h .east) hp,
    askShutter_cold (s := setShutter (setShutter s .west askedShut) .east askedShut) (sh := .chute) (h .chute) hp]
  rfl

/-! ### The three ways to start -/

/-- What start-up stopped for fire has done: POWER OFF sent, every shutter asked CLOSE, both sides closed for
fire, the mark set, and the node in SAFE. -/
structure Stopped (v t : State) : Prop where
  steady : steady t = steady v
  view : ∀ sd, view t sd = { view v sd with fireClosed := true }
  node : t.fire.node = .safe
  chuteHold : t.fire.chuteHold = true
  power : t.motion.power = false
  out : t.motion.out = [.power false]
  held : t.motion.held = none
  putAway : t.motion.putAway = none
  shutter : ∀ sh, shutter t sh = askedShut
  fireStop : t.inv.fireStop = true

theorem startSafe_stopped {v : State} (h : Cold v) (hs : v.inv.fireStop = true) : Stopped v (startSafe v) := by
  have e : startSafe v =
      ((withFireCause v).withFire { v.fire with node := .safe, chuteHold := true }).withMotion
        { v.motion with
          power := false, gantry := .off, xfer := none, held := none, timer := none,
          out := v.motion.out ++ [.power false],
          shWest := askedShut, shEast := askedShut, shChute := askedShut } := by
    unfold startSafe
    dsimp only
    rw [closeSides_notBay (s := setNode v .safe) h.notBay]
    refine (askAll_cold (fun sh => ?_) rfl).trans rfl
    rw [← h.shutter sh]
    cases sh <;> rfl
  rw [e]
  exact
    { steady := rfl, view := view_withFireCause v, node := rfl, chuteHold := rfl, power := rfl
      out := by change v.motion.out ++ [.power false] = _; rw [h.out]; rfl
      held := rfl, putAway := h.putAway, shutter := fun sh => by cases sh <;> rfl, fireStop := hs }

theorem withdrawAnnounce_none {s : State} (h : s.bus.announce = []) : withdrawAnnounce s = s := by
  obtain ⟨b, i, st, sc, sw, sl, m, d, f, ⟨q, tu, sta, an, re⟩⟩ := s
  subst h
  rfl

theorem noneIn_of_blank {s : State} (h : s.sched = Sched.blank) (p : CtxState → Bool) (hp : p .free = false) :
    ctxNumbers.filter (fun n => p (ctxOf s n).state) = [] := by
  have hf : ∀ n, (ctxOf s n).state = .free := fun n => by
    rw [ctxOf, h, Sched.blank, List.getD_eq_getElem?_getD, List.getElem?_replicate]
    split <;> rfl
  simp [hf, hp]

theorem pauseIn_blank {s : State} (h : s.sched = Sched.blank) (p : CtxState → Bool) (hp : p .free = false) :
    pauseIn s p = s := by
  rw [pauseIn, noneIn_of_blank h p hp, List.foldl_nil]

theorem withdrawAllBids_blank {s : State} (h : s.sched = Sched.blank) : withdrawAllBids s = s := by
  have hn := noneIn_of_blank h (fun x => x = .bidding) rfl
  rw [withdrawAllBids, hn, List.foldl_nil]

/-- With nothing under way, the entry into SHUTDOWN only sets the mark, holds the chute and closes the
sides. -/
theorem enterShutdown_cold {v : State} (h : Cold v) : ∃ r, enterShutdown v =
    ((withFireCause v).withFire
      { v.fire with node := .shutdown, chuteHold := true, closing := false, opening := false, resumeTo := r }
      ).withInv { v.inv with fireStop := true } := by
  refine ⟨if v.fire.node = .resuming then v.fire.resumeTo else v.fire.node, ?_⟩
  set r := if v.fire.node = .resuming then v.fire.resumeTo else v.fire.node with hr
  set u := (v.withFire
    { v.fire with node := .shutdown, chuteHold := true, closing := false, opening := false, resumeTo := r }
    ).withInv { v.inv with fireStop := true } with hu
  have hsched : u.sched = Sched.blank := h.sched
  have hdrop : dropHeld u = u := by
    unfold dropHeld
    rw [show u.motion.held = none from h.held]
  have hput : dropPutAway u = u := by
    unfold dropPutAway
    rw [show u.motion.putAway = none from h.putAway]
    rfl
  have hset : beginSetDown (withFireCause u) = withFireCause u := by
    unfold beginSetDown
    rw [show (withFireCause u).motion.xfer = none from h.xfer]
  change beginSetDown (sides.foldl (fun t sd => setFireCause t true sd)
    (dropPutAway (dropHeld (withdrawAllBids (pauseIn (withdrawAnnounce u) CtxState.runs))))) = _
  rw [withdrawAnnounce_none (s := u) h.announce, pauseIn_blank hsched _ rfl, withdrawAllBids_blank hsched, hdrop,
    hput, closeSides_notBay (s := u) h.notBay, hset]
  rfl

/-- The shutdown sequence of a node with nothing under way runs to SAFE at once (R156). -/
theorem closeShutters_cold {s : State} (h : ∀ sh, shutter s sh = Shutter.blank) (hp : s.motion.power = false) :
    closeShutters s =
      (s.withFire { s.fire with node := .safe, closing := false }).withMotion
        { s.motion with
          power := false, gantry := .off, xfer := none, held := none, timer := none,
          out := s.motion.out ++ [.power false],
          shWest := askedShut, shEast := askedShut, shChute := askedShut } := by
  unfold closeShutters
  rw [askAll_cold (s := s.withFire { s.fire with closing := true }) h hp]
  unfold safeEntry
  rw [if_pos (by simp [shutterIds, shutterReported, shutter, State.withMotion, askedShut, hp, State.withFire])]
  rfl

/-! ### What the event's end adds -/

theorem moveOverflow_eq (s : State) : ∃ a o, moveOverflow s = s.withInv { s.inv with away := a, overflow := o } := by
  unfold moveOverflow
  split
  · exact ⟨s.inv.away, s.inv.overflow, rfl⟩
  · split
    · exact ⟨_, _, rfl⟩
    · exact ⟨s.inv.away, s.inv.overflow, rfl⟩

theorem resendLoaded_absent {s : State} {sd : Side} (h : (nbr s sd).present = false) : resendLoaded s sd = s := by
  simp [resendLoaded, h]

theorem resendAll_absent {s : State} (h : ∀ sd, (nbr s sd).present = false) : sides.foldl resendLoaded s = s := by
  simp [sides, resendLoaded_absent (h _)]

theorem guardSides_elsewhere {s : State} (hr : s.fire.node ≠ .run) (hg : s.fire.node ≠ .guarded) :
    guardSides s = s := by
  simp [guardSides, sides, guardSide, hr, hg]

theorem runSchedule_elsewhere {s : State} (hr : s.fire.node ≠ .run) (hw : s.sched.woken = []) (k : Nat) :
    runSchedule k s = s := by
  cases k <;> simp [runSchedule, gantryFree, flushWoken_none s hw, hr]

/-- Away from RUN, GUARD and RESUMING, with nothing under way and no neighbour heard, an event's end is the
overflow record's move and the shutdown sequence. -/
theorem settle_cold {s : State} (hn : (shutdownSync (moveOverflow s)).fire.node = .safe ∨
      (shutdownSync (moveOverflow s)).fire.node = .homing)
    (hp : (shutdownSync (moveOverflow s)).motion.putAway = none)
    (hw : (shutdownSync (moveOverflow s)).sched.woken = [])
    (ha : ∀ sd, (nbr (shutdownSync (moveOverflow s)) sd).present = false) :
    settle s = shutdownSync (moveOverflow s) := by
  unfold settle
  dsimp only
  generalize shutdownSync (moveOverflow s) = u at *
  have hr : u.fire.node ≠ .run := by rcases hn with h | h <;> simp [h]
  have hg : u.fire.node ≠ .guarded := by rcases hn with h | h <;> simp [h]
  have hs : u.fire.node ≠ .resuming := by rcases hn with h | h <;> simp [h]
  have hc : commandPutAway u = u := by simp [commandPutAway, hp]
  rw [resumeSync_elsewhere u hs, guardSides_elsewhere hr hg, hc, runSchedule_elsewhere hr hw, resendAll_absent ha]

theorem Cold.present_of {v t : State} (h : Cold v) (he : steady t = steady v) (sd : Side) :
    (nbr t sd).present = false := by
  rw [nbr_of_steady he]
  exact h.present sd

theorem Cold.woken_of {v t : State} (h : Cold v) (he : steady t = steady v) : t.sched.woken = [] := by
  simp only [steady, Prod.mk.injEq] at he
  obtain ⟨-, -, -, hs, -⟩ := he
  rw [hs, h.sched]
  rfl

/-- The end of the reset's event finds SAFE or HOMING, and moves the overflow record alone. -/
theorem settle_still {v u : State} (h : Cold v) (k : steady u = steady v)
    (hn : u.fire.node = .safe ∨ u.fire.node = .homing) (hp : u.motion.putAway = none) :
    ∃ a o, settle u = u.withInv { u.inv with away := a, overflow := o } := by
  obtain ⟨a, o, hm⟩ := moveOverflow_eq u
  refine ⟨a, o, ?_⟩
  have hsync : shutdownSync (moveOverflow u) = u.withInv { u.inv with away := a, overflow := o } := by
    rw [hm]
    exact shutdownSync_elsewhere _ (fun hs => by
      rcases hn with h | h <;> rw [show u.fire.node = .shutdown from hs] at h <;> cases h)
  rw [settle_cold (by rw [hsync]; exact hn) (by rw [hsync]; exact hp)
    (by rw [hsync]; exact h.woken_of k) (by rw [hsync]; exact h.present_of k), hsync]

/-- With the fire-stop mark retained, the reset leaves the node in SAFE. -/
theorem settle_startSafe {v : State} (h : Cold v) (hs : v.inv.fireStop = true) :
    Stopped v (settle (startSafe v)) := by
  have hstop := startSafe_stopped h hs
  generalize startSafe v = u at *
  obtain ⟨a, o, hset⟩ := settle_still h hstop.steady (.inl hstop.node) hstop.putAway
  rw [hset]
  obtain ⟨k, hview, hnode, hhold, hpower, hout, hheld, hput, hsh, hmark⟩ := hstop
  exact ⟨k, hview, hnode, hhold, hpower, hout, hheld, hput, hsh, hmark⟩

/-- With the fire line active, SHUTDOWN is entered and left for SAFE in the reset's event (R163). -/
theorem settle_enterShutdown {v : State} (h : Cold v) : Stopped v (settle (enterShutdown v)) := by
  obtain ⟨r, hr⟩ := enterShutdown_cold h
  rw [hr]
  set u := ((withFireCause v).withFire
      { v.fire with node := .shutdown, chuteHold := true, closing := false, opening := false, resumeTo := r }
      ).withInv { v.inv with fireStop := true } with hu
  obtain ⟨a, o, hm⟩ := moveOverflow_eq u
  have hsync : shutdownSync (moveOverflow u) = closeShutters (u.withInv { u.inv with away := a, overflow := o }) := by
    rw [hm]
    unfold shutdownSync
    rw [if_pos (show (u.withInv _).fire.node = .shutdown from rfl),
      if_neg (show ¬ (u.withInv _).fire.closing = true from Bool.false_ne_true)]
    rw [show (u.withInv _).motion.gantry = .off from h.gantry]
  rw [closeShutters_cold (s := u.withInv _) h.shutter h.power] at hsync
  rw [settle_cold (by rw [hsync]; exact .inl rfl) (by rw [hsync]; exact h.putAway)
    (by rw [hsync]; exact h.woken_of (t := v) rfl) (by rw [hsync]; exact h.present), hsync]
  exact
    { steady := rfl, view := view_withFireCause v, node := rfl, chuteHold := rfl, power := rfl
      out := by change v.motion.out ++ [.power false] = _; rw [h.out]; rfl
      held := rfl, putAway := h.putAway, shutter := fun sh => by cases sh <;> rfl, fireStop := rfl }

/-- What start-up in HOMING has done: at a node with a station POWER ON and the reconcile PARK are sent. -/
structure Homing (v t : State) : Prop where
  steady : steady t = steady v
  view : ∀ sd, view t sd = view v sd
  node : t.fire.node = .homing
  held : t.motion.held = none
  putAway : t.motion.putAway = none
  motion : if posts v then t.motion.gantry = .homing ∧ t.motion.power = true ∧
      t.motion.out = [.power true, .park true]
    else t.motion.gantry = .off ∧ t.motion.out = []

theorem powerOn_cold {s : State} (h : ∀ sh, shutter s sh = Shutter.blank) :
    powerOn s = send (s.withMotion { s.motion with power := true }) (.power true) := by
  have hs : ∀ sh, sendHeldOpen (send (s.withMotion { s.motion with power := true }) (.power true)) sh =
      send (s.withMotion { s.motion with power := true }) (.power true) := fun sh => by
    have hb : shutter (send (s.withMotion { s.motion with power := true }) (.power true)) sh = Shutter.blank := by
      rw [← h sh]
      cases sh <;> rfl
    unfold sendHeldOpen
    rw [hb]
    rfl
  simp [powerOn, shutterIds, hs]

/-- The end of the reset's event finds HOMING and leaves it. -/
theorem settle_homing {v : State} (h : Cold v) (hn : v.fire.node = .homing) :
    Homing v (settle (if posts v then parkReconcile (powerOn v) else v)) := by
  have hhoming : Homing v (if posts v then parkReconcile (powerOn v) else v) := by
    by_cases hp : posts v = true
    · rw [if_pos hp, powerOn_cold h.shutter]
      refine ⟨rfl, fun sd => rfl, hn, h.held, h.putAway, ?_⟩
      rw [if_pos hp]
      refine ⟨rfl, rfl, ?_⟩
      change (v.motion.out ++ [.power true]) ++ [.park true] = _
      rw [h.out]
      rfl
    · rw [if_neg hp]
      refine ⟨rfl, fun sd => rfl, hn, h.held, h.putAway, ?_⟩
      rw [if_neg hp]
      exact ⟨h.gantry, h.out⟩
  generalize (if posts v then parkReconcile (powerOn v) else v) = u at *
  obtain ⟨a, o, hset⟩ := settle_still h hhoming.steady (.inr hhoming.node) hhoming.putAway
  rw [hset]
  obtain ⟨hk, hview, hnode, hheld, hput, hmotion⟩ := hhoming
  exact ⟨hk, hview, hnode, hheld, hput, hmotion⟩

end Sys2Proof.Machine
end

section
/-! PROOFS. What a RESET finds in the retained records, and O9 itself. -/

namespace Sys2Proof.Machine

open Sys2Proof

-- In turn, so that the proofs do not hold more threads at once than the memory limit has stacks for.
set_option Elab.async false

/-! ### What the retained records give -/

/-- A side's view as the retained records give it, with the tag it gets if it is loaded (R99). -/
def retainedView (s : State) (sd : Side) (tag : Tag) : SlotView :=
  if (recordAt s (.inSlot sd)).isSome then
    { SlotView.blank with state := .loadedOut, tag := tag, resendOwed := true }
  else SlotView.blank

/-- The tag the east view gets if it is loaded: the west one takes its own first (assumption 26). -/
def eastTag (s : State) : Tag := if (recordAt s (.inSlot .west)).isSome then 1 else 0

/-- The chute as the retained records give it (R136). -/
def retainedChute (s : State) : ChuteState :=
  if (chuteRecord s .outward).isSome then .outbound
  else if (chuteRecord s .inward).isSome then .inbound
  else .empty

theorem recordAt_isSome (s : State) (p : Residence) :
    (recordAt s p).isSome = true ↔ ∃ r ∈ s.inv.records, r.residence = p := by
  simp [recordAt, List.find?_isSome]

/-- A view as the retained records give it, with its FIRE cause. -/
theorem retainedView_closed (s : State) (sd : Side) (tag : Tag) (b : Bool) :
    { retainedView s sd tag with fireClosed := b } =
      if ∃ r ∈ s.inv.records, r.residence = .inSlot sd then
        { SlotView.blank with state := .loadedOut, resendOwed := true, tag := tag, fireClosed := b }
      else { SlotView.blank with fireClosed := b } := by
  by_cases h : ∃ r ∈ s.inv.records, r.residence = .inSlot sd
  · rw [retainedView, if_pos ((recordAt_isSome s _).2 h), if_pos h]
  · rw [retainedView, if_neg (fun hr => h ((recordAt_isSome s _).1 hr)), if_neg h]

theorem resetView_none {s : State} {sd : Side} (h : recordAt s (.inSlot sd) = none) : resetView s sd = s := by
  rw [resetView, h]

theorem resetView_some {s : State} {sd : Side} {r : BinRecord} (h : recordAt s (.inSlot sd) = some r) :
    resetView s sd = modView (bumpTag s) sd (fun v =>
      { v with state := .loadedOut, tag := s.slots.nextTag, resendOwed := true }) := by
  rw [resetView, h]

theorem resetViews_eq {s : State} (h : s.slots = { west := SlotView.blank, east := SlotView.blank, nextTag := 0 }) :
    ∃ n, sides.foldl resetView s =
      s.withSlots { west := retainedView s .west 0, east := retainedView s .east (eastTag s), nextTag := n } := by
  obtain ⟨b, i, st, sc, sw, sl, m, d, f, bu, se, su, fr, pe⟩ := s
  subst h
  set s : State := ⟨b, i, st, sc, sw, ⟨SlotView.blank, SlotView.blank, 0⟩, m, d, f, bu, se, su, fr, pe⟩ with hs
  change ∃ n, resetView (resetView s .west) .east = _
  unfold retainedView eastTag
  cases hw : recordAt s (.inSlot .west) with
  | none =>
    rw [resetView_none hw]
    cases he : recordAt s (.inSlot .east) with
    | none => exact ⟨0, resetView_none he⟩
    | some r => exact ⟨1, resetView_some he⟩
  | some q =>
    rw [resetView_some hw]
    cases he : recordAt s (.inSlot .east) with
    | none => exact ⟨1, resetView_none (s := modView (bumpTag s) .west _) he⟩
    | some r => exact ⟨2, resetView_some (s := modView (bumpTag s) .west _) he⟩

theorem resetChute_eq {s : State} (h : s.motion.chute = .empty) :
    resetChute s = s.withMotion { s.motion with chute := retainedChute s } := by
  unfold resetChute retainedChute
  split
  · rfl
  · split
    · rfl
    · rw [← h]
      rfl

theorem resetLine_eq {s : State} (hl : s.fire.latch = false) (hz : s.fire.zones = 0) (pin : Bool) :
    resetLine s pin =
      s.withFire
        { s.fire with
          latch := pin == s.board.activeHigh, zones := if pin = s.board.activeHigh then allZones else 0 } := by
  unfold resetLine pinActive
  by_cases hp : pin = s.board.activeHigh
  · simp [hp]
  · rw [if_neg (by simp [hp]), if_neg hp, show (pin == s.board.activeHigh) = false by simp [hp], ← hl, ← hz]
    rfl

/-- The state that start-up finds: every block reset, over the retained records and the fire line (R163). -/
def foundState (s : State) (p : StrapPins) (pin : Bool) : State :=
  resetLine (resetChute (sides.foldl resetView (clearedState s p))) pin

theorem foundState_eq (s : State) (p : StrapPins) (pin : Bool) : ∃ n, foundState s p pin =
    (((clearedState s p).withSlots
      { west := retainedView (clearedState s p) .west 0
        east := retainedView (clearedState s p) .east (eastTag (clearedState s p)), nextTag := n }).withMotion
      { (clearedState s p).motion with chute := retainedChute (clearedState s p) }).withFire
      { (clearedState s p).fire with
        latch := pin == p.fpol, zones := if pin = p.fpol then allZones else 0 } := by
  obtain ⟨n, hv⟩ := resetViews_eq (s := clearedState s p) rfl
  refine ⟨n, ?_⟩
  unfold foundState
  rw [hv, resetChute_eq (s := (clearedState s p).withSlots _) rfl,
    resetLine_eq (s := ((clearedState s p).withSlots _).withMotion _) rfl rfl]
  rfl

theorem foundState_cold (s : State) (p : StrapPins) (pin : Bool) : Cold (foundState s p pin) := by
  obtain ⟨n, h⟩ := foundState_eq s p pin
  rw [h]
  exact
    { sched := rfl, announce := rfl, stated := rfl
      present := fun sd => by cases sd <;> rfl
      notBay := fun sd => by
        cases sd <;> simp [notBay, nbr, State.withFire, State.withMotion, State.withSlots, clearedState,
          Neighbour.blank]
      unclosed := fun sd => by
        cases sd <;> simp only [view, State.withFire, State.withMotion, State.withSlots, retainedView] <;>
          split <;> rfl
      shutter := fun sh => by cases sh <;> rfl
      gantry := rfl, power := rfl, xfer := rfl, held := rfl, putAway := rfl, out := rfl }

theorem posts_foundState (s : State) (p : StrapPins) (pin : Bool) :
    posts (foundState s p pin) = true ↔ p.stn ≠ 0 := by
  obtain ⟨n, h⟩ := foundState_eq s p pin
  have hb : (foundState s p pin).board.station = p.stn.toNat := by
    rw [h]
    rfl
  simp [posts, hb, BitVec.toNat_eq]

/-! ### How a RESET ends -/

/-- Start-up and the end of the reset's event: stopped for fire, or homing (R161 to R163). -/
theorem settle_startUp {v : State} (h : Cold v) (hn : v.fire.node = .homing) :
    if v.inv.fireStop = true ∨ v.fire.latch = true then Stopped v (settle (startUp v))
    else Homing v (settle (startUp v)) := by
  unfold startUp
  by_cases hs : v.inv.fireStop = true
  · rw [if_pos (.inl hs), if_pos hs]
    exact settle_startSafe h hs
  · by_cases hl : v.fire.latch = true
    · rw [if_pos (.inr hl), if_neg hs, if_pos hl]
      exact settle_enterShutdown h
    · rw [if_neg (by simp [hs, hl]), if_neg hs, if_neg hl]
      exact settle_homing h hn

/-- A STATE posted and the event ended with no transfer held: the frame and the store alone are new. -/
theorem commit_postState {w x : State} (h : x.motion.held = none) :
    ∃ n l q, commit w (postState x) =
      ((x.withBus { x.bus with seq := n, state := l }).withSched { x.sched with stepEnded := none }).withStore q ∧
      (posts x = true → x.bus.state = [] → l.length = 1) ∧ (posts x = false → l = x.bus.state) := by
  have hpost : ∃ n l, postState x = x.withBus { x.bus with seq := n, state := l } ∧
      (posts x = true → x.bus.state = [] → l.length = 1) ∧ (posts x = false → l = x.bus.state) := by
    unfold postState postStateFrame
    by_cases hp : posts x = true
    · rw [if_pos hp]
      exact ⟨_, _, rfl, fun _ hs => by simp [replacing, hs], fun hf => absurd (hp.symm.trans hf) (by simp)⟩
    · rw [if_neg hp]
      exact ⟨x.bus.seq, x.bus.state, rfl, fun ht => absurd ht hp, fun _ => rfl⟩
  obtain ⟨n, l, hpo, hl⟩ := hpost
  rw [hpo]
  by_cases hi : x.inv = w.inv
  · refine ⟨n, l, x.store, ?_, hl⟩
    rw [commit_same w (x.withBus { x.bus with seq := n, state := l }) hi, releaseHeld_none]
    · rfl
    · exact h
  · exact ⟨n, l, _, commit_changed w (x.withBus _) hi, hl⟩

/-- A RESET ends in the state that start-up and the event's end make of the one found, but for its STATE and its
store update. -/
theorem reset_ends (s : State) (p : StrapPins) (pin : Bool) :
    ∃ x n l q, exec (.reset p pin) s = .next
        (((x.withBus { x.bus with seq := n, state := l }).withSched { x.sched with stepEnded := none }).withStore q) ∧
      steady x = steady (foundState s p pin) ∧
      (∀ sd, view x sd =
        { view (foundState s p pin) sd with fireClosed := s.store.image.fireStop || pin == p.fpol }) ∧
      (p.stn ≠ 0 → l.length = 1) ∧ (p.stn = 0 → l = []) ∧
      if s.store.image.fireStop = true ∨ pin = p.fpol then Stopped (foundState s p pin) x
      else Homing (foundState s p pin) x := by
  obtain ⟨k, hfound⟩ := foundState_eq s p pin
  have hcold := foundState_cold s p pin
  have hstop : (foundState s p pin).inv.fireStop = s.store.image.fireStop := by rw [hfound]; rfl
  have hlatch : (foundState s p pin).fire.latch = (pin == p.fpol) := by rw [hfound]; rfl
  have hnode : (foundState s p pin).fire.node = .homing := by rw [hfound]; rfl
  have hstart := settle_startUp hcold hnode
  simp only [hstop, hlatch, beq_iff_eq] at hstart
  have hexec : exec (.reset p pin) s =
      .next (commit (clearedState s p) (postState (settle (startUp (foundState s p pin))))) := rfl
  rw [hexec]
  generalize settle (startUp (foundState s p pin)) = x at *
  have hx : steady x = steady (foundState s p pin) ∧ x.motion.held = none ∧ ∀ sd, view x sd =
      { view (foundState s p pin) sd with fireClosed := s.store.image.fireStop || pin == p.fpol } := by
    split at hstart
    case isTrue h =>
      refine ⟨hstart.steady, hstart.held, fun sd => ?_⟩
      rw [hstart.view, show (s.store.image.fireStop || pin == p.fpol) = true by simpa using h]
    case isFalse h =>
      refine ⟨hstart.steady, hstart.held, fun sd => ?_⟩
      rw [hstart.view, show (s.store.image.fireStop || pin == p.fpol) = false by simpa using h,
        ← hcold.unclosed sd]
  obtain ⟨hk, hheld, hview⟩ := hx
  obtain ⟨n, l, q, hc, hone, hnone⟩ := commit_postState (w := clearedState s p) hheld
  have hb : (posts x = true ↔ p.stn ≠ 0) ∧ x.bus.state = [] := by
    have hk' := hk
    simp only [steady, Prod.mk.injEq] at hk'
    obtain ⟨hxb, -, -, -, -, hbus, -⟩ := hk'
    exact ⟨by rw [← posts_foundState s p pin, posts, posts, hxb], by rw [hbus, hcold.stated]⟩
  obtain ⟨hposts, hstate⟩ := hb
  exact ⟨x, n, l, q, by rw [hc], hk, hview, fun h => hone (hposts.2 h) hstate,
    fun h => (hnone (Bool.eq_false_iff.2 (fun ht => hposts.1 ht h))).trans hstate, hstart⟩

/-! ### O9 -/

theorem boardOf_eq (p : StrapPins) : boardOf p =
    { station := p.stn.toNat, zone := p.zn
      w := if p.wd = 0 then 2 else p.wd.toNat + 1
      d := if p.dp = 0 then 2 else p.dp.toNat + 1
      c := [8, 10, 12, 16].getD p.ht.toNat 8, activeHigh := p.fpol } := by
  have hc : ∀ v : BitVec 2, capacityOf v = [8, 10, 12, 16].getD v.toNat 8 := by decide
  rw [boardOf, hc]
  rfl

/-- The blocks that a RESET leaves as the straps, the defaults and the retained image give them. -/
theorem reset_blocks (s : State) (p : StrapPins) (pin : Bool) : ∃ t, exec (.reset p pin) s = .next t ∧
    t.board =
      { station := p.stn.toNat, zone := p.zn
        w := if p.wd = 0 then 2 else p.wd.toNat + 1
        d := if p.dp = 0 then 2 else p.dp.toNat + 1
        c := [8, 10, 12, 16].getD p.ht.toNat 8, activeHigh := p.fpol } ∧
    t.setup = Setup.default ∧
    t.det = List.replicate 4 DetInput.blank ∧ t.sched.ctxs = List.replicate 16 Ctx.blank ∧
    t.sched.ready = List.replicate 10 [] ∧ t.sched.doneQ = [] ∧ t.sched.notice = [] ∧
    t.stow = Stow.blank ∧ t.bus.replies = [] ∧ t.bus.tx = none ∧
    t.bus.counters = { sent := 0, received := 0, voids := 0, losses := 0, dropped := 0 } ∧
    t.bus.nbWest = Neighbour.blank (if 1 < p.stn.toNat then some (p.stn.toNat - 1) else none) ∧
    t.bus.nbEast = Neighbour.blank (if p.stn.toNat < 31 then some (p.stn.toNat + 1) else none) ∧
    t.inv.columns = s.store.image.columns ∧ t.inv.records = s.store.image.records ∧
    t.pending = s.pending := by
  obtain ⟨x, n, l, q, hx, hk, -⟩ := reset_ends s p pin
  obtain ⟨k, hfound⟩ := foundState_eq s p pin
  rw [hfound] at hk
  simp only [steady, Prod.mk.injEq] at hk
  obtain ⟨hboard, hsetup, hdet, hsched, hstow, hbus, hpending, hcols, hrecs, -⟩ := hk
  refine ⟨_, hx, hboard.trans (boardOf_eq p), hsetup, hdet, congrArg (·.ctxs) hsched, congrArg (·.ready) hsched,
    congrArg (·.doneQ) hsched, congrArg (·.notice) hsched, hstow, congrArg (·.replies) hbus, congrArg (·.tx) hbus,
    congrArg (·.counters) hbus, congrArg (·.nbWest) hbus, congrArg (·.nbEast) hbus, hcols, hrecs, hpending⟩

/-- The slot views and the chute that a RESET leaves by the retained records. -/
theorem reset_places (s : State) (p : StrapPins) (pin : Bool) : ∃ t, exec (.reset p pin) s = .next t ∧
    (∀ sd ∈ sides, view t sd =
      if ∃ r ∈ s.store.image.records, r.residence = .inSlot sd then
        { SlotView.blank with
          state := .loadedOut, resendOwed := true
          tag := if sd = .east ∧ ∃ r ∈ s.store.image.records, r.residence = .inSlot .west then 1
            else 0
          fireClosed := s.store.image.fireStop || pin == p.fpol }
      else { SlotView.blank with fireClosed := s.store.image.fireStop || pin == p.fpol }) ∧
    (t.motion.chute = if ∃ r ∈ s.store.image.records, r.residence = .atChute .outward then .outbound
      else if ∃ r ∈ s.store.image.records, r.residence = .atChute .inward then .inbound
      else .empty) ∧
    t.motion.reason = .none := by
  obtain ⟨x, n, l, q, hx, hk, hview, -⟩ := reset_ends s p pin
  obtain ⟨k, hfound⟩ := foundState_eq s p pin
  simp only [hfound] at hk hview
  simp only [steady, Prod.mk.injEq] at hk
  obtain ⟨-, -, -, -, -, -, -, -, -, hchute, hreason, -⟩ := hk
  refine ⟨_, hx, fun sd _ => (hview sd).trans ?_, hchute.trans ?_, hreason⟩
  · cases sd
    case west =>
      refine (retainedView_closed (clearedState s p) .west 0 _).trans ?_
      simp only [reduceCtorEq, false_and, if_false]
      rfl
    case east =>
      refine (retainedView_closed (clearedState s p) .east (eastTag (clearedState s p)) _).trans ?_
      simp only [eastTag, recordAt_isSome, true_and]
      rfl
  · change retainedChute (clearedState s p) = _
    unfold retainedChute chuteRecord
    simp only [recordAt_isSome]
    rfl

/-- The fire controller and the motion port that a RESET leaves, stopped for fire or HOMING. -/
theorem reset_starts (s : State) (p : StrapPins) (pin : Bool) : ∃ t, exec (.reset p pin) s = .next t ∧
    t.fire.safeWithFault = false ∧
    (t.fire.zones = if pin = p.fpol then allZones else 0) ∧
    (if s.store.image.fireStop = true ∨ pin = p.fpol then
      t.fire.node = .safe ∧ t.motion.power = false ∧ t.motion.out = [.power false] ∧
        t.fire.chuteHold = true ∧
        t.inv.fireStop = true ∧ ∀ sh ∈ shutterIds, (shutter t sh).state = .closing ∧ (shutter t sh).asked = some .closed
    else
      t.fire.node = .homing ∧
        (p.stn ≠ 0 → t.motion.gantry = .homing ∧ t.motion.power = true ∧
          t.motion.out = [.power true, .park true] ∧ t.bus.state.length = 1) ∧
        (p.stn = 0 → t.motion.gantry = .off ∧ t.motion.out = [] ∧ t.bus.state = [])) := by
  obtain ⟨x, n, l, q, hx, hk, -, hone, hnone, hstart⟩ := reset_ends s p pin
  obtain ⟨k, hfound⟩ := foundState_eq s p pin
  rw [hfound] at hk
  simp only [steady, Prod.mk.injEq] at hk
  obtain ⟨-, -, -, -, -, -, -, -, -, -, -, hzones, hfault⟩ := hk
  refine ⟨_, hx, hfault, hzones, ?_⟩
  by_cases hf : s.store.image.fireStop = true ∨ pin = p.fpol
  · rw [if_pos hf] at hstart ⊢
    refine ⟨hstart.node, hstart.power, hstart.out, hstart.chuteHold, hstart.fireStop, fun sh _ => ?_⟩
    change (shutter x sh).state = _ ∧ (shutter x sh).asked = _
    rw [hstart.shutter sh]
    exact ⟨rfl, rfl⟩
  · rw [if_neg hf] at hstart ⊢
    have hm := hstart.motion
    refine ⟨hstart.node, fun hs => ?_, fun hs => ?_⟩
    · rw [if_pos ((posts_foundState s p pin).2 hs)] at hm
      obtain ⟨hgantry, hpower, hout⟩ := hm
      exact ⟨hgantry, hpower, hout, hone hs⟩
    · rw [if_neg (fun ht => (posts_foundState s p pin).1 ht hs)] at hm
      obtain ⟨hgantry, hout⟩ := hm
      exact ⟨hgantry, hout, hnone hs⟩

/-- Settles O9: the state that start-up finds is written out (`foundState_eq`), and each way to start is followed
to the end of the reset's event (`settle_startUp`). -/
theorem resetClearsAndStarts : Obligations.ResetClearsAndStarts :=
  ⟨reset_blocks, reset_places, reset_starts⟩

end Sys2Proof.Machine
end

section
/-! PROOFS. The decay timer: at RESET, at an accepted SETUP, and at its expiry (O17). -/

namespace Sys2Proof.Machine

open Sys2Proof

-- In turn, so that the proofs do not hold more threads at once than the memory limit has stacks for.
set_option Elab.async false

/-! ### Operations that leave the timers alone -/

section Timers

variable {s t : State}

theorem startup_of_kept (h : kept t = kept s) : t.startup = s.startup :=
  congrArg (fun x => x.2.2.2.2.2.2.2.1) h

theorem startup_of_lasting (h : lasting t = lasting s) : t.startup = s.startup :=
  startup_of_kept (kept_of_lasting h)

end Timers

theorem lasting_withdrawAnnounce (s : State) : lasting (withdrawAnnounce s) = lasting s :=
  lasting_foldl _ (fun t (f : PFrame) => lasting_withdrawTx t f.seq) _ _

theorem dropPutAway_startup (s : State) : (dropPutAway s).startup = s.startup := by
  unfold dropPutAway
  split <;> rfl

theorem setDownLoaded_startup (s : State) (x : Xfer) : (setDownLoaded s x).startup = s.startup := by
  unfold setDownLoaded
  dsimp only
  split
  · split
    · exact startup_of_lasting (lasting_retargetXfer _ _ _)
    · rfl
  · rfl

theorem beginSetDown_startup (s : State) : (beginSetDown s).startup = s.startup := by
  unfold beginSetDown
  split
  · rfl
  · split
    · exact startup_of_lasting (lasting_abandonXfer _ _)
    · exact setDownLoaded_startup _ _

theorem enterShutdown_startup (s : State) : (enterShutdown s).startup = s.startup := by
  unfold enterShutdown
  dsimp only
  rw [beginSetDown_startup, startup_of_lasting (lasting_foldl _ (fun t sd => lasting_setFireCause t true sd) _ _),
    dropPutAway_startup, startup_of_lasting (lasting_dropHeld _), startup_of_lasting (lasting_withdrawAllBids _),
    startup_of_lasting (lasting_pauseIn _ _), startup_of_lasting (lasting_withdrawAnnounce _)]
  rfl

theorem decideState_startup (s : State) : (decideState s).startup = s.startup := by
  unfold decideState
  split
  · exact enterShutdown_startup s
  · split
    · exact startup_of_lasting (lasting_enterGuard s)
    · split
      · exact startup_of_lasting (lasting_leaveGuard s)
      · rfl

theorem postAlarm_startup (s : State) : (postAlarm s).startup = s.startup := by
  unfold postAlarm
  split <;> rfl

theorem gradeChanged_startup (was : Grade) (s : State) : (gradeChanged was s).startup = s.startup := by
  have hbids : (if gradeWarns s then withdrawAllBids s else s).startup = s.startup := by
    split
    · exact startup_of_lasting (lasting_withdrawAllBids s)
    · rfl
  unfold gradeChanged
  split
  · rfl
  · extract_lets u
    split
    · exact (decideState_startup _).trans ((postAlarm_startup u).trans hbids)
    · exact (decideState_startup u).trans hbids

/-! ### RESET and SETUP -/

theorem startUp_startup (s : State) : (startUp s).startup = s.startup := by
  unfold startUp
  split
  · unfold startSafe
    dsimp only
    rw [startup_of_lasting (lasting_askAll _ _), startup_of_lasting (lasting_powerOff _), State.withFire_startup,
      startup_of_lasting (lasting_foldl _ (fun t sd => lasting_setFireCause t true sd) _ _)]
    rfl
  · split
    · exact enterShutdown_startup s
    · split
      · exact startup_of_lasting ((lasting_parkReconcile _).trans (lasting_powerOn s))
      · rfl

/-- A RESET starts the decay timer with the default period (R34). -/
theorem reset_decayTimer (s : State) (p : StrapPins) (pin : Bool) :
    ∃ t, exec (.reset p pin) s = .next t ∧ t.startup.decayTimer = some 60 := by
  have hexec : exec (.reset p pin) s =
      .next (commit (clearedState s p) (postState (settle (startUp (foundState s p pin))))) := rfl
  obtain ⟨n, hfound⟩ := foundState_eq s p pin
  refine ⟨_, hexec, ?_⟩
  rw [startup_of_lasting (lasting_commit _ _), postState, startup_of_lasting (lasting_postStateFrame _ _),
    startup_of_kept (kept_settle _), startUp_startup, hfound]
  rfl

/-- A SETUP as taken gives the two timers its periods (R34, R167). -/
theorem acceptSetup_startup (v : Setup) (s : State) : (acceptSetup v s).startup =
    { s.startup with stateTimer := v.statePeriod, decayTimer := decayTimerOf v.decayPeriod } := by
  have hw : (withdrawAnnounce (gradeChanged (bayGrade s) (applySetup v s))).startup =
      { s.startup with stateTimer := v.statePeriod, decayTimer := decayTimerOf v.decayPeriod } := by
    rw [startup_of_lasting (lasting_withdrawAnnounce _), gradeChanged_startup]
    rfl
  unfold acceptSetup
  dsimp only
  split
  · exact (startup_of_lasting (lasting_enterRun _)).trans hw
  · exact hw

theorem alignSender_startup (src : Station) (s : State) : (alignSender src s).startup = s.startup := by
  unfold alignSender
  split
  · rfl
  · rename_i sd _
    cases sd <;> rfl

theorem setup_decayTimer {s : State} {h : Header} {f : SetupFrame} (hp : Passes s h)
    (hr : s.bus.replies.length < 8) (hj : s.fire.node = .joining)
    (hheat : (setupOf f).heat.ascends = true) (hsmoke : (setupOf f).smoke.ascends = true) :
    ∃ t, exec (.setup h f) s = .next t ∧
      t.startup.decayTimer = if min 255 f.decayPeriod = 0 then none else some (min 255 f.decayPeriod) := by
  obtain ⟨_, _, hl⟩ := id hp
  obtain ⟨w, e, heq⟩ := heard_eq s h hl
  have hnode : (heard s h).fire.node = .joining := by rw [heq]; exact hj
  have htaken : takeSetup h f (heard s h) =
      respond (heard s h) (fun t => alignSender h.src (acceptSetup (setupOf f) t))
        (replyFrame h (.setup (setupOf f))) := by
    rw [takeSetup, if_neg (not_not_intro hnode), if_pos ⟨hheat, hsmoke⟩]
  refine ⟨_, rfl, ?_⟩
  rw [receive_eq hp, startup_of_kept (kept_fullEvent _ _), htaken, heard_respond hp hr]
  have hpost : ∀ (u : State) (g : Frame), (postReply u g).startup = u.startup := by
    intro u g
    unfold postReply
    split <;> rfl
  rw [hpost, alignSender_startup, acceptSetup_startup]
  rfl

/-! ### The expiry -/

theorem demand_decayRecord (r : BinRecord) : (decayRecord r).body.demand = r.body.demand - 1 := rfl

/-- A record decays to itself exactly at demand 0. -/
theorem decayRecord_eq_self {r : BinRecord} : decayRecord r = r ↔ r.body.demand = 0 := by
  constructor
  · intro h
    have hd := congrArg (fun q : BinRecord => q.body.demand) h
    simp only [demand_decayRecord] at hd
    omega
  · intro h
    obtain ⟨⟨b, d, t, l⟩, p⟩ := r
    simp only at h
    simp [decayRecord, h]

/-- The decay changes no record exactly when every demand is 0 already. -/
theorem map_decayRecord_eq_self {l : List BinRecord} :
    l.map decayRecord = l ↔ ∀ r ∈ l, r.body.demand = 0 := by
  have hmap := List.map_inj_left (l := l) (f := decayRecord) (g := id)
  rw [List.map_id] at hmap
  exact hmap.trans (forall₂_congr fun r _ => decayRecord_eq_self)

/-- The decay timer restarts with the SETUP's period. -/
def decayRestarted (s : State) : State :=
  s.withStartup { s.startup with decayTimer := some s.setup.decayPeriod }

/-- The state a running decay timer's expiry leaves, before the event ends. -/
def decayed (s : State) : State :=
  decayRestarted (s.withInv { s.inv with records := s.inv.records.map decayRecord })

theorem decay_running {s : State} (h : s.startup.decayTimer.isSome) : decay s = decayed s := if_pos h

theorem decay_stopped {s : State} (h : s.startup.decayTimer = none) : decay s = s := by
  simp [decay, h]

/-- With every demand 0 already, an expiry only restarts the timer. -/
theorem decay_unchanged {s : State} (h : s.startup.decayTimer.isSome)
    (hz : ∀ r ∈ s.inv.records, r.body.demand = 0) : decay s = decayRestarted s := by
  rw [decay_running h, decayed, map_decayRecord_eq_self.mpr hz]
  rfl

/-- With a demand to lower, an expiry ends with its one store update: no cause of STATE is read from a demand. -/
theorem decay_changed {s : State} (h : s.startup.decayTimer.isSome)
    (hz : ∃ r ∈ s.inv.records, r.body.demand ≠ 0) :
    quietEvent decay s =
      ((decayed (clearOut s)).withSched (schedQuiet s)).withStore
        { s.store with queue := s.store.queue ++ [storeUpdate (clearOut s) (decayed (clearOut s))] } := by
  have hc : stateCause (clearOut s) = stateCause (decayed (clearOut s)) := rfl
  have hne : (decayed (clearOut s)).inv ≠ (clearOut s).inv := by
    intro he
    obtain ⟨r, hr, hd⟩ := hz
    exact hd (map_decayRecord_eq_self.mp (congrArg Image.records he) r hr)
  rw [quietEvent, decay_running (s := clearOut s) h, endEvent, reportChange, if_pos hc, commit_changed _ _ hne]
  rfl

/-- What an expiry of the running timer leaves, in every node state. -/
structure Decayed (s t : State) : Prop where
  inv : t.inv = { s.inv with records := s.inv.records.map decayRecord }
  startup : t.startup = { s.startup with decayTimer := some s.setup.decayPeriod }
  image : t.store.image = s.store.image
  kept : s.inv.records.all (fun r => r.body.demand = 0) → t.store.queue = s.store.queue
  written : s.inv.records.any (fun r => r.body.demand ≠ 0) → OneUpdate s t s.sched.stepEnded
  free : freePositions t = freePositions s
  blocks : Untouched [.inv, .startup, .store, .motion, .sched] s t
  ports : PortsQuiet s t

/-- An expiry writes an update exactly when some demand is not 0 already. -/
theorem decay_expires {s : State} (hs : s.startup.decayTimer.isSome) : Decayed s (quietEvent decay s) := by
  by_cases hz : ∃ r ∈ s.inv.records, r.body.demand ≠ 0
  · rw [decay_changed hs hz]
    refine ⟨rfl, rfl, rfl, fun hall => ?_, fun _ => rfl, rfl, fun b hb => ?_, fun _ => ⟨rfl, rfl⟩⟩
    · obtain ⟨r, hr, hd⟩ := hz
      exact absurd (by simpa using List.all_eq_true.mp hall r hr) hd
    · cases b <;> simp_all <;> rfl
  · have hzero : ∀ r ∈ s.inv.records, r.body.demand = 0 := by simpa using hz
    obtain ⟨m, hm, hq⟩ := endEvent_plain (was := clearOut s) (u := decayRestarted (clearOut s)) rfl rfl
    rw [quietEvent, decay_unchanged (s := clearOut s) hs hzero, hm]
    refine ⟨?_, rfl, rfl, fun _ => rfl, fun hany => ?_, rfl, fun b hb => ?_, fun hh => ⟨hq hh, rfl⟩⟩
    · exact congrArg (fun l => { s.inv with records := l }) (map_decayRecord_eq_self.mpr hzero).symm
    · exact absurd (by simpa using hany) hz
    · cases b <;> simp_all <;> rfl

/-- Settles O17: what RESET, SETUP and each expiry do to the timer, the expiry as `Decayed` says. -/
theorem decayLowersDemand : Obligations.DecayLowersDemand := by
  refine ⟨reset_decayTimer, fun s h f hp hr hj hheat hsmoke => setup_decayTimer hp hr hj hheat hsmoke,
    fun s hs => ?_, fun s hs => ?_⟩
  · have d := decay_expires hs
    exact ⟨_, rfl, d.inv, d.startup, d.image, d.kept, d.written, d.free, d.blocks, d.ports⟩
  · obtain ⟨m, hm, hq⟩ := endEvent_plain (was := clearOut s) (u := clearOut s) rfl rfl
    refine ⟨_, rfl, ?_⟩
    rw [quietEvent, decay_stopped (s := clearOut s) hs, hm]
    refine ⟨fun b hb => ?_, fun hh => ⟨hq hh, rfl⟩⟩
    cases b <;> simp_all <;> rfl

end Sys2Proof.Machine
end

section
/-! PROOFS. The scorer answers the eligible column of lowest score (O33). -/

namespace Sys2Proof.Machine

open Sys2Proof

-- In turn, so that the proofs do not hold more threads at once than the memory limit has stacks for.
set_option Elab.async false

/-- In a list whose indices rise, the entry `lowest` answers is beaten by no other, and every earlier one scores
more. -/
theorem lowest_least {l : List (Nat × Nat)} (hl : l.Pairwise (fun a b => a.1 < b.1)) {p : Nat × Nat}
    (h : lowest l = some p) : ∀ q ∈ l, p.2 ≤ q.2 ∧ (q.1 < p.1 → p.2 < q.2) := by
  induction l generalizing p with
  | nil => cases h
  | cons a as ih =>
    obtain ⟨hfirst, hrest⟩ := List.pairwise_cons.mp hl
    rw [lowest] at h
    split at h
    · rename_i hnone
      have has : as = [] := by
        by_contra hne
        obtain ⟨q, hq⟩ := lowest_some hne
        simp [hq] at hnone
      obtain rfl := Option.some.inj h
      simp [has]
    · rename_i r hr
      have hle := ih hrest hr
      have hra := hfirst r (lowest_mem hr)
      split at h
      · rename_i hlt
        obtain rfl := Option.some.inj h
        intro q hq
        rcases List.mem_cons.mp hq with rfl | hq
        · exact ⟨hlt.le, fun _ => hlt⟩
        · exact hle q hq
      · rename_i hge
        obtain rfl := Option.some.inj h
        intro q hq
        rcases List.mem_cons.mp hq with rfl | hq
        · exact ⟨le_rfl, fun hself => absurd hself (lt_irrefl _)⟩
        · obtain ⟨hrq, _⟩ := hle q hq
          have haq := hfirst q hq
          exact ⟨by omega, fun hqa => absurd hqa (by omega)⟩

/-- The eligible columns with their scores, as the scorer goes through them. -/
def scored (s : State) (d : Nat) (ref : Pos) (who src : Option Nat) : List (Nat × Nat) :=
  ((List.range (columnCount s)).filter (eligible s who src)).map (fun c => (c, score s d ref c))

section Scored

variable {s : State} {d : Nat} {ref : Pos} {who src : Option Nat}

theorem choose_eq_lowest : choose s d ref who src = lowest (scored s d ref who src) := rfl

theorem mem_scored {p : Nat × Nat} : p ∈ scored s d ref who src ↔
    p.1 < columnCount s ∧ eligible s who src p.1 = true ∧ p.2 = score s d ref p.1 := by
  obtain ⟨c, v⟩ := p
  simp only [scored, List.mem_map, List.mem_filter, List.mem_range, Prod.mk.injEq]
  constructor
  · rintro ⟨k, ⟨hk, he⟩, rfl, rfl⟩
    exact ⟨hk, he, rfl⟩
  · rintro ⟨hc, he, rfl⟩
    exact ⟨c, ⟨hc, he⟩, rfl, rfl⟩

theorem scored_rising : (scored s d ref who src).Pairwise (fun a b => a.1 < b.1) :=
  List.pairwise_map.mpr (List.pairwise_lt_range.filter _)

theorem choose_eq_none_iff : choose s d ref who src = none ↔
    ∀ k, k < columnCount s → eligible s who src k = false := by
  constructor
  · intro h k hk
    by_contra he
    obtain ⟨p, hp⟩ := lowest_some (List.ne_nil_of_mem
      (mem_scored (p := (k, score s d ref k)) |>.mpr ⟨hk, by simpa using he, rfl⟩))
    rw [choose_eq_lowest, hp] at h
    cases h
  · intro h
    cases hp : choose s d ref who src with
    | none => rfl
    | some p =>
      obtain ⟨hk, he, _⟩ := mem_scored.mp (lowest_mem hp)
      simp [h p.1 hk] at he

end Scored

/-- Settles O33: the eligible columns with their scores are listed by rising index, and `lowest` answers the first
of the best. -/
theorem scorerPicksLowest : Obligations.ScorerPicksLowest := by
  refine fun s d ref who src => ⟨fun c v h => ?_, choose_eq_none_iff⟩
  rw [choose_eq_lowest] at h
  obtain ⟨hc, he, hv⟩ := mem_scored.mp (lowest_mem h)
  refine ⟨hc, he, hv, fun k hk hek => ?_⟩
  exact lowest_least scored_rising h (k, score s d ref k) (mem_scored.mpr ⟨hk, hek, rfl⟩)

end Sys2Proof.Machine
end

section
/-! PROOFS. OFFER: the bid and its rank, and the offers that draw none (O44). -/

namespace Sys2Proof.Machine

open Sys2Proof

-- In turn, so that the proofs do not hold more threads at once than the memory limit has stacks for.
set_option Elab.async false

/-! ### The context that bids -/

theorem freeCtx?_spec {s : State} {n : Nat} (h : freeCtx? s = some n) : n < 16 ∧ (ctxOf s n).state = .free :=
  ⟨List.mem_range.mp (List.mem_of_find?_eq_some h), by simpa using List.find?_some h⟩

/-- A FREE context that is taken adds one to the contexts in use (R37). -/
theorem inUse_setCtx {s : State} {n : Nat} {c : Ctx} (hn : n < s.sched.ctxs.length)
    (hfree : (ctxOf s n).state = .free) (hc : c.state ≠ .free) : inUse (setCtx s n c) = inUse s + 1 := by
  have hold : (s.sched.ctxs[n]).state = .free := by
    rw [← hfree, ctxOf, List.getD_eq_getElem _ _ hn]
  change (s.sched.ctxs.set n c).countP _ = s.sched.ctxs.countP _ + 1
  rw [List.countP_set hn]
  simp [hold, hc]

/-- The BID of an OFFER as the node posts it, with its rank (R31, R85). -/
def bidFrame (s : State) (f : OfferFrame) (tag : Tag) (smin : Nat) : Frame :=
  frameOf s s.setup.stow
    (smin + 32 * (inUse s + 1) + (if freePositions s - 1 < s.setup.reserve then 512 else 0)) 0 tag
    (.bid f.holder f.bin)

/-- The rank of the BID that a context just taken posts counts that context. -/
theorem bidRank_setCtx {s : State} {n : Nat} {c : Ctx} (smin : Nat) (hn : n < s.sched.ctxs.length)
    (hfree : (ctxOf s n).state = .free) (hc : c.state ≠ .free) : bidRank (setCtx s n c) smin =
      smin + 32 * (inUse s + 1) + (if freePositions s - 1 < s.setup.reserve then 512 else 0) := by
  rw [bidRank, inUse_setCtx hn hfree hc]
  rfl

/-- The BIDDING context of an OFFER once its BID is posted. -/
def bidderOf (s : State) (f : OfferFrame) (tag : Tag) (smin : Nat) : Ctx :=
  { bidCtx s f tag with bid := some (posted s.bus.seq (bidFrame s f tag smin)) }

/-- A bid puts the BIDDING context, holding its BID, into the table, and draws a posting number. -/
theorem makeBid_eq {s : State} {n smin : Nat} (f : OfferFrame) (tag : Tag) (hn : n < s.sched.ctxs.length)
    (hfree : (ctxOf s n).state = .free) :
    makeBid s n f tag smin =
      (s.withSched { s.sched with ctxs := s.sched.ctxs.set n (bidderOf s f tag smin) }).withBus
        { s.bus with seq := s.bus.seq + 1 } := by
  have hc : (bidCtx s f tag).state ≠ .free := by simp [bidCtx]
  have hctx : ctxOf (setCtx s n (bidCtx s f tag)) n = bidCtx s f tag := by
    rw [ctxOf_setCtx, if_pos ⟨rfl, hn⟩]
  unfold makeBid
  dsimp only
  rw [modCtx, hctx, bidRank_setCtx smin hn hfree hc]
  simp only [setCtx, State.withSched_sched, List.set_set]
  rfl

/-! ### OFFER -/

theorem takeOffer_bids {s : State} {f : OfferFrame} {tag : Tag} {n c smin : Nat} (hm : mayBid s f = true)
    (hn : freeCtx? s = some n) (hc : choose s (min 7 f.demand) .chute none none = some (c, smin)) :
    takeOffer s f tag = makeBid s n f tag smin := by
  rw [takeOffer, if_pos hm, hn, hc]

theorem takeOffer_none {s : State} {f : OfferFrame} {tag : Tag} (hm : mayBid s f = false) :
    takeOffer s f tag = s := by
  simp [takeOffer, hm]

/-- Whether the node bids is read from nothing that hearing the holder changes. -/
theorem mayBid_heard {s : State} {h : Header} (hl : hearingLifts s h.src = false) (f : OfferFrame) :
    mayBid (heard s h) f = mayBid s f := by
  obtain ⟨w, e, heq⟩ := heard_eq s h hl
  rw [heq]
  rfl

/-- An event that writes the bus, the scheduler and the motion port alone. -/
theorem untouched_busEvent (s : State) (b : Bus) (v : Sched) (m : Motion) :
    Untouched [.bus, .motion, .sched] s ((((clearOut s).withBus b).withSched v).withMotion m) := by
  intro k hk
  cases k <;> simp_all <;> rfl

/-- A bid changes the context table and the bus, and of these no ready list and no answer. -/
theorem takeOffer_heard {s : State} {h : Header} {f : OfferFrame} {n c smin : Nat}
    (hl : hearingLifts s h.src = false) (hlen : s.sched.ctxs.length = 16) (hm : mayBid s f = true)
    (hn : freeCtx? s = some n) (hc : choose s (min 7 f.demand) .chute none none = some (c, smin)) :
    ∃ b v, takeOffer (heard s h) f h.tag = ((clearOut s).withBus b).withSched v ∧
      b.replies = s.bus.replies ∧ v.ctxs = s.sched.ctxs.set n (bidderOf s f h.tag smin) ∧
      v.ready = s.sched.ready := by
  obtain ⟨w, e, heq⟩ := heard_eq s h hl
  obtain ⟨hlt, hfree⟩ := freeCtx?_spec hn
  have hn' : freeCtx? (heard s h) = some n := by rw [heq]; exact hn
  have hc' : choose (heard s h) (min 7 f.demand) .chute none none = some (c, smin) := by rw [heq]; exact hc
  rw [takeOffer_bids (by rw [mayBid_heard hl]; exact hm) hn' hc',
    makeBid_eq f h.tag (by rw [heq]; exact hlen ▸ hlt) (by rw [heq]; exact hfree), heq]
  exact ⟨_, _, rfl, rfl, rfl, rfl⟩

theorem offer_bids {s : State} {h : Header} {f : OfferFrame} {n c smin : Nat} (hp : Passes s h)
    (hlen : s.sched.ctxs.length = 16) (hm : mayBid s f = true) (hn : freeCtx? s = some n)
    (hc : choose s (min 7 f.demand) .chute none none = some (c, smin)) :
    ∃ t, exec (.offer h f) s = .next t ∧
      t.sched.ctxs = s.sched.ctxs.set n (bidderOf s f h.tag smin) ∧
      t.sched.ready = s.sched.ready ∧ t.bus.replies = s.bus.replies ∧
      Untouched [.bus, .motion, .sched] s t := by
  obtain ⟨_, _, hl⟩ := id hp
  obtain ⟨b, v, hbody, hreplies, hctxs, hready⟩ := takeOffer_heard hl hlen hm hn hc
  obtain ⟨m, hend, _⟩ := endEvent_plain (was := clearOut s) (u := ((clearOut s).withBus b).withSched v) rfl rfl
  refine ⟨_, rfl, ?_⟩
  rw [receiveQuiet_eq hp, hbody, hend]
  exact ⟨hctxs, hready, hreplies, untouched_busEvent s b _ m⟩

theorem offer_ignored {s : State} {h : Header} {f : OfferFrame} (hp : Passes s h)
    (hm : mayBid s f = false) : ∃ t, exec (.offer h f) s = .next t ∧ HeardOnly s t h ∧
      t.bus.counters = oneReceived s.bus.counters ∧ Untouched [.bus, .motion, .sched] s t ∧
      PortsQuiet s t := by
  obtain ⟨_, _, hl⟩ := id hp
  obtain ⟨w, e, heq⟩ := heard_eq s h hl
  have hn := nbr_heard s h hl
  have hbody : takeOffer (heard s h) f h.tag = heard s h := takeOffer_none (by rw [mayBid_heard hl]; exact hm)
  obtain ⟨m, hend, hq⟩ := endEvent_plain (was := clearOut s) (u := heard s h) (by rw [heq]; rfl) (by rw [heq]; rfl)
  refine ⟨_, rfl, ?_⟩
  rw [receiveQuiet_eq hp, hbody, hend]
  rw [heq] at hn hq ⊢
  refine ⟨⟨rfl, rfl, rfl, rfl, rfl, rfl, fun sd _ => ?_⟩, rfl, untouched_busEvent s _ _ m, fun hh => ⟨hq hh, rfl⟩⟩
  rw [← hn sd]
  cases sd <;> rfl

theorem gradeWarns_iff (s : State) : gradeWarns s = true ↔ 2 ≤ gradeNum (bayGrade s) := by simp [gradeWarns]

/-- Settles O44: with every test of R84 met the node bids (`makeBid_eq` gives the context and the rank); outside
RUN, or at WARN, `mayBid` fails and the OFFER is only heard. -/
theorem offerDrawsABid : Obligations.OfferDrawsABid := by
  refine ⟨fun s h f n c smin hp hts hrun hgrade hstow hfree hcount hres hheld hch => ?_,
    fun s h f hp hno => offer_ignored hp ?_⟩
  · obtain ⟨_, hlen, _⟩ := hts
    have hwarn : gradeWarns s = false := Bool.eq_false_iff.mpr fun hw =>
      absurd ((gradeWarns_iff s).mp hw) (Nat.not_le.mpr hgrade)
    have hcommit : canCommit s = true := by simp [canCommit, hfree, hcount]
    exact offer_bids hp hlen (by simp [mayBid, hrun, hwarn, hstow, hcommit, hres, hheld]) hfree hch
  · rcases hno with hnode | hwarn
    · simp [mayBid, hnode]
    · simp [mayBid, (gradeWarns_iff s).mpr hwarn]

end Sys2Proof.Machine
end

section
/-! PROOFS. Rules about one slot side: what posting a slot frame and changing a view leave, what the judgement of
a neighbour's claim reads, and the end of an event of a calm node. -/

namespace Sys2Proof.Machine

open Sys2Proof

-- In turn, so that the proofs do not hold more threads at once than the memory limit has stacks for.
set_option Elab.async false

/-! ### Views and slot frames -/

section Views

variable (s : State) (sd : Side)

theorem view_of_slots {s t : State} (h : t.slots = s.slots) (sd : Side) : view t sd = view s sd := by
  unfold view
  rw [h]

theorem view_modView (e : Side) (f : SlotView → SlotView) :
    view (modView s sd f) e = if e = sd then f (view s sd) else view s e := view_setView s sd e _

theorem view_modView_ne {e : Side} (h : e ≠ sd) (f : SlotView → SlotView) :
    view (modView s sd f) e = view s e := by rw [view_modView, if_neg h]

@[simp] theorem modView_sched (f : SlotView → SlotView) : (modView s sd f).sched = s.sched := setView_sched s sd _
@[simp] theorem modView_inv (f : SlotView → SlotView) : (modView s sd f).inv = s.inv := setView_inv s sd _
@[simp] theorem modView_fire (f : SlotView → SlotView) : (modView s sd f).fire = s.fire := setView_fire s sd _
@[simp] theorem modView_bus (f : SlotView → SlotView) : (modView s sd f).bus = s.bus := by cases sd <;> rfl
@[simp] theorem modView_nextTag (f : SlotView → SlotView) :
    (modView s sd f).slots.nextTag = s.slots.nextTag := by cases sd <;> rfl

@[simp] theorem postSlot_sched (g : Tag) (p : Payload) : (postSlot s sd g p).sched = s.sched := by cases sd <;> rfl
@[simp] theorem postSlot_inv (g : Tag) (p : Payload) : (postSlot s sd g p).inv = s.inv := by cases sd <;> rfl
@[simp] theorem postSlot_fire (g : Tag) (p : Payload) : (postSlot s sd g p).fire = s.fire := by cases sd <;> rfl
@[simp] theorem postSlot_motion (g : Tag) (p : Payload) : (postSlot s sd g p).motion = s.motion := by
  cases sd <;> rfl
@[simp] theorem postSlot_tx (g : Tag) (p : Payload) : (postSlot s sd g p).bus.tx = s.bus.tx := by cases sd <;> rfl
@[simp] theorem postSlot_nextTag (g : Tag) (p : Payload) :
    (postSlot s sd g p).slots.nextTag = s.slots.nextTag := by cases sd <;> rfl

/-- A slot frame posted stands pending on its side, and on that side alone. -/
theorem view_postSlot (g : Tag) (p : Payload) (e : Side) : view (postSlot s sd g p) e =
    if e = sd then { view s sd with pend := some (posted s.bus.seq (slotFrame s sd g p)) } else view s e := by
  rw [postSlot, view_bumpSeq, view_modView]
  rfl

theorem view_postSlot_self (g : Tag) (p : Payload) : view (postSlot s sd g p) sd =
    { view s sd with pend := some (posted s.bus.seq (slotFrame s sd g p)) } := by
  rw [view_postSlot, if_pos rfl]

theorem answerSlot_posts {s : State} {sd : Side} (h : (view s sd).pend = none) (g : Tag) (p : Payload) :
    answerSlot s sd g p = postSlot s sd g p := by
  rw [answerSlot, h]
  rfl

end Views

/-! ### What the owner of a slot frame finds -/

section Heard

variable {s : State} {h : Header} {sd : Side}

/-- The neighbour that sent a slot frame stands on the side its station gives. -/
theorem station_of_side {st : Station} (h : sideOfStation s st = some sd) : (nbr s sd).station = some st := by
  simpa using List.find?_some h

/-- A slot frame to the neighbour that sent a frame goes to the station that sent it. -/
theorem slotFrame_back (hs : sideOfStation s h.src = some sd) (p : Payload) :
    slotFrame s sd h.tag p = frameOf s 12 0 h.src h.tag p := by
  rw [slotFrame, station_of_side hs]
  rfl

theorem heardNbr_fixed (s : State) (src : Station) (e : Side) :
    (heardNbr s src e).station = (nbr s e).station ∧ (heardNbr s src e).role = (nbr s e).role := by
  unfold heardNbr
  split <;> exact ⟨rfl, rfl⟩

theorem heardNbr_other {src : Station} {e : Side} (hs : sideOfStation s src = some sd) (he : e ≠ sd) :
    heardNbr s src e = nbr s e := by
  rw [heardNbr, hs, if_neg (fun h => he (Option.some.inj h).symm)]

/-- The blocks that hearing a station and counting its frame leave. -/
theorem heard_blocks (hp : Passes s h) : (heard s h).inv = s.inv ∧ (heard s h).sched = (clearOut s).sched ∧
    (heard s h).slots = s.slots ∧ (heard s h).motion = (clearOut s).motion ∧ (heard s h).fire = s.fire ∧
    (heard s h).board = s.board ∧ (heard s h).setup = s.setup ∧ (heard s h).det = s.det ∧
    (heard s h).stow = s.stow ∧ (heard s h).store = s.store ∧ (heard s h).bus.seq = s.bus.seq ∧
    (heard s h).bus.tx = s.bus.tx := by
  obtain ⟨_, _, hl⟩ := hp
  obtain ⟨w, e, heq⟩ := heard_eq s h hl
  rw [heq]
  exact ⟨rfl, rfl, rfl, rfl, rfl, rfl, rfl, rfl, rfl, rfl, rfl, rfl⟩

theorem view_heard (hp : Passes s h) (e : Side) : view (heard s h) e = view s e := by
  obtain ⟨_, _, hslots, _⟩ := heard_blocks hp
  exact view_of_slots hslots e

theorem ctxOf_heard (hp : Passes s h) (n : Nat) : ctxOf (heard s h) n = ctxOf s n := by
  obtain ⟨_, hsched, _⟩ := heard_blocks hp
  rw [ctxOf, hsched]
  rfl

theorem nbr_heard_fixed (hp : Passes s h) (e : Side) :
    (nbr (heard s h) e).station = (nbr s e).station ∧ (nbr (heard s h) e).role = (nbr s e).role := by
  obtain ⟨_, _, hl⟩ := hp
  rw [nbr_heard s h hl]
  exact heardNbr_fixed s h.src e

theorem notBay_heard (hp : Passes s h) (e : Side) : notBay (heard s h) e = notBay s e := by
  obtain ⟨hst, hrole⟩ := nbr_heard_fixed hp e
  rw [notBay, hst, hrole, notBay]

theorem sideOfStation_heard (hp : Passes s h) (st : Station) :
    sideOfStation (heard s h) st = sideOfStation s st := by
  have hst := fun e => (nbr_heard_fixed hp e).1
  simp only [sideOfStation, hst]

theorem slotFrame_heard (hp : Passes s h) (e : Side) (g : Tag) (p : Payload) :
    slotFrame (heard s h) e g p = slotFrame s e g p := by
  obtain ⟨_, _, _, _, _, hboard, _⟩ := heard_blocks hp
  rw [slotFrame, (nbr_heard_fixed hp e).1, slotFrame, frameOf, frameOf, hboard]

theorem calm_heard (hp : Passes s h) (hc : Calm s) : Calm (heard s h) := by
  obtain ⟨hinv, _, _, hmotion, hfire, _⟩ := heard_blocks hp
  obtain ⟨hrun, hgantry, hover, hheld, hviews⟩ := hc
  refine ⟨by rw [hfire]; exact hrun, by rw [hmotion]; exact hgantry, by rw [hinv]; exact hover,
    by rw [hmotion]; exact hheld, fun e he => ?_⟩
  rw [view_heard hp]
  exact hviews e he

/-- A slot frame of the neighbour on a side is taken for that side. -/
theorem receive_onSide (hp : Passes s h) (hs : sideOfStation s h.src = some sd) (act : Side → State → State) :
    receive h (onSide h act) s = fullEvent (fun _ => act sd (heard s h)) s := by
  rw [receive_eq hp, onSide, sideOfStation_heard hp, hs]

end Heard

/-! ### Calm states and the end of their events -/

/-- A change that leaves the parts `Calm` speaks of leaves a calm state calm. -/
theorem calm_of_parts {s t : State} (hc : Calm s) (hfire : t.fire = s.fire) (hmotion : t.motion = s.motion)
    (hinv : t.inv = s.inv) (hviews : ∀ sd, (view t sd).fireClosed = (view s sd).fireClosed ∧
      (view t sd).resendOwed = (view s sd).resendOwed) : Calm t := by
  obtain ⟨hrun, hgantry, hover, hheld, hsides⟩ := hc
  refine ⟨by rw [hfire]; exact hrun, by rw [hmotion]; exact hgantry, by rw [hinv]; exact hover,
    by rw [hmotion]; exact hheld, fun sd hsd => ?_⟩
  rw [(hviews sd).1, (hviews sd).2]
  exact hsides sd hsd

theorem calm_postSlot {s : State} (hc : Calm s) (sd : Side) (g : Tag) (p : Payload) : Calm (postSlot s sd g p) :=
  calm_of_parts hc (by simp) (by simp) (by simp) (fun e => by
    rw [view_postSlot]
    split
    · rename_i he
      rw [he]
      exact ⟨rfl, rfl⟩
    · exact ⟨rfl, rfl⟩)

theorem calm_modView {s : State} (hc : Calm s) (sd : Side) (f : SlotView → SlotView)
    (hf : (f (view s sd)).fireClosed = (view s sd).fireClosed ∧
      (f (view s sd)).resendOwed = (view s sd).resendOwed) : Calm (modView s sd f) :=
  calm_of_parts hc (by simp) (by simp) (by simp) (fun e => by
    rw [view_modView]
    split
    · rename_i he
      rw [he]
      exact hf
    · exact ⟨rfl, rfl⟩)

theorem calm_withSched {s : State} (hc : Calm s) (v : Sched) : Calm (s.withSched v) := hc

/-- The end of an event leaves the frame in transmission, and no wake-up changes it. -/
theorem endEvent_tx (was u : State) : (endEvent was u).bus.tx = u.bus.tx := by
  have hr : (reportChange was u).bus.tx = u.bus.tx := by
    unfold reportChange postState postStateFrame
    split
    · rfl
    · split <;> rfl
  rw [endEvent, ← hr]
  unfold commit
  dsimp only
  split
  · obtain ⟨m, hm, _⟩ := releaseHeld_eq
      ((reportChange was u).withSched { (reportChange was u).sched with stepEnded := none })
    rw [hm]
    rfl
  · rfl

theorem flushWoken_bus (s : State) : (flushWoken s).bus = s.bus := by
  have hfold : ∀ (l : List Nat) (t : State), (l.foldl toTail t).bus = t.bus := by
    intro l
    induction l with
    | nil => exact fun _ => rfl
    | cons a as ih => exact fun t => (ih (toTail t a)).trans rfl
  exact hfold _ _

theorem ctxOf_toTail (s : State) (n m : Nat) : ctxOf (toTail s n) m =
    if m = n ∧ n < s.sched.ctxs.length then
      { ctxOf s n with state := .ready, wait := none, stamp := s.sched.nextStamp }
    else ctxOf s m := ctxOf_setCtx s n m _

/-- A context that the event has not woken keeps its place through the wake-ups. -/
theorem ctxOf_flushWoken {s : State} {n : Nat} (h : n ∉ s.sched.woken) : ctxOf (flushWoken s) n = ctxOf s n := by
  have hfold : ∀ (l : List Nat), n ∉ l → ∀ t, ctxOf (l.foldl toTail t) n = ctxOf t n := by
    intro l
    induction l with
    | nil => exact fun _ _ => rfl
    | cons a as ih =>
      intro hl t
      have ha : n ≠ a := fun e => hl (e ▸ List.mem_cons_self)
      rw [List.foldl_cons, ih (fun hm => hl (List.mem_cons_of_mem _ hm)), ctxOf_toTail,
        if_neg (fun hna => ha hna.1)]
  refine hfold _ (fun hm => h ?_) _
  have hw := (List.mem_filter.mp (mem_byStamp hm)).2
  simp only [isWoken, decide_eq_true_eq] at hw
  exact hw.1

/-- What is left of the state `v` by the end of an event that leaves it calm. -/
structure CalmOver (v t : State) : Prop extends CalmEnd v t where
  tx : t.bus.tx = v.bus.tx
  kept : kept t = kept v
  unwoken : ∀ m, m ∉ v.sched.woken → ctxOf t m = ctxOf v m
  still : v.sched.woken = [] → t.sched = { v.sched with stepEnded := none }

theorem CalmOver.view {v t : State} (h : CalmOver v t) (sd : Side) : view t sd = view v sd :=
  view_of_slots h.slots sd

theorem fullEvent_calmOver {body : State → State} {s v : State} (hb : body (clearOut s) = v) (hc : Calm v) :
    CalmOver v (fullEvent body s) := by
  have hend : fullEvent body s = endEvent (clearOut s) (flushWoken v) := by
    rw [fullEvent, hb, settle_calm _ hc]
  have e := endEvent_blocks (clearOut s) (flushWoken v)
  refine ⟨hb ▸ fullEvent_calmEnd (hb ▸ hc), ?_, ?_, fun m hm => ?_, fun hw => ?_⟩
  · rw [hend, endEvent_tx, flushWoken_bus]
  · rw [kept_fullEvent, hb]
  · rw [hend, ctxOf, e.sched]
    exact ctxOf_flushWoken hm
  · rw [hend, e.sched, flushWoken_none _ hw]

/-- A slot frame taken on a calm node. -/
theorem onSide_calmOver {s v : State} {h : Header} {sd : Side} {act : Side → State → State} (hp : Passes s h)
    (hs : sideOfStation s h.src = some sd) (hv : act sd (heard s h) = v) (hc : Calm v) :
    CalmOver v (receive h (onSide h act) s) := by
  rw [receive_onSide hp hs]
  exact fullEvent_calmOver hv hc

end Sys2Proof.Machine
end

section
/-! PROOFS. SLOT GRANT (O51). -/

namespace Sys2Proof.Machine

open Sys2Proof

-- In turn, so that the proofs do not hold more threads at once than the memory limit has stacks for.
set_option Elab.async false

/-! ### One context woken -/

theorem ctxNumbers_filter_one {p : Nat → Bool} {n : Nat} (hn : n < 16) (hp : ∀ m, p m = (m == n)) :
    ctxNumbers.filter p = [n] := by
  rw [funext hp, List.filter_beq,
    List.count_eq_one_of_mem (l := ctxNumbers) List.nodup_range (List.mem_range.mpr hn)]
  rfl

/-- A wake-up that names one STALLED context by its number marks that context alone. -/
theorem wakeWhere_one {s : State} {n : Nat} {w : WaitReason} (p : Nat → WaitReason → Bool) (hn : n < 16)
    (hst : (ctxOf s n).state = .stalled) (hw : (ctxOf s n).wait = some w) (hyes : p n w = true)
    (hno : ∀ m r, m ≠ n → p m r = false) :
    wakeWhere s p = s.withSched { s.sched with woken := s.sched.woken ++ [n] } := by
  have hf : ctxNumbers.filter (fun m => decide ((ctxOf s m).state = .stalled ∧
      (ctxOf s m).wait.any (p m) = true)) = [n] := by
    refine ctxNumbers_filter_one hn fun m => ?_
    by_cases hm : m = n
    · subst hm
      simp [hst, hw, hyes]
    · cases hmw : (ctxOf s m).wait <;> simp [hm, hno m _ hm]
  rw [wakeWhere, hf]

/-- The one context an event has woken enters the tail of its list. -/
theorem flushWoken_one {s : State} {n : Nat} (hn : n < 16) (hw : s.sched.woken = [n])
    (hst : (ctxOf s n).state = .stalled) :
    flushWoken s = toTail (s.withSched { s.sched with woken := [] }) n := by
  have hf : ctxNumbers.filter (isWoken s) = [n] := by
    refine ctxNumbers_filter_one hn fun m => ?_
    by_cases hm : m = n
    · subst hm
      simp [isWoken, hw, hst]
    · simp [isWoken, hw, hm]
  rw [flushWoken, hf]
  rfl

/-! ### O51 -/

section Grant

variable {s : State} {h : Header} {sd : Side} {n : Nat}

/-- The view of a side whose claim has been granted (R104). -/
def grantedView (v : SlotView) : SlotView := { v with state := .mine, claimTimer := none }

/-- A SLOT GRANT that is taken: the view MINE, and its context marked as woken. -/
theorem takeGrant_taken (hn : n < 16) (hv : (view s sd).state = .claiming) (ht : (view s sd).tag = h.tag)
    (hctx : (view s sd).ctx = some n) (hst : (ctxOf s n).state = .stalled)
    (hw : (ctxOf s n).wait = some .slotWait) : takeGrant h sd s =
      (modView s sd grantedView).withSched { s.sched with woken := s.sched.woken ++ [n] } := by
  have hu : ctxOf (modView s sd grantedView) n = ctxOf s n := by rw [ctxOf, modView_sched]; rfl
  rw [takeGrant, if_pos ⟨hv, ht⟩, grantTaken, hctx]
  refine (wakeWhere_one (s := modView s sd grantedView) _ hn ((congrArg Ctx.state hu).trans hst)
    ((congrArg Ctx.wait hu).trans hw) (by simp [WaitReason.isSlotWait])
    (fun m r hm => by simp [hm])).trans ?_
  rw [modView_sched]

/-- A stale SLOT GRANT is answered, and changes nothing else. -/
theorem takeGrant_stale (hp : (view s sd).pend = none)
    (hno : ¬ ((view s sd).state = .claiming ∧ (view s sd).tag = h.tag)) :
    takeGrant h sd s = postSlot s sd h.tag (.slotRefuse .busy) := by
  rw [takeGrant, if_neg hno, answerSlot_posts hp]

theorem slotGrant_wakes (b : BinId) (hc : Calm s) (hp : Passes s h) (hts : TablesSized s) (hn : n < 16)
    (hs : sideOfStation s h.src = some sd) (hv : (view s sd).state = .claiming)
    (ht : (view s sd).tag = h.tag) (hctx : (view s sd).ctx = some n) (hst : (ctxOf s n).state = .stalled)
    (hw : (ctxOf s n).wait = some .slotWait) :
    ∃ t, exec (.slotGrant h b) s = .next t ∧
      view t sd = { view s sd with state := .mine, claimTimer := none } ∧
      ctxOf t n = { ctxOf s n with state := .ready, wait := none, stamp := s.sched.nextStamp } ∧
      t.sched.ready = s.sched.ready.modify ((ctxOf s n).level - 1) (· ++ [n]) ∧
      (∀ m, m ≠ n → ctxOf t m = ctxOf s m) ∧ t.inv = s.inv := by
  obtain ⟨_, hlen, _⟩ := hts
  obtain ⟨hinv, hsched, _⟩ := heard_blocks hp
  let v := (modView (heard s h) sd grantedView).withSched { s.sched with woken := [n] }
  have hbody : takeGrant h sd (heard s h) = v := by
    rw [takeGrant_taken hn (by rw [view_heard hp]; exact hv) (by rw [view_heard hp]; exact ht)
      (by rw [view_heard hp]; exact hctx) (by rw [ctxOf_heard hp]; exact hst)
      (by rw [ctxOf_heard hp]; exact hw), hsched]
    rfl
  have hcalm : Calm v := calm_withSched (calm_modView (calm_heard hp hc) sd _ ⟨rfl, rfl⟩) _
  have e := onSide_calmOver (act := takeGrant h) hp hs hbody hcalm
  have hend : (receive h (onSide h (takeGrant h)) s).sched =
      { (toTail (v.withSched { s.sched with woken := [] }) n).sched with stepEnded := none } := by
    rw [receive_onSide hp hs, fullEvent, hbody, settle_calm _ hcalm, flushWoken_one (s := v) hn rfl hst]
    exact (endEvent_blocks _ _).sched
  have hctxs : ∀ m, ctxOf (receive h (onSide h (takeGrant h)) s) m =
      if m = n ∧ n < s.sched.ctxs.length then
        { ctxOf s n with state := .ready, wait := none, stamp := s.sched.nextStamp }
      else ctxOf s m := fun m => by
    rw [ctxOf, hend]
    exact ctxOf_toTail (v.withSched { s.sched with woken := [] }) n m
  refine ⟨_, rfl, ?_, ?_, ?_, fun m hm => ?_, ?_⟩
  · refine (e.view sd).trans ((modView_view _ _ _).trans ?_)
    rw [view_heard hp]
    rfl
  · refine (hctxs n).trans (if_pos ⟨rfl, ?_⟩)
    rw [hlen]
    exact hn
  · exact congrArg Sched.ready hend
  · exact (hctxs m).trans (if_neg fun hmn => hm hmn.1)
  · exact (e.inv.trans (modView_inv _ _ _)).trans hinv

/-- A slot frame that is only answered: the answer pends, and the contexts and the inventory stay. -/
theorem onSide_answered {act : Side → State → State} {g : Tag} {p : Payload} (hc : Calm s) (hp : Passes s h)
    (hs : sideOfStation s h.src = some sd) (hact : act sd (heard s h) = postSlot (heard s h) sd g p) :
    view (receive h (onSide h act) s) sd =
        { view s sd with pend := some (posted s.bus.seq (slotFrame s sd g p)) } ∧
      (receive h (onSide h act) s).sched.ctxs = s.sched.ctxs ∧
      (receive h (onSide h act) s).inv = s.inv := by
  obtain ⟨hinv, hsched, _, _, _, _, _, _, _, _, hseq, _⟩ := heard_blocks hp
  have e := onSide_calmOver hp hs hact (calm_postSlot (calm_heard hp hc) sd g p)
  refine ⟨?_, ?_, ?_⟩
  · rw [e.view sd, view_postSlot_self, view_heard hp, hseq, slotFrame_heard hp]
  · rw [e.still (by rw [postSlot_sched, hsched]; rfl), postSlot_sched, hsched]
    rfl
  · rw [e.inv, postSlot_inv, hinv]

end Grant

/-- Settles O51: a SLOT GRANT of the side's claim is taken, any other is answered. -/
theorem slotGrantGivesTheSide : Obligations.SlotGrantGivesTheSide := by
  refine ⟨fun s h b sd n hc hp hts hn hs hv ht hctx hst hw =>
    slotGrant_wakes b hc hp hts hn hs hv ht hctx hst hw, fun s h b sd hc hp hs hpend hno => ?_⟩
  have hact : takeGrant h sd (heard s h) = postSlot (heard s h) sd h.tag (.slotRefuse .busy) :=
    takeGrant_stale (by rw [view_heard hp]; exact hpend) (by rw [view_heard hp]; exact hno)
  obtain ⟨hview, hctxs, hinv⟩ := onSide_answered hc hp hs hact
  exact ⟨_, rfl, by rw [hview, slotFrame_back hs], hctxs, hinv⟩

end Sys2Proof.Machine
end

section
/-! PROOFS. Work on one slot side, and the refusal path of a claim. -/

namespace Sys2Proof.Machine

open Sys2Proof

-- In turn, so that the proofs do not hold more threads at once than the memory limit has stacks for.
set_option Elab.async false

/-! ### Work on one side -/

/-- What a claim's context and the other side see of `s` is as it was: `u` differs in side `sd`, the bus and
the scheduler's marks at most. -/
structure SideOnly (sd : Side) (s u : State) : Prop where
  ctxs : u.sched.ctxs = s.sched.ctxs
  inv : u.inv = s.inv
  board : u.board = s.board
  nextTag : u.slots.nextTag = s.slots.nextTag
  others : ∀ e, e ≠ sd → view u e = view s e ∧ nbr u e = nbr s e
  station : (nbr u sd).station = (nbr s sd).station

section SideOnly

variable {sd : Side} {s u : State}

theorem sideOnly_clearOut (s : State) : SideOnly sd s (clearOut s) :=
  ⟨rfl, rfl, rfl, rfl, fun _ _ => ⟨rfl, rfl⟩, rfl⟩

theorem sideOnly_heard {h : Header} (hp : Passes s h) (hs : sideOfStation s h.src = some sd) :
    SideOnly sd s (heard s h) := by
  obtain ⟨hinv, hsched, hslots, _, _, hboard, _⟩ := heard_blocks hp
  obtain ⟨_, _, hl⟩ := id hp
  refine ⟨by rw [hsched]; rfl, hinv, hboard, by rw [hslots], fun e he => ⟨view_heard hp e, ?_⟩,
    (nbr_heard_fixed hp sd).1⟩
  rw [nbr_heard s h hl, heardNbr_other hs he]

theorem SideOnly.ctxOf (h : SideOnly sd s u) (n : Nat) : ctxOf u n = ctxOf s n := by
  rw [Machine.ctxOf, h.ctxs, Machine.ctxOf]

theorem SideOnly.slotFrame (h : SideOnly sd s u) (e : Side) (g : Tag) (p : Payload) :
    slotFrame u e g p = slotFrame s e g p := by
  have hst : (nbr u e).station = (nbr s e).station := by
    by_cases he : e = sd
    · rw [he, h.station]
    · rw [(h.others e he).2]
  rw [Machine.slotFrame, frameOf, h.board, hst, Machine.slotFrame, frameOf]

theorem SideOnly.spillBin (h : SideOnly sd s u) (n : Nat) : spillBin u n = spillBin s n := by
  simp only [Machine.spillBin, h.ctxOf, column, h.inv]

theorem SideOnly.qualifies (h : SideOnly sd s u) {e : Side} (he : e ≠ sd) : qualifies u e = qualifies s e := by
  obtain ⟨hv, hn⟩ := h.others e he
  unfold Machine.qualifies sideClosed notBay absent
  rw [hv, hn]

theorem SideOnly.after_modView (h : SideOnly sd s u) (f : SlotView → SlotView) : SideOnly sd s (modView u sd f) :=
  ⟨by rw [modView_sched]; exact h.ctxs, by rw [modView_inv]; exact h.inv,
    (by cases sd <;> rfl : (modView u sd f).board = u.board).trans h.board,
    by rw [modView_nextTag]; exact h.nextTag,
    fun e he => ⟨(view_modView_ne u sd he f).trans (h.others e he).1, (nbr_modView u sd e f).trans (h.others e he).2⟩,
    by rw [nbr_modView]; exact h.station⟩

theorem nbr_of_bus {s t : State} (hw : t.bus.nbWest = s.bus.nbWest) (he : t.bus.nbEast = s.bus.nbEast) (e : Side) :
    nbr t e = nbr s e := by
  cases e
  · exact hw
  · exact he

theorem SideOnly.after_postSlot (h : SideOnly sd s u) (g : Tag) (p : Payload) :
    SideOnly sd s (postSlot u sd g p) := by
  have hm := h.after_modView (fun v =>
    { v with pend := some (pframe u (frameOf u 12 0 (sideStation u sd) g p)) })
  exact ⟨hm.ctxs, hm.inv, hm.board, hm.nextTag, fun e he => ⟨(view_bumpSeq _ e).trans (hm.others e he).1,
    (nbr_of_bus rfl rfl e).trans (hm.others e he).2⟩, (congrArg _ (nbr_of_bus rfl rfl sd)).trans hm.station⟩

theorem SideOnly.after_bus (h : SideOnly sd s u) (b : Bus) (hw : b.nbWest = u.bus.nbWest)
    (he : b.nbEast = u.bus.nbEast) : SideOnly sd s (u.withBus b) :=
  ⟨h.ctxs, h.inv, h.board, h.nextTag,
    fun e hne => ⟨(h.others e hne).1, (nbr_of_bus hw he e).trans (h.others e hne).2⟩,
    (congrArg _ (nbr_of_bus hw he sd)).trans h.station⟩

theorem SideOnly.after_marks (h : SideOnly sd s u) (v : Sched) (hv : v.ctxs = u.sched.ctxs) :
    SideOnly sd s (u.withSched v) := ⟨hv.trans h.ctxs, h.inv, h.board, h.nextTag, h.others, h.station⟩

end SideOnly

/-! ### Frames that leave a side with none waiting -/

/-- With no frame waiting, a side's pending frame leaves and none takes its place. -/
theorem slotFrameLeaves_last {s : State} {sd : Side} (h : (view s sd).waiting = []) :
    slotFrameLeaves s sd = modView s sd (fun v => { v with pend := none }) := by
  have hmm : ∀ (f g : SlotView → SlotView), modView (modView s sd f) sd g = modView s sd (fun v => g (f v)) := by
    intro f g
    cases sd <;> rfl
  rw [slotFrameLeaves, h, postFirst, hmm, modView, modView, ← h]

/-- Withdrawing a frame changes the frame in transmission at most. -/
theorem withdrawTx_eq (s : State) (q : Nat) : ∃ x, withdrawTx s q = s.withBus { s.bus with tx := x } ∧
    (∀ y, s.bus.tx = some y → y.pf.seq = q → x = some { y with withdrawn := true }) := by
  unfold withdrawTx
  split
  · rename_i hn
    exact ⟨s.bus.tx, rfl, fun y hy => by rw [hn] at hy; cases hy⟩
  · rename_i x hx
    split
    · exact ⟨_, rfl, fun y hy _ => by rw [hx] at hy; cases hy; rfl⟩
    · rename_i hne
      exact ⟨s.bus.tx, rfl, fun y hy hq => by rw [hx] at hy; cases hy; exact absurd hq hne⟩

/-! ### Views set free -/

/-- A wake-up marks STALLED contexts that wait for its reason. -/
theorem wakeOn_eq (s : State) (r : WaitReason) : ∃ l, wakeOn s r =
    s.withSched { s.sched with woken := s.sched.woken ++ l } ∧ ∀ m ∈ l, (ctxOf s m).wait = some r := by
  refine ⟨_, rfl, fun m hm => ?_⟩
  have hm2 := (List.mem_filter.mp hm).2
  simp only [decide_eq_true_eq] at hm2
  obtain ⟨_, hw⟩ := hm2
  cases hc : (ctxOf s m).wait with
  | none => rw [hc] at hw; cases hw
  | some w => rw [hc] at hw; simp only [Option.any_some, decide_eq_true_eq] at hw; rw [hw]

/-- With no claim withdrawn for a race, a view set FREE changes nothing else but the marks of the NO_ROOM
contexts it wakes. -/
theorem freeView_marks {s : State} {sd : Side} (h : (view s sd).raced = none) :
    ∃ l, freeView s sd = (modView s sd freedView).withSched { s.sched with woken := s.sched.woken ++ l } ∧
      ∀ m ∈ l, (ctxOf s m).wait = some .noRoom := by
  let t := modView s sd freedView
  have hctx : ∀ m, ctxOf t m = ctxOf s m := fun m => by rw [ctxOf, modView_sched]; rfl
  have hrace : ∀ w : State, w.slots = t.slots → settleRace w sd = w := fun w hw => by
    have hv : (view w sd).raced = none := by
      rw [view_of_slots hw, modView_view]
      exact h
    rw [settleRace, hv]
  have hun : freeView s sd = settleRace (if sideClosed t sd then t else wakeOn t .noRoom) sd := rfl
  rw [hun]
  split
  · rw [hrace _ rfl]
    refine ⟨[], ?_, fun m hm => by cases hm⟩
    rw [List.append_nil, ← modView_sched s sd freedView]
    rfl
  · obtain ⟨l, hl, hmem⟩ := wakeOn_eq t .noRoom
    rw [hrace (wakeOn t .noRoom) rfl, hl]
    refine ⟨l, ?_, fun m hm => by rw [← hctx]; exact hmem m hm⟩
    rw [show t.sched = s.sched from modView_sched s sd freedView]

/-! ### The refusal path (R47) -/

section Refusal

variable {sd : Side} {s u : State} {n : Nat}

theorem RefusalPathTaken.of_eq {v t : State} (h : RefusalPathTaken s v sd n) (hctx : ctxOf t n = ctxOf v n)
    (hview : view t .east = view v .east) : RefusalPathTaken s t sd n := by
  unfold RefusalPathTaken
  rw [hctx, hview]
  exact h

/-- Where the refusal path leaves the node: the context stays STALLED, and is not woken. -/
structure RefusalOver (sd : Side) (s : State) (n : Nat) (u v : State) : Prop where
  path : RefusalPathTaken s v sd n
  unwoken : n ∉ v.sched.woken
  side : view v sd = view u sd
  inv : v.inv = s.inv
  tx : v.bus.tx = u.bus.tx
  calm : Calm u → Calm v

/-- A claim puts the view in CLAIMING with its SLOT CLAIM pending, under the next claim tag. -/
theorem view_claimSide (u : State) (e : Side) (n : Nat) (b : BinId) : view (claimSide u e n b) e =
    { view u e with
      state := .claiming, tag := u.slots.nextTag, ctx := some n, bin := some b, claimTimer := none
      pend := some (posted u.bus.seq (slotFrame u e u.slots.nextTag (.slotClaim b))) } := by
  have h : view (postSlot (bumpTag u) e u.slots.nextTag (.slotClaim b)) e = { view u e with
      pend := some (posted u.bus.seq (slotFrame u e u.slots.nextTag (.slotClaim b))) } := by
    rw [view_postSlot_self, view_bumpTag]
    cases e <;> rfl
  rw [claimSide, modView_view, h]

theorem claimSide_leaves (u : State) (e : Side) (n : Nat) (b : BinId) :
    (claimSide u e n b).sched = u.sched ∧ (claimSide u e n b).inv = u.inv ∧
      (claimSide u e n b).bus.tx = u.bus.tx ∧ (claimSide u e n b).fire = u.fire ∧
      (claimSide u e n b).motion = u.motion ∧ ∀ k, k ≠ e → view (claimSide u e n b) k = view u k := by
  refine ⟨?_, ?_, ?_, ?_, ?_, fun k hk => ?_⟩
  · rw [claimSide, modView_sched, postSlot_sched]; rfl
  · rw [claimSide, modView_inv, postSlot_inv]; rfl
  · rw [claimSide, modView_bus, postSlot_tx]; rfl
  · rw [claimSide, modView_fire, postSlot_fire]; rfl
  · rw [claimSide, modView_motion, postSlot_motion]; rfl
  · rw [claimSide, view_modView_ne _ _ hk, view_postSlot, if_neg hk, view_bumpTag]

theorem calm_claimSide (hc : Calm u) (e : Side) (n : Nat) (b : BinId) : Calm (claimSide u e n b) := by
  obtain ⟨_, hinv, _, hfire, hmotion, hother⟩ := claimSide_leaves u e n b
  refine calm_of_parts hc hfire hmotion hinv fun k => ?_
  by_cases hk : k = e
  · rw [hk, view_claimSide]
    exact ⟨rfl, rfl⟩
  · rw [hother k hk]
    exact ⟨rfl, rfl⟩

theorem stalled_noRoom {c : Ctx} (h : c.state = .stalled) :
    { c with state := .stalled, wait := some .noRoom } = { c with wait := some .noRoom } := by
  rw [← h]

/-- The refusal path of a context STALLED for the answer, from a state in which the refused side is settled. -/
theorem refusalPath_over (h : SideOnly sd s u) (hun : n ∉ u.sched.woken) (hn : n < s.sched.ctxs.length)
    (hst : (ctxOf s n).state = .stalled) (hw : (ctxOf s n).wait = some .slotWait) :
    RefusalOver sd s n u (refusalPath u n sd) := by
  have hstalled : stalledOn u n .slotWait = true := by simp [stalledOn, h.ctxOf, hst, hw]
  rw [refusalPath, if_pos hstalled]
  by_cases hcase : sd = .west ∧ qualifies u .east = true
  · obtain ⟨rfl, hq⟩ := hcase
    have hne : Side.east ≠ .west := Side.noConfusion
    obtain ⟨hsched, hinv, htx, _, _, hother⟩ := claimSide_leaves u .east n (spillBin u n)
    rw [if_pos ⟨rfl, hq⟩]
    refine ⟨?_, by rw [hsched]; exact hun, hother _ (Ne.symm hne), hinv.trans h.inv, htx,
      fun hc => calm_claimSide hc _ _ _⟩
    rw [RefusalPathTaken, if_pos ⟨rfl, by rw [← h.qualifies hne]; exact hq⟩]
    refine ⟨by rw [ctxOf, hsched]; exact h.ctxOf n, u.bus.seq, ?_⟩
    rw [view_claimSide, h.slotFrame, h.nextTag, h.spillBin, (h.others _ hne).1]
  · rw [if_neg hcase]
    refine ⟨?_, hun, rfl, h.inv, rfl, fun hc => hc⟩
    have hno : ¬ (sd = .west ∧ qualifies s .east = true) := by
      rintro ⟨rfl, hq⟩
      exact hcase ⟨rfl, by rw [h.qualifies Side.noConfusion]; exact hq⟩
    rw [RefusalPathTaken, if_neg hno, stall, ctxOf_modCtx, if_pos (by rw [h.ctxs]; exact hn), h.ctxOf,
      stalled_noRoom hst]

/-- A claim refused outright: the view FREE, and the refusal path of its context. -/
theorem claimRefused_over (h : SideOnly sd s u) (hun : n ∉ u.sched.woken) (hn : n < s.sched.ctxs.length)
    (hst : (ctxOf s n).state = .stalled) (hw : (ctxOf s n).wait = some .slotWait)
    (hctx : (view u sd).ctx = some n) (hrace : (view u sd).raced = none) :
    RefusalOver sd s n (modView u sd freedView) (claimRefused u sd) := by
  obtain ⟨l, hl, hmem⟩ := freeView_marks hrace
  have hn' : n ∉ u.sched.woken ++ l := by
    rw [List.mem_append]
    rintro (hm | hm)
    · exact hun hm
    · have := hmem n hm
      rw [h.ctxOf, hw] at this
      cases this
  have hf : SideOnly sd s ((modView u sd freedView).withSched { u.sched with woken := u.sched.woken ++ l }) :=
    (h.after_modView freedView).after_marks _ (by rw [modView_sched])
  have ho := refusalPath_over hf hn' hn hst hw
  rw [claimRefused, hctx, hl]
  exact ⟨ho.path, ho.unwoken, ho.side, ho.inv, ho.tx, ho.calm⟩

end Refusal

end Sys2Proof.Machine
end

section
/-! PROOFS. A grant voided (R111): what its SPILL context's end leaves of the side and of the other contexts'
duties. -/

namespace Sys2Proof.Machine

open Sys2Proof

-- In turn, so that the proofs do not hold more threads at once than the memory limit has stacks for.
set_option Elab.async false

/-! ### What other contexts' ends do not touch -/

/-- What the judgement of a claim reads of a context: its state, and the record it carries. -/
def Ctx.duty (c : Ctx) : CtxState × Option Carried := (c.state, c.carried)

/-- What the judgement of a claim reads of the context table. -/
def duties (s : State) : List (CtxState × Option Carried) := s.sched.ctxs.map Ctx.duty

theorem duties_setCtx (s : State) (n : Nat) (c : Ctx) : duties (setCtx s n c) = (duties s).set n c.duty :=
  List.map_set

/-- A change that keeps a context's duty keeps them all. -/
theorem duties_modCtx (s : State) (n : Nat) (f : Ctx → Ctx) (hf : (f (ctxOf s n)).duty = (ctxOf s n).duty) :
    duties (modCtx s n f) = duties s := by
  rw [modCtx, duties_setCtx, hf]
  by_cases hn : n < s.sched.ctxs.length
  · have hget : (ctxOf s n).duty = (duties s)[n]'(by simpa [duties] using hn) := by
      simp [ctxOf, duties, hn]
    rw [hget, List.set_getElem_self]
  · exact List.set_eq_of_length_le (by simpa [duties] using hn)

/-- `t` shows the view `v` of side `sd` and the duties `d`. -/
structure Shows (sd : Side) (v : SlotView) (d : List (CtxState × Option Carried)) (t : State) : Prop where
  side : view t sd = v
  duties : duties t = d

section Shows

variable {sd : Side} {v : SlotView} {d : List (CtxState × Option Carried)} {t : State}

theorem Shows.congr (h : Shows sd v d t) (u : State) (hs : u.slots = t.slots := by rfl)
    (hc : u.sched.ctxs = t.sched.ctxs := by rfl) : Shows sd v d u :=
  ⟨(view_of_slots hs sd).trans h.side, (congrArg (List.map Ctx.duty) hc).trans h.duties⟩

theorem Shows.modCtx (h : Shows sd v d t) (n : Nat) (f : Ctx → Ctx)
    (hf : (f (ctxOf t n)).duty = (ctxOf t n).duty) : Shows sd v d (modCtx t n f) :=
  ⟨h.side, (duties_modCtx t n f hf).trans h.duties⟩

theorem Shows.modView_ne (h : Shows sd v d t) {e : Side} (he : e ≠ sd) (f : SlotView → SlotView) :
    Shows sd v d (modView t e f) :=
  ⟨(view_modView_ne t e he.symm f).trans h.side, by rw [Machine.duties, modView_sched]; exact h.duties⟩

theorem Shows.postSlot_ne (h : Shows sd v d t) {e : Side} (he : e ≠ sd) (g : Tag) (p : Payload) :
    Shows sd v d (postSlot t e g p) := (h.modView_ne he _).congr _

theorem Shows.answerSlot_ne (h : Shows sd v d t) {e : Side} (he : e ≠ sd) (g : Tag) (p : Payload) :
    Shows sd v d (answerSlot t e g p) := by
  unfold answerSlot
  split
  · exact h.postSlot_ne he g p
  · exact h

theorem withdrawTx_slots (s : State) (q : Nat) : (withdrawTx s q).slots = s.slots := by
  obtain ⟨x, hx, _⟩ := withdrawTx_eq s q
  rw [hx]
  rfl

theorem Shows.withdrawTx (h : Shows sd v d t) (q : Nat) : Shows sd v d (withdrawTx t q) :=
  h.congr _ (withdrawTx_slots t q) (congrArg Sched.ctxs (withdrawTx_sched t q))

/-! ### Notices -/

theorem Shows.loadNotice (h : Shows sd v d t) (n : Nat) (b : NoticeBody) : Shows sd v d (loadNotice t n b) := by
  let u := t.withSched
    { t.sched with
      notice := t.sched.notice.filter (fun m => inTransmission t m.pf.seq) ++
        [{ ctx := n, pf := pframe t (noticeFrame t n b) }] }
  have hu : Shows sd v d u := h.congr u
  exact (hu.modCtx n (fun c => { c with noticeOwed := false }) rfl).congr _

theorem Shows.loadOwed (h : Shows sd v d t) : Shows sd v d (loadOwed t) := by
  unfold Machine.loadOwed
  split
  · exact h
  · split
    · exact h
    · exact h.loadNotice _ _

theorem Shows.withdrawNotice (h : Shows sd v d t) (n : Nat) : Shows sd v d (withdrawNotice t n) := by
  have hfold : ∀ (l : List Notice) (w : State), Shows sd v d w →
      Shows sd v d (l.foldl (fun u m => Machine.withdrawTx u m.pf.seq) w) := by
    intro l
    induction l with
    | nil => exact fun _ hw => hw
    | cons a as ih => exact fun w hw => ih _ (hw.withdrawTx _)
  unfold Machine.withdrawNotice
  dsimp only
  split
  · exact h
  · unfold noticeLeaves
    dsimp only
    split
    · exact ((hfold _ _ h).congr _).loadOwed
    · exact (hfold _ _ h).congr _

/-! ### Claims of the other side -/

/-- The refusal path of a claim: the side it claims is a FREE one. -/
theorem Shows.refusalPath (h : Shows sd v d t) (hv : v.state ≠ .free) (n : Nat) (e : Side) :
    Shows sd v d (refusalPath t n e) := by
  unfold Machine.refusalPath
  split
  · rename_i hst
    split
    · rename_i hq
      have hne : Side.east ≠ sd := by
        rintro rfl
        exact hv (h.side ▸ qualifies_free hq.2)
      obtain ⟨hsched, _, _, _, _, hother⟩ := claimSide_leaves t .east n (spillBin t n)
      exact ⟨(hother sd hne.symm).trans h.side, by rw [Machine.duties, hsched]; exact h.duties⟩
    · have hs : (ctxOf t n).state = .stalled := by
        simp only [stalledOn, decide_eq_true_eq] at hst
        exact hst.1
      exact h.modCtx n _ (by simp [Ctx.duty, hs])
  · exact h

theorem Shows.freeView_ne (h : Shows sd v d t) (hv : v.state ≠ .free) {e : Side} (he : e ≠ sd) :
    Shows sd v d (freeView t e) := by
  have hrace : ∀ w, Shows sd v d w → Shows sd v d (settleRace w e) := fun w hw => by
    unfold settleRace
    split
    · exact hw
    · exact (hw.modView_ne he _).refusalPath hv _ _
  have hm := h.modView_ne he freedView
  refine hrace _ ?_
  split
  · exact hm
  · exact hm.congr _

theorem Shows.postFirst_ne (h : Shows sd v d t) {e : Side} (he : e ≠ sd) (l : List SlotWait) :
    Shows sd v d (postFirst t e l) := by
  have hw : ∀ w u, Shows sd v d u → Shows sd v d (postWaiting u e w) := fun w u hu => by
    unfold postWaiting
    split
    · exact hu.postSlot_ne he _ _
    · split
      · split
        · exact hu.postSlot_ne he _ _
        · exact hu
      · exact hu
  induction l generalizing t with
  | nil => exact h.modView_ne he _
  | cons a as ih =>
    unfold postFirst
    dsimp only
    split
    · exact hw a _ (h.modView_ne he _)
    · exact ih h

theorem Shows.unpostClaim_ne (h : Shows sd v d t) {e : Side} (he : e ≠ sd) : Shows sd v d (unpostClaim t e) := by
  unfold unpostClaim
  split
  · exact h
  · exact ((h.withdrawTx _).modView_ne he _).postFirst_ne he _

/-! ### A context's claims and races end with it -/

theorem Shows.leaveRace (h : Shows sd v d t) (hv : v.raced = none) (n : Nat) (e : Side) :
    Shows sd v d (leaveRace n t e) := by
  unfold Machine.leaveRace
  split
  · rename_i hr
    refine h.modView_ne (fun he => ?_) _
    rw [he, h.side, hv] at hr
    cases hr
  · exact h

theorem Shows.leaveView_ne (h : Shows sd v d t) (hv : v.state ≠ .free) (n : Nat) {e : Side} (he : e ≠ sd) :
    Shows sd v d (leaveView n t e) := by
  unfold leaveView
  split
  · split
    · split
      · exact (h.unpostClaim_ne he).freeView_ne hv he
      · exact h.modView_ne he _
    · exact (h.freeView_ne hv he).answerSlot_ne he _ _
    · exact h.modView_ne he _
  · exact h

end Shows

/-! ### A grant voided -/

/-- The side whose grant's context ends. -/
def leftView (v : SlotView) : SlotView := { v with ctx := none }

theorem doneQ_forgetStep (s : State) (n : Nat) : (forgetStep s n).sched.doneQ = s.sched.doneQ := by
  unfold forgetStep
  dsimp only
  split <;> rfl

theorem Shows.forgetStep {sd : Side} {v : SlotView} {d : List (CtxState × Option Carried)} {t : State}
    (h : Shows sd v d t) (n : Nat) : Shows sd v d (forgetStep t n) := by
  unfold Machine.forgetStep
  dsimp only
  split
  · exact h.congr _
  · exact h.congr _

theorem moveOverflow_slots (s : State) : (moveOverflow s).slots = s.slots := by
  unfold moveOverflow
  split
  · rfl
  · split <;> rfl

/-- A granted context leaves its own THEIRS side. -/
theorem leaveView_theirs {s : State} {sd : Side} {n : Nat} (hst : (view s sd).state = .theirs)
    (hctx : (view s sd).ctx = some n) : leaveView n s sd = modView s sd leftView := by
  rw [leaveView, if_pos hctx, hst]
  rfl

/-- The end of a granted context leaves the side without it, and no other context's duty changed. -/
theorem endCtx_shows {s : State} {sd : Side} {n : Nat} (o : JobOutcome) (k : Nat)
    (hst : (view s sd).state = .theirs) (hctx : (view s sd).ctx = some n) (hrace : (view s sd).raced = none)
    (hlive : (ctxOf s n).state ≠ .free ∧ (ctxOf s n).state ≠ .ending) (hroom : s.sched.doneQ.length < 8) :
    Shows sd (leftView (view s sd)) ((duties s).set n Ctx.blank.duty) (endCtx s n o k) := by
  have hv : (view s sd).state ≠ .free := by rw [hst]; exact ViewState.noConfusion
  let d := (duties s).set n Ctx.blank.duty
  let v := view s sd
  have hleave : ∀ u, Shows sd v d u → Shows sd (leftView v) d (leaveView n u sd) := fun u hu => by
    rw [leaveView_theirs (by rw [hu.side]; exact hst) (by rw [hu.side]; exact hctx)]
    exact ⟨by rw [modView_view, hu.side], by rw [duties, modView_sched]; exact hu.duties⟩
  have hsides : ∀ u, Shows sd v d u → Shows sd (leftView v) d (sides.foldl (leaveView n) u) := fun u hu => by
    cases sd
    · exact (hleave u hu).leaveView_ne hv n Side.noConfusion
    · exact hleave _ (hu.leaveView_ne hv n Side.noConfusion)
  let s0 := withdrawNotice (forgetStep (leaveList s n) n) n
  have h0 : Shows sd v (duties s) s0 :=
    (((Shows.mk rfl rfl : Shows sd v (duties s) s).congr (leaveList s n)).forgetStep n).withdrawNotice n
  have hq : s0.sched.doneQ.length < 8 := by rw [doneQ_withdrawNotice, doneQ_forgetStep]; exact hroom
  let s1 := reportEnd s0 n (doneBody n (ctxOf s n) o k)
  have h1 : Shows sd v d s1 := by
    have hset : Shows sd v d (setCtx s0 n Ctx.blank) := ⟨h0.side, by rw [duties_setCtx, h0.duties]⟩
    rw [show s1 = pushDone (setCtx s0 n Ctx.blank) _ from if_pos hq]
    exact hset.congr _
  have h2 : Shows sd v d (moveOverflow s1) :=
    h1.congr _ (moveOverflow_slots s1) (congrArg Sched.ctxs (moveOverflow_sched s1))
  rw [endCtx, if_neg (by simp [hlive])]
  exact hsides _ (((h2.congr _).leaveRace hrace n .west).leaveRace hrace n .east)

/-- A grant voided with its SPILL context's record reported (R111). -/
structure Voided (s : State) (sd : Side) (n : Nat) (t : State) : Prop where
  within : Within Scope.ending s t
  side : view t sd = freedView (view s sd)
  ctx : ctxOf t n = Ctx.blank
  duties : duties t = (duties s).set n Ctx.blank.duty
  done : ∃ e, t.sched.doneQ = s.sched.doneQ ++ [e] ∧ e.body = doneBody n (ctxOf s n) .removed 0

theorem voidGrant_removes {s : State} {sd : Side} {n : Nat} (hn : n < s.sched.ctxs.length)
    (hst : (view s sd).state = .theirs) (hctx : (view s sd).ctx = some n) (hrace : (view s sd).raced = none)
    (hlive : (ctxOf s n).state ≠ .free ∧ (ctxOf s n).state ≠ .ending) (hroom : s.sched.doneQ.length < 8) :
    Voided s sd n (voidGrant s sd) := by
  let u := endCtx s n .removed 0
  have hu : Shows sd (leftView (view s sd)) ((duties s).set n Ctx.blank.duty) u :=
    endCtx_shows .removed 0 hst hctx hrace hlive hroom
  obtain ⟨hblank, e, hdone, hbody⟩ := endCtx_reported .removed 0 hn hlive hroom
  have hw : Within Scope.ending s u := (Within.refl _ s).after_endCtx trivial trivial .removed 0
  have hvoid : voidGrant s sd = freeView u sd := by rw [voidGrant, if_pos hst, hctx]
  obtain ⟨l, hl, _⟩ := freeView_marks (s := u) (sd := sd) (by rw [hu.side]; exact hrace)
  have hloaded : (view u sd).state ≠ .loadedOut := by
    rw [hu.side, leftView, hst]
    exact ViewState.noConfusion
  have hwf := hw.after_freeView sd (Or.inr hloaded)
  rw [hvoid]
  refine ⟨hwf, ?_, ?_, ?_, e, ?_, hbody⟩
  · rw [hl]
    refine (modView_view u sd _).trans ?_
    rw [hu.side]
    rfl
  · rw [hl]; exact hblank
  · rw [hl]; exact hu.duties
  · rw [hl]; exact hdone

section Voided

variable {s t : State} {sd : Side} {n : Nat}

theorem Voided.calm (h : Voided s sd n t) (hc : Calm s) : Calm t :=
  h.within.calm (fun hf => hf) (fun hf => hf) hc

theorem Voided.inv (h : Voided s sd n t) (hc : Calm s) : t.inv = s.inv := by
  obtain ⟨_, _, hover, _⟩ := hc
  exact h.within.inv fun _ => hover

end Voided

end Sys2Proof.Machine
end

section
/-! PROOFS. SLOT REFUSE and the claim window (O52). -/

namespace Sys2Proof.Machine

open Sys2Proof

-- In turn, so that the proofs do not hold more threads at once than the memory limit has stacks for.
set_option Elab.async false

/-! ### O52 -/

section Refuse

variable {s : State} {h : Header} {sd : Side} {n : Nat}

theorem calm_freed {u : State} (hc : Calm u) (sd : Side) : Calm (modView u sd freedView) := by
  refine calm_modView hc sd _ ⟨rfl, ?_⟩
  obtain ⟨_, _, _, _, hviews⟩ := hc
  exact (hviews sd (by cases sd <;> decide)).2.symm

/-- A claim refused on a calm node, whatever refuses it: the view FREE, and the refusal path of its context. -/
theorem claimRefused_ends {u : State} {body : State → State} (h : SideOnly sd s u) (hu : Calm u)
    (hb : body (clearOut s) = claimRefused u sd) (hwoken : u.sched.woken = []) (hts : TablesSized s)
    (hn : n < 16) (hrace : (view u sd).raced = none) (hctx : (view u sd).ctx = some n)
    (hst : (ctxOf s n).state = .stalled) (hw : (ctxOf s n).wait = some .slotWait) :
    view (fullEvent body s) sd = freedView (view u sd) ∧ RefusalPathTaken s (fullEvent body s) sd n ∧
      (fullEvent body s).inv = s.inv := by
  obtain ⟨_, hlen, _⟩ := hts
  have ho : RefusalOver sd s n (modView u sd freedView) (claimRefused u sd) :=
    claimRefused_over h (by rw [hwoken]; exact List.not_mem_nil) (by rw [hlen]; exact hn) hst hw hctx hrace
  have e := fullEvent_calmOver hb (ho.calm (calm_freed hu sd))
  refine ⟨?_, ho.path.of_eq (e.unwoken n ho.unwoken) (e.view .east), e.inv.trans ho.inv⟩
  rw [e.view sd, ho.side, modView_view]

/-- A SLOT REFUSE with the tag of a claim, and the end of its window, refuse the claim. -/
theorem claim_refused (c : Instr) (r : Nat) (hc : Calm s) (hts : TablesSized s) (hn : n < 16)
    (hcmd : c = .slotRefuse h r ∧ Passes s h ∧ sideOfStation s h.src = some sd ∧ (view s sd).tag = h.tag ∨
      c = .claimTimerExpiry sd ∧ (view s sd).claimTimer.isSome)
    (hv : (view s sd).state = .claiming) (hrace : (view s sd).raced = none) (hctx : (view s sd).ctx = some n)
    (hst : (ctxOf s n).state = .stalled) (hw : (ctxOf s n).wait = some .slotWait) :
    ∃ t, exec c s = .next t ∧ (view t sd).state = .free ∧ (view t sd).ctx = none ∧
      (view t sd).claimTimer = none ∧ RefusalPathTaken s t sd n ∧ t.inv = s.inv := by
  rcases hcmd with ⟨rfl, hp, hs, htag⟩ | ⟨rfl, htimer⟩
  · have hb : takeSlotRefuse h sd (heard s h) = claimRefused (heard s h) sd := by
      simp only [takeSlotRefuse, view_heard hp, htag, hv, if_true]
    obtain ⟨_, hsched, _⟩ := heard_blocks hp
    have hvh := view_heard hp sd
    obtain ⟨hview, hpath, hinv⟩ := claimRefused_ends (body := fun _ => takeSlotRefuse h sd (heard s h))
      (sideOnly_heard hp hs) (calm_heard hp hc) hb (congrArg Sched.woken hsched) hts hn
      (by rw [hvh]; exact hrace) (by rw [hvh]; exact hctx) hst hw
    refine ⟨_, congrArg Host.Outcome.next (receive_onSide hp hs _), ?_, ?_, ?_, hpath, hinv⟩ <;> rw [hview] <;> rfl
  · have hb : claimExpiry sd (clearOut s) = claimRefused (clearOut s) sd := if_pos ⟨hv, htimer⟩
    obtain ⟨hview, hpath, hinv⟩ := claimRefused_ends (sideOnly_clearOut s) ((calm_clearOut s).mpr hc) hb
      rfl hts hn hrace hctx hst hw
    refine ⟨_, rfl, ?_, ?_, ?_, hpath, hinv⟩ <;> rw [hview] <;> rfl

/-- A grant voided, by the end of the event that voided it. -/
theorem Voided.removed {u v t : State} (hvd : Voided u sd n v) (e : CalmOver v t) (hinv : v.inv = s.inv)
    (hctx : ctxOf u n = ctxOf s n) (hkind : (ctxOf s n).kind = .spill) : SpillRemoved s t sd n := by
  obtain ⟨d, hdone, hbody⟩ := hvd.done
  have hside : view t sd = freedView (view u sd) := (e.view sd).trans hvd.side
  refine ⟨by rw [hside]; rfl, by rw [hside]; rfl, ?_, ⟨d, ?_, ?_⟩, e.inv.trans hinv⟩
  · rw [e.ctx n (by rw [hvd.ctx]; exact CtxState.noConfusion)]
    exact hvd.ctx
  · rw [e.doneQ, hdone]
    exact List.mem_append_right _ List.mem_cons_self
  · rw [hbody, doneBody, hctx, hkind]
    exact ⟨rfl, rfl, rfl, rfl, rfl, rfl⟩

/-- What the voiding of a grant asks of the state is there once the frame has been heard. -/
theorem voidGrant_heard (hp : Passes s h) (hts : TablesSized s) (hn : n < 16) (hv : (view s sd).state = .theirs)
    (hctx : (view s sd).ctx = some n) (hrace : (view s sd).raced = none) (hst : (ctxOf s n).state = .awaiting)
    (hroom : s.sched.doneQ.length < 8) : Voided (heard s h) sd n (voidGrant (heard s h) sd) := by
  obtain ⟨_, hlen, _⟩ := hts
  obtain ⟨_, hsched, _⟩ := heard_blocks hp
  refine voidGrant_removes ?_ ?_ ?_ ?_ ?_ ?_
  · rw [hsched]; exact lt_of_lt_of_eq hn hlen.symm
  · rw [view_heard hp]; exact hv
  · rw [view_heard hp]; exact hctx
  · rw [view_heard hp]; exact hrace
  · rw [ctxOf_heard hp, hst]; exact ⟨CtxState.noConfusion, CtxState.noConfusion⟩
  · rw [hsched]; exact hroom

theorem grant_released (r : Nat) (hc : Calm s) (hp : Passes s h) (hts : TablesSized s) (hn : n < 16)
    (hs : sideOfStation s h.src = some sd) (hv : (view s sd).state = .theirs) (htag : (view s sd).tag = h.tag)
    (hctx : (view s sd).ctx = some n) (hrace : (view s sd).raced = none) (hst : (ctxOf s n).state = .awaiting)
    (hkind : (ctxOf s n).kind = .spill) (hroom : s.sched.doneQ.length < 8) :
    ∃ t, exec (.slotRefuse h r) s = .next t ∧ SpillRemoved s t sd n := by
  have hvd := voidGrant_heard hp hts hn hv hctx hrace hst hroom
  have hact : takeSlotRefuse h sd (heard s h) = voidGrant (heard s h) sd := by
    simp only [takeSlotRefuse, view_heard hp, htag, hv, if_true]
  have e := onSide_calmOver hp hs hact (hvd.calm (calm_heard hp hc))
  obtain ⟨hinv, _⟩ := heard_blocks hp
  exact ⟨_, rfl, hvd.removed e ((hvd.inv (calm_heard hp hc)).trans hinv) (ctxOf_heard hp n) hkind⟩

/-- A slot frame whose taking changes the side's view alone. -/
theorem onSide_modView {act : Side → State → State} {f : SlotView → SlotView} (hc : Calm s) (hp : Passes s h)
    (hs : sideOfStation s h.src = some sd) (hact : act sd (heard s h) = modView (heard s h) sd f)
    (hf : (f (view s sd)).fireClosed = (view s sd).fireClosed ∧
      (f (view s sd)).resendOwed = (view s sd).resendOwed) :
    view (receive h (onSide h act) s) sd = f (view s sd) ∧ (receive h (onSide h act) s).inv = s.inv ∧
      (receive h (onSide h act) s).sched.ctxs = s.sched.ctxs := by
  obtain ⟨hinv, hsched, _⟩ := heard_blocks hp
  have e := onSide_calmOver hp hs hact (calm_modView (calm_heard hp hc) sd f (by rw [view_heard hp]; exact hf))
  refine ⟨?_, ?_, ?_⟩
  · rw [e.view sd, modView_view, view_heard hp]
  · rw [e.inv, modView_inv, hinv]
  · rw [e.still (by rw [modView_sched, hsched]; rfl), modView_sched, hsched]
    rfl

/-- A slot frame that is only heard. -/
theorem onSide_ignored {act : Side → State → State} (hc : Calm s) (hp : Passes s h)
    (hs : sideOfStation s h.src = some sd) (hact : act sd (heard s h) = heard s h) :
    (receive h (onSide h act) s).slots = s.slots ∧ (receive h (onSide h act) s).inv = s.inv ∧
      (receive h (onSide h act) s).sched.ctxs = s.sched.ctxs := by
  obtain ⟨hinv, hsched, hslots, _⟩ := heard_blocks hp
  have e := onSide_calmOver hp hs hact (calm_heard hp hc)
  refine ⟨e.slots.trans hslots, e.inv.trans hinv, ?_⟩
  rw [e.still (by rw [hsched]; rfl), hsched]
  rfl

end Refuse

/-- Settles O52: a SLOT REFUSE by the state of the side its tag fits, and the end of the claim window. -/
theorem slotRefusalIsTaken : Obligations.SlotRefusalIsTaken := by
  refine ⟨fun s h c sd r n hc hts hn hcmd hv hrace hctx hst hw =>
      claim_refused c r hc hts hn hcmd hv hrace hctx hst hw,
    fun s h r sd hc hp hs hv htag => ?_,
    fun s h r sd n hc hp hts hn hs hv htag hctx hrace hst hkind hroom =>
      grant_released r hc hp hts hn hs hv htag hctx hrace hst hkind hroom,
    fun s h r sd hc hp hs htag => ?_⟩
  · have hact : takeSlotRefuse h sd (heard s h) =
        modView (heard s h) sd (fun v => { v with loadRefused := true }) := by
      simp only [takeSlotRefuse, view_heard hp, htag, hv, if_true]
    exact ⟨_, rfl, onSide_modView hc hp hs hact ⟨rfl, rfl⟩⟩
  · have hact : takeSlotRefuse h sd (heard s h) = heard s h :=
      if_neg (by rw [view_heard hp]; exact htag)
    exact ⟨_, rfl, onSide_ignored hc hp hs hact⟩

end Sys2Proof.Machine
end

section
/-! PROOFS. The judgement of a neighbour's claim (R106): what it reads, and what it answers. -/

namespace Sys2Proof.Machine

open Sys2Proof

-- In turn, so that the proofs do not hold more threads at once than the memory limit has stacks for.
set_option Elab.async false

/-! ### What the judgement reads -/

theorem ctxOf_duty (s : State) (n : Nat) : (ctxOf s n).duty = (duties s).getD n Ctx.blank.duty := by
  rw [duties, List.getD_map, ctxOf]

theorem freeCtx?_duties {s u : State} (h : duties u = duties s) : freeCtx? u = freeCtx? s := by
  have hstate : ∀ n, (ctxOf u n).state = (ctxOf s n).state := fun n =>
    congrArg Prod.fst (show (ctxOf u n).duty = (ctxOf s n).duty by rw [ctxOf_duty, ctxOf_duty, h])
  simp only [freeCtx?, hstate]

theorem committed_duties {s u : State} (h : duties u = duties s) : committed u = committed s := by
  have hc : ∀ w, committed w = (duties w).countP (fun d => d.1 = .bidding ∨ d.1 = .awaiting) := fun w => by
    rw [duties, List.countP_map]
    rfl
  rw [hc, hc, h]

theorem isCarried_duties {s u : State} (h : duties u = duties s) (b : BinId) : isCarried u b = isCarried s b := by
  have hc : ∀ w, isCarried w b = (duties w).any (fun d =>
      match d.2 with
      | some (.foreign r) => r.bin = b
      | _ => false) := fun w => by
    rw [duties, List.any_map]
    rfl
  rw [hc, hc, h]

/-- The judgement of a claim on side `sd` reads the same in `u` as in `s`. -/
structure Alike (sd : Side) (s u : State) : Prop where
  fire : u.fire = s.fire
  setup : u.setup = s.setup
  det : u.det = s.det
  board : u.board = s.board
  inv : u.inv = s.inv
  duties : duties u = duties s
  fireClosed : (view u sd).fireClosed = (view s sd).fireClosed
  notBay : notBay u sd = notBay s sd

section Alike

variable {sd : Side} {s t u : State}

theorem Alike.trans (h : Alike sd s t) (g : Alike sd t u) : Alike sd s u :=
  ⟨g.fire.trans h.fire, g.setup.trans h.setup, g.det.trans h.det, g.board.trans h.board, g.inv.trans h.inv,
    g.duties.trans h.duties, g.fireClosed.trans h.fireClosed, g.notBay.trans h.notBay⟩

theorem Alike.freeCtx (h : Alike sd s u) : freeCtx? u = freeCtx? s := freeCtx?_duties h.duties

theorem Alike.gradeWarns (h : Alike sd s u) : gradeWarns u = gradeWarns s := by
  have hf : fittedInputs u = fittedInputs s := by rw [fittedInputs, h.det, h.setup, fittedInputs]
  rw [Machine.gradeWarns, bayGrade, hf, Machine.gradeWarns, bayGrade]

theorem Alike.canCommit (h : Alike sd s u) : canCommit u = canCommit s := by
  rw [Machine.canCommit, h.freeCtx, committed_duties h.duties, Machine.canCommit]

theorem Alike.freePositions (h : Alike sd s u) : freePositions u = freePositions s := by
  have hcol : bayColumns u = bayColumns s := by
    rw [bayColumns, columnCount, h.inv, h.board, bayColumns, columnCount]
  have hfree : columnFree u = columnFree s := funext fun k => by rw [columnFree, h.board, columnFree]
  rw [Machine.freePositions, hcol, hfree, Machine.freePositions]

theorem Alike.holdsBin (h : Alike sd s u) (b : BinId) : holdsBin u b = holdsBin s b := by
  rw [Machine.holdsBin, recordOf, h.inv, isCarried_duties h.duties, Machine.holdsBin, recordOf]

theorem Alike.claimReason (h : Alike sd s u) (b : BinId) : claimReason u sd b = claimReason s sd b := by
  unfold Machine.claimReason
  rw [h.fire, h.gradeWarns, h.fireClosed, h.notBay, h.setup, h.canCommit, h.freePositions, h.holdsBin]

theorem alike_heard {h : Header} (hp : Passes s h) (sd : Side) : Alike sd s (heard s h) := by
  obtain ⟨hinv, hsched, _, _, hfire, hboard, hsetup, hdet, _⟩ := heard_blocks hp
  exact ⟨hfire, hsetup, hdet, hboard, hinv, by rw [Machine.duties, hsched]; rfl, by rw [view_heard hp],
    notBay_heard hp sd⟩

/-- The end of a grant's context leaves the judgement that of the state without the context. -/
theorem Voided.alike {n : Nat} (h : Voided s sd n u) (hc : Calm s) : Alike sd (setCtx s n Ctx.blank) u := by
  have hk := kept_of_lasting h.within.lasts
  simp only [kept, Prod.mk.injEq] at hk
  obtain ⟨hboard, _, _, hdet, _, _, hsetup, _, _, _, _, _, hwest, heast⟩ := hk
  have hn : nbr u sd = nbr s sd := nbr_of_bus hwest heast sd
  exact ⟨h.within.fire, hsetup, hdet, hboard, h.inv hc, by rw [duties_setCtx]; exact h.duties,
    by rw [h.side]; rfl, by rw [Machine.notBay, hn]; rfl⟩

end Alike

/-! ### What the judgement says -/

section Judged

variable {s : State} {sd : Side} {b : BinId}

/-- The reason order of R106, in RUN with the side not closed for fire. -/
theorem claimReason_eq (hc : Calm s) : claimReason s sd b =
    if SideHazard s sd then some .hazard
    else if s.setup.spill = 0 then some .classOff
    else if canCommit s = false then some .tableFull
    else if freePositions s < s.setup.reserve + 1 then some .noRoom
    else if holdsBin s b then some .busy
    else none := by
  obtain ⟨hrun, _, _, _, hviews⟩ := hc
  have hclosed := (hviews sd (by cases sd <;> decide)).1
  have hiff : (s.fire.node ≠ .run ∨ gradeWarns s = true ∨ s.fire.latch = true ∨
      (view s sd).fireClosed = true ∨ notBay s sd = true) ↔ SideHazard s sd := by
    simp [hrun, hclosed, SideHazard, gradeWarns]
  unfold claimReason
  simp only [hiff]

theorem claimReason_granted {n : Nat} (hc : Calm s) (hg : ClaimGranted s sd b n) : claimReason s sd b = none := by
  obtain ⟨hhaz, hspill, hfree, hcom, hroom, hbin⟩ := hg
  have hcan : canCommit s = true := by simp [canCommit, hfree, hcom]
  rw [claimReason_eq hc, if_neg hhaz, if_neg hspill, if_neg (by simp [hcan]), if_neg (by omega),
    if_neg (by simp [hbin])]

theorem claimReason_refused {why : SlotRefuseReason} (hc : Calm s) (hr : ClaimRefused s sd b why) :
    claimReason s sd b = some why := by
  rw [claimReason_eq hc]
  rcases hr with ⟨rfl, hhaz⟩ | ⟨hhaz, ⟨rfl, hoff⟩ | ⟨hon, hr⟩⟩
  · rw [if_pos hhaz]
  · rw [if_neg hhaz, if_pos hoff]
  · rw [if_neg hhaz, if_neg hon]
    rcases hr with ⟨rfl, hfull⟩ | ⟨hfree, hcom, hr⟩
    · have hcan : canCommit s = false := by
        rcases hfull with hnone | hmany
        · simp [canCommit, hnone]
        · simp [canCommit, hmany]
      rw [if_pos hcan]
    · have hcan : canCommit s = true := by simp [canCommit, hfree, hcom]
      rw [if_neg (by simp [hcan])]
      rcases hr with ⟨rfl, hroom⟩ | ⟨hroom, rfl, hbin⟩
      · rw [if_pos hroom]
      · rw [if_neg (by omega), if_pos hbin]

end Judged

end Sys2Proof.Machine
end

section
/-! PROOFS. SLOT CLAIM (O50). -/

namespace Sys2Proof.Machine

open Sys2Proof

-- In turn, so that the proofs do not hold more threads at once than the memory limit has stacks for.
set_option Elab.async false

/-! ### Grants and refusals -/

section Judge

variable {s u : State} {h : Header} {sd : Side} {b : BinId}

theorem Alike.setCtx (h : Alike sd s u) (n : Nat) (c : Ctx) : Alike sd (setCtx s n c) (setCtx u n c) :=
  ⟨h.fire, h.setup, h.det, h.board, h.inv, by rw [duties_setCtx, duties_setCtx, h.duties], h.fireClosed,
    h.notBay⟩

/-- A granted claim. -/
structure Granted (u : State) (h : Header) (sd : Side) (b : BinId) (m : Nat) (v : State) : Prop where
  side : view v sd = { view u sd with
    state := .theirs, tag := h.tag, ctx := some m, bin := some b
    pend := some (posted u.bus.seq (slotFrame u sd h.tag (.slotGrant b))) }
  sched : v.sched = { u.sched with ctxs := u.sched.ctxs.set m { newSpill u h sd with state := .awaiting } }
  inv : v.inv = u.inv
  tx : v.bus.tx = u.bus.tx
  calm : Calm u → Calm v

theorem grantSide_granted (u : State) (h : Header) (sd : Side) (b : BinId) (m : Nat) :
    Granted u h sd b m (grantSide u h sd b m) := by
  let w := modView (setCtx u m (spillCtx u h sd)) sd (fun v =>
    { v with state := .theirs, tag := h.tag, ctx := some m, bin := some b })
  have hw : grantSide u h sd b m = postSlot w sd h.tag (.slotGrant b) := rfl
  have hframe : ∀ p, slotFrame w sd h.tag p = slotFrame u sd h.tag p := fun p => by cases sd <;> rfl
  have hbus : w.bus = u.bus := modView_bus _ _ _
  rw [hw]
  refine ⟨?_, ?_, ?_, ?_, fun hc => ?_⟩
  · rw [view_postSlot_self, hframe, hbus, modView_view]
    rfl
  · rw [postSlot_sched, modView_sched]
    rfl
  · rw [postSlot_inv, modView_inv]
    rfl
  · rw [postSlot_tx, hbus]
  · exact calm_postSlot (calm_modView (calm_withSched hc _) sd _ ⟨rfl, rfl⟩) sd _ _

/-- A claim with no reason against it is granted, a side with no frame pending having the room to say so. -/
theorem judgeClaim_granted {m : Nat} (hr : claimReason s sd b = none) (hp : (view s sd).pend = none)
    (hf : freeCtx? s = some m) : judgeClaim h b sd s = grantSide s h sd b m := by
  simp only [judgeClaim, hr, hp, hf]

theorem judgeClaim_refused {why : SlotRefuseReason} (hr : claimReason s sd b = some why)
    (hp : (view s sd).pend = none) :
    judgeClaim h b sd s = judgedFree (postSlot s sd h.tag (.slotRefuse why)) sd := by
  simp only [judgeClaim, hr, answerSlot_posts hp]

theorem judgedFree_plain {sd : Side} (hr : (view s sd).raced = none) : judgedFree s sd = s := by
  rw [judgedFree, hr]
  rfl

/-- With no claim withdrawn for it, a refused claim is only answered. -/
theorem judgeClaim_refusedPlain {why : SlotRefuseReason} (hr : claimReason s sd b = some why)
    (hp : (view s sd).pend = none) (hrace : (view s sd).raced = none) :
    judgeClaim h b sd s = postSlot s sd h.tag (.slotRefuse why) := by
  rw [judgeClaim_refused hr hp, judgedFree_plain (by rw [view_postSlot_self]; exact hrace)]

/-! ### A claim on a FREE side -/

theorem takeClaim_free (hv : (view s sd).state = .free) : takeClaim h b sd s = judgeClaim h b sd s := by
  rw [takeClaim, hv]

theorem claim_freeRefused {why : SlotRefuseReason} (hc : Calm s) (hp : Passes s h)
    (hs : sideOfStation s h.src = some sd) (hv : (view s sd).state = .free) (hpend : (view s sd).pend = none)
    (hrace : (view s sd).raced = none) (hr : ClaimRefused s sd b why) :
    ∃ t, exec (.slotClaim h b) s = .next t ∧
      view t sd = { view s sd with
        pend := some (posted s.bus.seq (frameOf s 12 0 h.src h.tag (.slotRefuse why))) } ∧
      t.sched.ctxs = s.sched.ctxs ∧ t.inv = s.inv := by
  have hact : takeClaim h b sd (heard s h) = postSlot (heard s h) sd h.tag (.slotRefuse why) := by
    rw [takeClaim_free (by rw [view_heard hp]; exact hv)]
    refine judgeClaim_refusedPlain ?_ (by rw [view_heard hp]; exact hpend) (by rw [view_heard hp]; exact hrace)
    rw [(alike_heard hp sd).claimReason, claimReason_refused hc hr]
  rw [← slotFrame_back hs]
  exact ⟨_, rfl, onSide_answered hc hp hs hact⟩

theorem claim_freeGranted {n : Nat} (hc : Calm s) (hp : Passes s h)
    (hs : sideOfStation s h.src = some sd) (hv : (view s sd).state = .free) (hpend : (view s sd).pend = none)
    (hg : ClaimGranted s sd b n) :
    ∃ t, exec (.slotClaim h b) s = .next t ∧
      view t sd = { view s sd with
        state := .theirs, tag := h.tag, ctx := some n, bin := some b,
        pend := some (posted s.bus.seq (frameOf s 12 0 h.src h.tag (.slotGrant b))) } ∧
      t.sched.ctxs = s.sched.ctxs.set n { newSpill s h sd with state := .awaiting } ∧ t.inv = s.inv := by
  obtain ⟨hinv, hsched, _, _, _, _, hsetup, _, _, _, hseq, _⟩ := heard_blocks hp
  have ha := alike_heard hp sd
  have hact : takeClaim h b sd (heard s h) = grantSide (heard s h) h sd b n := by
    rw [takeClaim_free (by rw [view_heard hp]; exact hv)]
    refine judgeClaim_granted ?_ (by rw [view_heard hp]; exact hpend) ?_
    · rw [ha.claimReason, claimReason_granted hc hg]
    · obtain ⟨_, _, hfree, _⟩ := hg
      rw [ha.freeCtx, hfree]
  have g := grantSide_granted (heard s h) h sd b n
  have e := onSide_calmOver hp hs hact (g.calm (calm_heard hp hc))
  refine ⟨_, rfl, ?_, ?_, e.inv.trans (g.inv.trans hinv)⟩
  · rw [e.view sd, g.side, view_heard hp, hseq, slotFrame_heard hp, slotFrame_back hs]
  · rw [e.still (by rw [g.sched, hsched]; rfl), g.sched, hsched, newSpill, hsetup]
    rfl

/-! ### A claim on a side in an exchange -/

theorem claim_busy (hc : Calm s) (hp : Passes s h) (hs : sideOfStation s h.src = some sd)
    (hv : (view s sd).state ∈ [.claiming, .mine, .loadedOut, .loadedIn]) (hpend : (view s sd).pend = none) :
    ∃ t, exec (.slotClaim h b) s = .next t ∧
      view t sd = { view s sd with
        pend := some (posted s.bus.seq (frameOf s 12 0 h.src h.tag (.slotRefuse .busy))) } ∧
      t.sched.ctxs = s.sched.ctxs := by
  have hact : takeClaim h b sd (heard s h) = postSlot (heard s h) sd h.tag (.slotRefuse .busy) := by
    have hno : claimPending s sd = false := by simp [claimPending, hpend]
    rw [← answerSlot_posts (by rw [view_heard hp]; exact hpend)]
    unfold takeClaim claimPending
    rw [view_heard hp]
    simp only [List.mem_cons, List.not_mem_nil, or_false] at hv
    rcases hv with hv | hv | hv | hv
    · rw [hv, hpend]
      rfl
    · rw [hv]
    · rw [hv]
    · rw [hv]
  obtain ⟨hview, hctxs, _⟩ := onSide_answered hc hp hs hact
  exact ⟨_, rfl, by rw [hview, slotFrame_back hs], hctxs⟩

/-! ### The claim race (R105) -/

/-- The view of a side whose own claim has been withdrawn for the neighbour's. -/
def yieldedView (v : SlotView) : SlotView :=
  { v with
    state := .free, tag := 0, ctx := none, bin := none, claimTimer := none, raced := v.ctx, pend := none }

/-- A claim withdrawn while it is pending, no other frame waiting: the frame in transmission is marked if it is
the claim's, and the view is yielded. -/
theorem yieldClaim_eq {f : PFrame} (hp : (view s sd).pend = some f) (hw : (view s sd).waiting = []) :
    ∃ x, yieldClaim s sd = modView (s.withBus { s.bus with tx := x }) sd yieldedView ∧
      ∀ y, s.bus.tx = some y → y.pf.seq = f.seq → x = some { y with withdrawn := true } := by
  obtain ⟨x, hx, hmark⟩ := withdrawTx_eq s f.seq
  refine ⟨x, ?_, hmark⟩
  have hmm : ∀ (t : State) (f g : SlotView → SlotView),
      modView (modView t sd f) sd g = modView t sd (fun v => g (f v)) := by
    intro t f g
    cases sd <;> rfl
  have hu : unpostClaim s sd = slotFrameLeaves (withdrawTx s f.seq) sd := by rw [unpostClaim, hp]
  rw [yieldClaim, hu, hx, slotFrameLeaves_last (by exact hw), hmm]
  rfl

/-- The node once the own claim has been withdrawn for the neighbour's. -/
structure Yielded (s : State) (sd : Side) (f : PFrame) (y : State) : Prop where
  only : SideOnly sd s y
  alike : Alike sd s y
  side : view y sd = yieldedView (view s sd)
  sched : y.sched = (clearOut s).sched
  seq : y.bus.seq = s.bus.seq
  calm : Calm y
  tx : ∀ x, s.bus.tx = some x → x.pf.seq = f.seq → y.bus.tx = some { x with withdrawn := true }

theorem yieldClaim_yielded {f : PFrame} (hc : Calm s) (hp : Passes s h) (hs : sideOfStation s h.src = some sd)
    (hpend : (view s sd).pend = some f) (hw : (view s sd).waiting = []) :
    Yielded s sd f (yieldClaim (heard s h) sd) := by
  obtain ⟨hinv, hsched, _, _, hfire, hboard, hsetup, hdet, _, _, hseq, htx⟩ := heard_blocks hp
  have ha := alike_heard hp sd
  obtain ⟨x, hx, hmark⟩ := yieldClaim_eq (s := heard s h) (by rw [view_heard hp]; exact hpend)
    (by rw [view_heard hp]; exact hw)
  have hblocks : ∀ (t : State), (modView t sd yieldedView).setup = t.setup ∧
      (modView t sd yieldedView).det = t.det ∧ (modView t sd yieldedView).board = t.board := fun t => by
    cases sd <;> exact ⟨rfl, rfl, rfl⟩
  have hbus := hblocks ((heard s h).withBus { (heard s h).bus with tx := x })
  obtain ⟨hs1, hd1, hb1⟩ := hbus
  have hcalm : Calm ((heard s h).withBus { (heard s h).bus with tx := x }) := calm_heard hp hc
  have hside : view (modView ((heard s h).withBus { (heard s h).bus with tx := x }) sd yieldedView) sd =
      yieldedView (view s sd) := by
    rw [modView_view]
    exact congrArg yieldedView (view_heard hp sd)
  obtain ⟨_, _, _, _, hviews⟩ := hc
  rw [hx]
  refine ⟨((sideOnly_heard hp hs).after_bus { (heard s h).bus with tx := x } rfl rfl).after_modView _, ⟨?_, ?_, ?_, ?_, ?_, ?_, ?_, ?_⟩, hside,
    ?_, ?_, ?_, fun y hy hq => ?_⟩
  · rw [modView_fire]; exact hfire
  · rw [hs1]; exact hsetup
  · rw [hd1]; exact hdet
  · rw [hb1]; exact hboard
  · rw [modView_inv]; exact hinv
  · rw [duties, modView_sched]; exact ha.duties
  · rw [hside]; rfl
  · rw [notBay, nbr_modView]; exact ha.notBay
  · rw [modView_sched]; exact hsched
  · rw [modView_bus]; exact hseq
  · exact calm_modView hcalm sd _ ⟨rfl, rfl⟩
  · rw [modView_bus]
    exact hmark y (htx.trans hy) hq

theorem takeClaim_race {f : PFrame} {k : BinId} (hp : Passes s h) (hv : (view s sd).state = .claiming)
    (hpend : (view s sd).pend = some f) (hf : f.frame.payload = .slotClaim k) :
    takeClaim h b sd (heard s h) = judgeClaim h b sd (yieldClaim (heard s h) sd) := by
  have hcl : claimPending (heard s h) sd = true := by
    simp [claimPending, view_heard hp, hv, hpend, hf, Payload.isSlotClaim]
  rw [takeClaim, view_heard hp, hv, hcl]
  rfl

theorem race_granted {f : PFrame} {k : BinId} {n m : Nat} (hc : Calm s) (hp : Passes s h)
    (hs : sideOfStation s h.src = some sd) (hv : (view s sd).state = .claiming)
    (hpend : (view s sd).pend = some f) (hf : f.frame.payload = .slotClaim k) (hw : (view s sd).waiting = [])
    (hctx : (view s sd).ctx = some n) (hg : ClaimGranted s sd b m) :
    ∃ t, exec (.slotClaim h b) s = .next t ∧
      view t sd = { view s sd with
        state := .theirs, tag := h.tag, ctx := some m, bin := some b, claimTimer := none
        raced := some n
        pend := some (posted s.bus.seq (slotFrame s sd h.tag (.slotGrant b))) } ∧
      t.sched.ctxs = s.sched.ctxs.set m { newSpill s h sd with state := .awaiting } ∧
      (∀ x, s.bus.tx = some x → x.pf.seq = f.seq → t.bus.tx = some { x with withdrawn := true }) ∧
      t.inv = s.inv := by
  have y := yieldClaim_yielded hc hp hs hpend hw
  have hact : takeClaim h b sd (heard s h) = grantSide (yieldClaim (heard s h) sd) h sd b m := by
    rw [takeClaim_race hp hv hpend hf]
    refine judgeClaim_granted ?_ (by rw [y.side]; rfl) ?_
    · rw [y.alike.claimReason, claimReason_granted hc hg]
    · obtain ⟨_, _, hfree, _⟩ := hg
      rw [y.alike.freeCtx, hfree]
  have g := grantSide_granted (yieldClaim (heard s h) sd) h sd b m
  have e := onSide_calmOver hp hs hact (g.calm y.calm)
  refine ⟨_, rfl, ?_, ?_, fun x hx hq => ?_, e.inv.trans (g.inv.trans y.only.inv)⟩
  · rw [e.view sd, g.side, y.side, y.seq, y.only.slotFrame, ← hctx]
    rfl
  · rw [e.still (by rw [g.sched, y.sched]; rfl), g.sched, y.sched, newSpill, y.alike.setup]
    rfl
  · rw [e.tx, g.tx, y.tx x hx hq]

theorem race_refused {f : PFrame} {k : BinId} {n : Nat} {why : SlotRefuseReason} (hc : Calm s) (hp : Passes s h)
    (hts : TablesSized s) (hs : sideOfStation s h.src = some sd) (hv : (view s sd).state = .claiming)
    (hpend : (view s sd).pend = some f) (hf : f.frame.payload = .slotClaim k) (hw : (view s sd).waiting = [])
    (hctx : (view s sd).ctx = some n) (hn : n < 16) (hst : (ctxOf s n).state = .stalled)
    (hwait : (ctxOf s n).wait = some .slotWait) (hr : ClaimRefused s sd b why) :
    ∃ t, exec (.slotClaim h b) s = .next t ∧
      view t sd = { view s sd with
        state := .free, tag := 0, ctx := none, bin := none, claimTimer := none, raced := none
        pend := some (posted s.bus.seq (slotFrame s sd h.tag (.slotRefuse why))) } ∧
      RefusalPathTaken s t sd n ∧
      (∀ x, s.bus.tx = some x → x.pf.seq = f.seq → t.bus.tx = some { x with withdrawn := true }) ∧
      t.inv = s.inv := by
  obtain ⟨_, hlen, _⟩ := hts
  have y := yieldClaim_yielded hc hp hs hpend hw
  let p := postSlot (yieldClaim (heard s h) sd) sd h.tag (.slotRefuse why)
  have hside : view p sd = { yieldedView (view s sd) with
      pend := some (posted s.bus.seq (slotFrame s sd h.tag (.slotRefuse why))) } := by
    rw [view_postSlot_self, y.side, y.seq, y.only.slotFrame]
  have hraced : (view p sd).raced = some n := by rw [hside, ← hctx]; rfl
  -- The change to FREE wakes the contexts that wait for room, of which the refused one is none.
  obtain ⟨l, hl, hmem⟩ : ∃ l, (if sideClosed p sd then p else wakeOn p .noRoom) =
      p.withSched { p.sched with woken := p.sched.woken ++ l } ∧ ∀ m ∈ l, (ctxOf p m).wait = some .noRoom := by
    split
    · exact ⟨[], by rw [List.append_nil]; rfl, fun _ hm => absurd hm List.not_mem_nil⟩
    · exact wakeOn_eq p .noRoom
  let q := p.withSched { p.sched with woken := p.sched.woken ++ l }
  have hop : SideOnly sd s p := y.only.after_postSlot _ _
  have hact : takeClaim h b sd (heard s h) =
      refusalPath (modView q sd (fun v => { v with raced := none })) n sd := by
    have hq : (view q sd).raced = some n := hraced
    rw [takeClaim_race hp hv hpend hf, judgeClaim_refused (why := why) (by
      rw [y.alike.claimReason, claimReason_refused hc hr]) (by rw [y.side]; rfl), judgedFree, hraced, hl]
    simp only [Option.isNone_some, Bool.false_eq_true, if_false, settleRace]
    rw [hq]
  have hoq : SideOnly sd s (modView q sd (fun v => { v with raced := none })) :=
    (hop.after_marks { p.sched with woken := p.sched.woken ++ l } rfl).after_modView _
  have hun : n ∉ (modView q sd (fun v => { v with raced := none })).sched.woken := by
    rw [modView_sched]
    have hp0 : p.sched.woken = [] := by rw [postSlot_sched, y.sched]; rfl
    change n ∉ p.sched.woken ++ l
    rw [hp0, List.nil_append]
    intro hm
    have := hmem n hm
    rw [hop.ctxOf, hwait] at this
    cases this
  have ho := refusalPath_over hoq hun (by rw [hlen]; exact hn) hst hwait
  have hcalm : Calm (modView q sd (fun v => { v with raced := none })) :=
    calm_modView (calm_withSched (calm_postSlot y.calm sd _ _) _) sd _ ⟨rfl, rfl⟩
  have e := onSide_calmOver hp hs hact (ho.calm hcalm)
  refine ⟨_, rfl, ?_, ho.path.of_eq (e.unwoken n ho.unwoken) (e.view .east), fun x hx hq => ?_,
    e.inv.trans ho.inv⟩
  · rw [e.view sd, ho.side, modView_view]
    change { view p sd with raced := none } = _
    rw [hside]
    rfl
  · rw [e.tx, ho.tx, modView_bus]
    exact (postSlot_tx _ _ _ _).trans (y.tx x hx hq)

/-! ### A claim on a THEIRS side (R111) -/

theorem takeClaim_theirs (hv : (view s sd).state = .theirs) :
    takeClaim h b sd s = judgeClaim h b sd (voidGrant s sd) := by rw [takeClaim, hv]

/-- The node once a grant has been voided for the neighbour's next claim or load. -/
structure VoidedFor (s : State) (h : Header) (sd : Side) (n : Nat) (v : State) : Prop where
  side : view v sd = freedView (view s sd)
  alike : Alike sd (setCtx s n Ctx.blank) v
  ctx : ctxOf v n = Ctx.blank
  done : ∃ e ∈ v.sched.doneQ, e.body.outcome = .removed ∧ e.body.ctx = n
  calm : Calm v
  inv : v.inv = s.inv
  frame : ∀ g p, slotFrame v sd g p = slotFrame s sd g p
  sized : v.sched.ctxs.length = s.sched.ctxs.length

theorem Voided.slotFrame {u : State} {n : Nat} (hvd : Voided s sd n u) (g : Tag) (p : Payload) :
    slotFrame u sd g p = slotFrame s sd g p := by
  have hk := kept_of_lasting hvd.within.lasts
  simp only [kept, Prod.mk.injEq] at hk
  obtain ⟨hboard, _, _, _, _, _, _, _, _, _, _, _, hwest, heast⟩ := hk
  rw [Machine.slotFrame, frameOf, hboard, nbr_of_bus hwest heast sd, Machine.slotFrame, frameOf]

theorem voidGrant_for {n : Nat} (hc : Calm s) (hp : Passes s h) (hts : TablesSized s) (hn : n < 16)
    (hv : (view s sd).state = .theirs) (hctx : (view s sd).ctx = some n) (hrace : (view s sd).raced = none)
    (hst : (ctxOf s n).state = .awaiting) (hroom : s.sched.doneQ.length < 8) :
    VoidedFor s h sd n (voidGrant (heard s h) sd) := by
  have hvd := voidGrant_heard hp hts hn hv hctx hrace hst hroom
  have hch := calm_heard hp hc
  obtain ⟨hinv, hsched, _⟩ := heard_blocks hp
  obtain ⟨d, hdone, hbody⟩ := hvd.done
  refine ⟨?_, ((alike_heard hp sd).setCtx n _).trans (hvd.alike hch), hvd.ctx, ⟨d, ?_, ?_⟩, hvd.calm hch,
    (hvd.inv hch).trans hinv, fun g p => ?_, ?_⟩
  · rw [hvd.side, view_heard hp]
  · rw [hdone]
    exact List.mem_append_right _ List.mem_cons_self
  · rw [hbody]
    exact ⟨rfl, rfl⟩
  · rw [hvd.slotFrame, slotFrame_heard hp]
  · rw [hvd.within.sched.ctxs, hsched]
    rfl

end Judge

section Regranted

variable {s : State} {h : Header} {sd : Side} {b : BinId} {n : Nat}

theorem claim_regranted {m : Nat} (hc : Calm s) (hp : Passes s h) (hts : TablesSized s)
    (hs : sideOfStation s h.src = some sd) (hv : (view s sd).state = .theirs) (hpend : (view s sd).pend = none)
    (hrace : (view s sd).raced = none) (hctx : (view s sd).ctx = some n) (hn : n < 16)
    (hst : (ctxOf s n).state = .awaiting) (hroom : s.sched.doneQ.length < 8)
    (hg : ClaimGranted (setCtx s n Ctx.blank) sd b m) :
    ∃ t q, exec (.slotClaim h b) s = .next t ∧ (view t sd).state = .theirs ∧
      (view t sd).tag = h.tag ∧ (view t sd).ctx = some m ∧ (view t sd).bin = some b ∧
      (view t sd).pend = some (posted q (slotFrame s sd h.tag (.slotGrant b))) ∧
      ctxOf t m = { newSpill s h sd with state := .awaiting } ∧
      (m ≠ n → ctxOf t n = Ctx.blank) ∧
      (∃ e ∈ t.sched.doneQ, e.body.outcome = .removed ∧ e.body.ctx = n) ∧ t.inv = s.inv := by
  obtain ⟨_, hlen, _⟩ := id hts
  have w := voidGrant_for hc hp hts hn hv hctx hrace hst hroom
  have hact : takeClaim h b sd (heard s h) = grantSide (voidGrant (heard s h) sd) h sd b m := by
    rw [takeClaim_theirs (by rw [view_heard hp]; exact hv)]
    refine judgeClaim_granted ?_ (by rw [w.side]; exact hpend) ?_
    · rw [w.alike.claimReason, claimReason_granted (s := setCtx s n Ctx.blank) hc hg]
    · obtain ⟨_, _, hfree, _⟩ := hg
      rw [w.alike.freeCtx, hfree]
  obtain ⟨_, _, hfree, _⟩ := hg
  obtain ⟨hm, _⟩ := freeCtx?_spec hfree
  have g := grantSide_granted (voidGrant (heard s h) sd) h sd b m
  have e := onSide_calmOver hp hs hact (g.calm w.calm)
  have hsetup : (voidGrant (heard s h) sd).setup = s.setup := w.alike.setup
  have hset := ctxOf_setCtx (voidGrant (heard s h) sd) m
  have hctxs : ∀ k c, c.state ≠ .stalled → ctxOf (setCtx (voidGrant (heard s h) sd) m
      { newSpill s h sd with state := .awaiting }) k = c → ctxOf (receive h (onSide h (takeClaim h b)) s) k = c := by
    intro k c hne hk
    have hgk : ctxOf (grantSide (voidGrant (heard s h) sd) h sd b m) k = c := by
      rw [ctxOf, g.sched, newSpill, hsetup]
      exact hk
    rw [e.ctx k (by rw [hgk]; exact hne), hgk]
  refine ⟨_, (voidGrant (heard s h) sd).bus.seq, rfl, ?_, ?_, ?_, ?_, ?_, hctxs m _ CtxState.noConfusion ?_,
    fun hmn => hctxs n _ CtxState.noConfusion ?_, ?_, e.inv.trans (g.inv.trans w.inv)⟩
  iterate 4 rw [e.view sd, g.side]
  · rw [e.view sd, g.side, w.frame]
  · rw [hset, if_pos ⟨rfl, by rw [w.sized, hlen]; exact hm⟩]
  · rw [hset, if_neg (fun hk => hmn hk.1.symm), w.ctx]
  · rw [e.doneQ, g.sched]
    exact w.done

theorem claim_revoked {why : SlotRefuseReason} (hc : Calm s) (hp : Passes s h) (hts : TablesSized s)
    (hs : sideOfStation s h.src = some sd) (hv : (view s sd).state = .theirs) (hpend : (view s sd).pend = none)
    (hrace : (view s sd).raced = none) (hctx : (view s sd).ctx = some n) (hn : n < 16)
    (hst : (ctxOf s n).state = .awaiting) (hroom : s.sched.doneQ.length < 8)
    (hr : ClaimRefused (setCtx s n Ctx.blank) sd b why) :
    ∃ t q, exec (.slotClaim h b) s = .next t ∧ (view t sd).state = .free ∧
      (view t sd).pend = some (posted q (slotFrame s sd h.tag (.slotRefuse why))) ∧
      ctxOf t n = Ctx.blank ∧
      (∃ e ∈ t.sched.doneQ, e.body.outcome = .removed ∧ e.body.ctx = n) ∧ t.inv = s.inv := by
  have w := voidGrant_for hc hp hts hn hv hctx hrace hst hroom
  have hact : takeClaim h b sd (heard s h) =
      postSlot (voidGrant (heard s h) sd) sd h.tag (.slotRefuse why) := by
    rw [takeClaim_theirs (by rw [view_heard hp]; exact hv)]
    refine judgeClaim_refusedPlain ?_ (by rw [w.side]; exact hpend) (by rw [w.side]; exact hrace)
    rw [w.alike.claimReason, claimReason_refused (s := setCtx s n Ctx.blank) hc hr]
  have e := onSide_calmOver hp hs hact (calm_postSlot w.calm sd _ _)
  have hn0 : ctxOf (postSlot (voidGrant (heard s h) sd) sd h.tag (.slotRefuse why)) n = Ctx.blank := by
    rw [ctxOf, postSlot_sched]
    exact w.ctx
  refine ⟨_, (voidGrant (heard s h) sd).bus.seq, rfl, ?_, ?_, ?_, ?_, e.inv.trans ((postSlot_inv _ _ _ _).trans w.inv)⟩
  · rw [e.view sd, view_postSlot_self, w.side]
    rfl
  · rw [e.view sd, view_postSlot_self, w.frame]
  · rw [e.ctx n (by rw [hn0]; exact CtxState.noConfusion), hn0]
  · rw [e.doneQ, postSlot_sched]
    exact w.done

end Regranted

/-- Settles O50: a SLOT CLAIM by the state of the side it claims. -/
theorem slotClaimIsJudged : Obligations.SlotClaimIsJudged := by
  refine ⟨fun s h b sd hc hp hts hs hv hpend hrace => ⟨fun why hr =>
      claim_freeRefused hc hp hs hv hpend hrace hr, fun n hgrade hlatch hbay hspill hfree hcom hroom hbin => ?_⟩,
    fun s h b sd hc hp hs hv hpend => claim_busy hc hp hs hv hpend,
    fun s h b k sd f n hc hp hts hs hv hpend hf hw hctx hn hst hwait => ⟨fun m hg =>
      race_granted hc hp hs hv hpend hf hw hctx hg, fun why hr =>
      race_refused hc hp hts hs hv hpend hf hw hctx hn hst hwait hr⟩,
    fun s h b sd n hc hp hts hs hv hpend hrace hctx hn hst hroom => ⟨fun m hg =>
      claim_regranted hc hp hts hs hv hpend hrace hctx hn hst hroom hg, fun why hr =>
      claim_revoked hc hp hts hs hv hpend hrace hctx hn hst hroom hr⟩⟩
  have hhaz : ¬ SideHazard s sd := by
    rw [SideHazard, hlatch, hbay]
    simp only [Bool.false_eq_true, or_false]
    omega
  exact claim_freeGranted hc hp hs hv hpend ⟨hhaz, hspill, hfree, hcom, hroom, hbin⟩

end Sys2Proof.Machine
end

section
/-! PROOFS. SLOT LOADED (O53). -/

namespace Sys2Proof.Machine

open Sys2Proof

-- In turn, so that the proofs do not hold more threads at once than the memory limit has stacks for.
set_option Elab.async false

section Load

variable {s : State} {h : Header} {r : RawRecord} {sd : Side} {n : Nat}

/-! ### A bin of the node (R108 order 1) -/

theorem inBay_iff (s : State) (b : BinId) :
    inBay s b = true ↔ ∃ p, residenceOf s b = some p ∧ (p = .inHand ∨ ∃ c i, p = .resident c i) := by
  unfold inBay
  cases residenceOf s b with
  | none => simp
  | some p => cases p <;> simp

theorem inBay_heard (hp : Passes s h) (b : BinId) : inBay (heard s h) b = inBay s b := by
  obtain ⟨hinv, _⟩ := heard_blocks hp
  rw [inBay, residenceOf, recordOf, hinv]
  rfl

theorem recordOf_heard (hp : Passes s h) (b : BinId) : recordOf (heard s h) b = recordOf s b := by
  obtain ⟨hinv, _⟩ := heard_blocks hp
  rw [recordOf, hinv, recordOf]

theorem inBay_false (hno : ∀ p, residenceOf s r.bin = some p → p ≠ .inHand ∧ ∀ c i, p ≠ .resident c i) :
    inBay s r.bin = false := by
  rw [Bool.eq_false_iff]
  intro hb
  obtain ⟨p, hp, hin | ⟨c, i, hres⟩⟩ := (inBay_iff s r.bin).mp hb
  · exact (hno p hp).1 hin
  · exact (hno p hp).2 c i hres

theorem load_again (hc : Calm s) (hp : Passes s h) (hs : sideOfStation s h.src = some sd)
    (hb : inBay s r.bin = true) (hpend : (view s sd).pend = none) :
    ∃ t, exec (.slotLoaded h r) s = .next t ∧
      view t sd = { view s sd with
        pend := some (posted s.bus.seq (frameOf s 12 0 h.src h.tag (.slotTaken r.bin))) } ∧
      t.inv = s.inv ∧ t.sched.ctxs = s.sched.ctxs := by
  have hact : takeLoaded h (bodyOf r) sd (heard s h) = postSlot (heard s h) sd h.tag (.slotTaken r.bin) := by
    have hpd : (view (heard s h) sd).pend = none := by rw [view_heard hp]; exact hpend
    rw [takeLoaded, show (bodyOf r).bin = r.bin from rfl, inBay_heard hp, if_pos hb, postSlotData, hpd]
    rfl
  obtain ⟨hview, hctxs, hinv⟩ := onSide_answered hc hp hs hact
  exact ⟨_, rfl, by rw [hview, slotFrame_back hs], hinv, hctxs⟩

/-! ### The load of a granted side (R108 order 3) -/

/-- A context that enters its ready list with a record in hand. -/
structure Loaded (u : State) (sd : Side) (w : SlotView) (n : Nat) (c : Ctx) (v : State) : Prop where
  side : view v sd = w
  ctx : ctxOf v n = { c with state := .ready, wait := none, stamp := u.sched.nextStamp }
  ready : v.sched.ready = u.sched.ready.modify (c.level - 1) (· ++ [n])
  woken : v.sched.woken = u.sched.woken
  inv : v.inv = u.inv
  calm : Calm v

/-- A context readied in RUN stands at the tail of its list. -/
theorem readied_loaded {u : State} {c : Ctx} (hc : Calm u) (hn : n < u.sched.ctxs.length) :
    Loaded u sd (view u sd) n c (readied (setCtx u n c) n) := by
  obtain ⟨hrun, _⟩ := id hc
  have hset : ctxOf (setCtx u n c) n = c := by rw [ctxOf_setCtx, if_pos ⟨rfl, hn⟩]
  rw [readied, if_pos (by exact hrun)]
  refine ⟨rfl, ?_, ?_, rfl, rfl, calm_withSched hc _⟩
  · rw [ctxOf_toTail, if_pos ⟨rfl, by simpa [setCtx] using hn⟩, hset]
    rfl
  · change (u.sched.ready.modify ((ctxOf (setCtx u n c) n).level - 1) _) = _
    rw [hset]

theorem Loaded.modView {u v : State} {w : SlotView} {c : Ctx} (h : Loaded u sd w n c v) (f : SlotView → SlotView)
    (hf : (f w).fireClosed = w.fireClosed ∧ (f w).resendOwed = w.resendOwed) :
    Loaded u sd (f w) n c (modView v sd f) :=
  ⟨by rw [modView_view, h.side], by rw [ctxOf, modView_sched]; exact h.ctx, by rw [modView_sched]; exact h.ready,
    by rw [modView_sched]; exact h.woken, by rw [modView_inv]; exact h.inv,
    calm_modView h.calm sd f (by rw [h.side]; exact hf)⟩

/-- A SLOT LOADED that readies a context, by the end of its event. -/
theorem Loaded.ends {w : SlotView} {c : Ctx} {v : State} {act : Side → State → State} (hl : Loaded (heard s h) sd w n c v)
    (hp : Passes s h) (hs : sideOfStation s h.src = some sd) (hact : act sd (heard s h) = v) :
    view (receive h (onSide h act) s) sd = w ∧
      ctxOf (receive h (onSide h act) s) n =
        { c with state := .ready, wait := none, stamp := s.sched.nextStamp } ∧
      (receive h (onSide h act) s).sched.ready = s.sched.ready.modify (c.level - 1) (· ++ [n]) ∧
      (receive h (onSide h act) s).inv = s.inv := by
  obtain ⟨hinv, hsched, _⟩ := heard_blocks hp
  have e := onSide_calmOver hp hs hact hl.calm
  have hst : (ctxOf v n).state ≠ .stalled := by rw [hl.ctx]; exact CtxState.noConfusion
  refine ⟨(e.view sd).trans hl.side, ?_, ?_, e.inv.trans (hl.inv.trans hinv)⟩
  · rw [e.ctx n hst, hl.ctx, hsched]
    rfl
  · rw [e.still (by rw [hl.woken, hsched]; rfl)]
    change v.sched.ready = _
    rw [hl.ready, hsched]
    rfl

theorem load_granted (hc : Calm s) (hp : Passes s h) (hts : TablesSized s) (hn : n < 16)
    (hs : sideOfStation s h.src = some sd) (hv : (view s sd).state = .theirs) (htag : (view s sd).tag = h.tag)
    (hbin : (view s sd).bin = some r.bin) (hctx : (view s sd).ctx = some n) (hrace : (view s sd).raced = none)
    (hrec : recordOf s r.bin = none) :
    ∃ t, exec (.slotLoaded h r) s = .next t ∧
      view t sd = { view s sd with state := .loadedIn } ∧
      ctxOf t n = { ctxOf s n with
        state := .ready, wait := none, carried := some (.foreign (bodyOf r)),
        stamp := s.sched.nextStamp } ∧
      t.sched.ready = s.sched.ready.modify ((ctxOf s n).level - 1) (· ++ [n]) ∧ t.inv = s.inv := by
  obtain ⟨_, hlen, _⟩ := hts
  obtain ⟨_, hsched, _⟩ := heard_blocks hp
  let u := modView (heard s h) sd (fun v => { v with state := .loadedIn })
  let c := { ctxOf s n with carried := some (.foreign (bodyOf r)) }
  have husched : u.sched = (clearOut s).sched := (modView_sched _ _ _).trans hsched
  have huc : ctxOf u n = ctxOf s n := by rw [ctxOf, husched]; rfl
  have huview : view u sd = { view s sd with state := .loadedIn } := by rw [modView_view, view_heard hp]
  have hu : Calm u := calm_modView (calm_heard hp hc) sd _ ⟨rfl, rfl⟩
  have hl : Loaded u sd (view u sd) n c (readied (setCtx u n c) n) :=
    readied_loaded hu (by rw [husched]; exact lt_of_lt_of_eq hn hlen.symm)
  have hl' : Loaded (heard s h) sd { view s sd with state := .loadedIn } n c (readied (setCtx u n c) n) :=
    ⟨hl.side.trans huview, by rw [hl.ctx, husched, hsched], by rw [hl.ready, husched, hsched],
      by rw [hl.woken, husched, hsched], by rw [hl.inv, modView_inv], hl.calm⟩
  have hin : inBay s r.bin = false := inBay_false (fun p hres => by rw [residenceOf, hrec] at hres; cases hres)
  have hact : takeLoaded h (bodyOf r) sd (heard s h) = readied (setCtx u n c) n := by
    have haw : loadAwaited s h sd r.bin = true := by simp [loadAwaited, hv, htag, hbin, hrec]
    have hrace' : (view (readied (setCtx u n c) n) sd).raced = none := by rw [hl'.side]; exact hrace
    have haw' : loadAwaited (heard s h) h sd r.bin = true := by
      rw [← haw, loadAwaited, view_heard hp, recordOf_heard hp, loadAwaited]
    rw [takeLoaded, show (bodyOf r).bin = r.bin from rfl, inBay_heard hp, hin, haw', view_heard hp, hv, hctx]
    change settleRace (readied (setCtx u n { ctxOf u n with carried := _ }) n) sd = _
    rw [huc, settleRace, hrace']
  exact ⟨_, rfl, hl'.ends hp hs hact⟩

/-! ### A load without a grant (R108 orders 2, 4 and 5) -/

section NotOurs

variable (hno : inBay s r.bin = false)
include hno

theorem load_retagged (hc : Calm s) (hp : Passes s h) (hs : sideOfStation s h.src = some sd)
    (hv : (view s sd).state = .loadedIn) (hbin : (view s sd).bin = some r.bin) :
    ∃ t, exec (.slotLoaded h r) s = .next t ∧ view t sd = { view s sd with tag := h.tag } ∧
      t.inv = s.inv ∧ t.sched.ctxs = s.sched.ctxs := by
  have hact : takeLoaded h (bodyOf r) sd (heard s h) =
      modView (heard s h) sd (fun v => { v with tag := h.tag }) := by
    rw [takeLoaded, show (bodyOf r).bin = r.bin from rfl, inBay_heard hp, hno, view_heard hp,
      if_neg Bool.false_ne_true, if_pos ⟨hv, hbin⟩]
  exact ⟨_, rfl, onSide_modView hc hp hs hact ⟨rfl, rfl⟩⟩

/-- A load of a FREE view is judged as a claim of its bin. -/
theorem takeLoaded_free (hp : Passes s h) (hv : (view s sd).state = .free) :
    takeLoaded h (bodyOf r) sd (heard s h) = loadFree h (bodyOf r) sd (heard s h) := by
  have haw : loadAwaited (heard s h) h sd r.bin = false := by simp [loadAwaited, view_heard hp, hv]
  rw [takeLoaded, show (bodyOf r).bin = r.bin from rfl, inBay_heard hp, hno, haw, view_heard hp, hv]
  rfl

theorem load_freeGranted (hc : Calm s) (hp : Passes s h) (hts : TablesSized s)
    (hs : sideOfStation s h.src = some sd) (hv : (view s sd).state = .free) (hg : ClaimGranted s sd r.bin n) :
    ∃ t, exec (.slotLoaded h r) s = .next t ∧
      view t sd = { view s sd with
        state := .loadedIn, tag := h.tag, ctx := some n, bin := some r.bin } ∧
      ctxOf t n = { newSpill s h sd with
        state := .ready, carried := some (.foreign (bodyOf r)), stamp := s.sched.nextStamp } ∧
      t.sched.ready = s.sched.ready.modify (s.setup.spill - 1) (· ++ [n]) ∧ t.inv = s.inv := by
  obtain ⟨_, hlen, _⟩ := hts
  obtain ⟨_, hsched, _, _, _, _, hsetup, _⟩ := heard_blocks hp
  have ha := alike_heard hp sd
  have hreason : claimReason (heard s h) sd (bodyOf r).bin = none := by
    rw [ha.claimReason]
    exact claimReason_granted hc hg
  obtain ⟨_, _, hfree, _⟩ := hg
  obtain ⟨hn, _⟩ := freeCtx?_spec hfree
  let c := { spillCtx (heard s h) h sd with carried := some (.foreign (bodyOf r)) }
  have hl : Loaded (heard s h) sd (view (heard s h) sd) n c (readied (setCtx (heard s h) n c) n) :=
    readied_loaded (calm_heard hp hc) (by rw [hsched]; exact lt_of_lt_of_eq hn hlen.symm)
  have hl' := hl.modView (fun v => { v with state := .loadedIn, tag := h.tag, ctx := some n, bin := some r.bin })
    ⟨rfl, rfl⟩
  have hact : takeLoaded h (bodyOf r) sd (heard s h) = modView (readied (setCtx (heard s h) n c) n) sd
      (fun v => { v with state := .loadedIn, tag := h.tag, ctx := some n, bin := some r.bin }) := by
    rw [takeLoaded_free hno hp hv]
    unfold loadFree
    rw [hreason, ha.freeCtx, hfree]
    rfl
  obtain ⟨hview, hctx, hready, hinv⟩ := hl'.ends hp hs hact
  have hcs : c = { newSpill s h sd with state := .awaiting, carried := some (.foreign (bodyOf r)) } := by
    rw [newSpill, ← hsetup]
    rfl
  refine ⟨_, rfl, ?_, ?_, ?_, hinv⟩
  · rw [hview, view_heard hp]
  · rw [hctx, hcs]
    rfl
  · rw [hready, hcs]
    rfl

theorem load_freeRefused {why : SlotRefuseReason} (hc : Calm s) (hp : Passes s h)
    (hs : sideOfStation s h.src = some sd) (hpend : (view s sd).pend = none) (hv : (view s sd).state = .free)
    (hr : ClaimRefused s sd r.bin why) :
    ∃ t, exec (.slotLoaded h r) s = .next t ∧
      view t sd = { view s sd with
        pend := some (posted s.bus.seq (slotFrame s sd h.tag (.slotRefuse why))) } ∧
      t.inv = s.inv ∧ t.sched.ctxs = s.sched.ctxs := by
  have hreason : claimReason (heard s h) sd (bodyOf r).bin = some why := by
    rw [(alike_heard hp sd).claimReason]
    exact claimReason_refused hc hr
  have hact : takeLoaded h (bodyOf r) sd (heard s h) = postSlot (heard s h) sd h.tag (.slotRefuse why) := by
    rw [takeLoaded_free hno hp hv, ← answerSlot_posts (by rw [view_heard hp]; exact hpend)]
    unfold loadFree
    rw [hreason]
  obtain ⟨hview, hctxs, hinv⟩ := onSide_answered hc hp hs hact
  exact ⟨_, rfl, hview, hinv, hctxs⟩

/-! ### A load that fits no exchange (R108 order 6, R111) -/

theorem takeLoaded_unfit (hp : Passes s h) (hpend : (view s sd).pend = none)
    (hfree : (view s sd).state ≠ .free) (hin : ¬ ((view s sd).state = .loadedIn ∧ (view s sd).bin = some r.bin))
    (haw : ¬ ((view s sd).state = .theirs ∧ (view s sd).tag = h.tag ∧ (view s sd).bin = some r.bin ∧
      (recordOf s r.bin).isNone = true)) :
    takeLoaded h (bodyOf r) sd (heard s h) =
      voidGrant (postSlot (heard s h) sd h.tag (.slotRefuse .busy)) sd := by
  have haw' : loadAwaited (heard s h) h sd r.bin = false := by
    rw [loadAwaited, view_heard hp, recordOf_heard hp]
    exact decide_eq_false haw
  rw [takeLoaded, show (bodyOf r).bin = r.bin from rfl, inBay_heard hp, hno, haw', view_heard hp, if_neg hin,
    if_neg hfree, ← answerSlot_posts (by rw [view_heard hp]; exact hpend)]
  rfl

theorem load_busy (hc : Calm s) (hp : Passes s h) (hs : sideOfStation s h.src = some sd)
    (hpend : (view s sd).pend = none)
    (hv : (view s sd).state ∈ [.claiming, .mine, .loadedOut] ∨
      (view s sd).state = .loadedIn ∧ (view s sd).bin ≠ some r.bin) :
    ∃ t, exec (.slotLoaded h r) s = .next t ∧
      view t sd = { view s sd with
        pend := some (posted s.bus.seq (slotFrame s sd h.tag (.slotRefuse .busy))) } ∧
      t.inv = s.inv ∧ t.sched.ctxs = s.sched.ctxs := by
  have hcase : (view s sd).state ≠ .free ∧ (view s sd).state ≠ .theirs ∧
      ¬ ((view s sd).state = .loadedIn ∧ (view s sd).bin = some r.bin) := by
    rcases hv with hv | ⟨hv, hbin⟩
    · simp only [List.mem_cons, List.not_mem_nil, or_false] at hv
      rcases hv with hv | hv | hv <;> rw [hv] <;> simp
    · rw [hv]
      simp [hbin]
  obtain ⟨hfree, htheirs, hin⟩ := hcase
  have hact : takeLoaded h (bodyOf r) sd (heard s h) = postSlot (heard s h) sd h.tag (.slotRefuse .busy) := by
    rw [takeLoaded_unfit hno hp hpend hfree hin (fun ht => htheirs ht.1), voidGrant, if_neg]
    rw [view_postSlot_self, view_heard hp]
    exact htheirs
  obtain ⟨hview, hctxs, hinv⟩ := onSide_answered hc hp hs hact
  exact ⟨_, rfl, hview, hinv, hctxs⟩

theorem load_voids (hc : Calm s) (hp : Passes s h) (hts : TablesSized s) (hs : sideOfStation s h.src = some sd)
    (hpend : (view s sd).pend = none) (hv : (view s sd).state = .theirs) (hctx : (view s sd).ctx = some n)
    (hn : n < 16) (hst : (ctxOf s n).state = .awaiting) (hrace : (view s sd).raced = none)
    (hroom : s.sched.doneQ.length < 8)
    (hunfit : (view s sd).tag ≠ h.tag ∨ (view s sd).bin ≠ some r.bin ∨ (recordOf s r.bin).isSome) :
    ∃ t, exec (.slotLoaded h r) s = .next t ∧ (view t sd).state = .free ∧ (view t sd).ctx = none ∧
      (view t sd).pend = some (posted s.bus.seq (slotFrame s sd h.tag (.slotRefuse .busy))) ∧
      ctxOf t n = Ctx.blank ∧ (∃ e ∈ t.sched.doneQ, e.body.outcome = .removed ∧ e.body.ctx = n) ∧
      t.inv = s.inv := by
  obtain ⟨_, hlen, _⟩ := hts
  obtain ⟨hinv, hsched, _, _, _, _, _, _, _, _, hseq, _⟩ := heard_blocks hp
  let u := postSlot (heard s h) sd h.tag (.slotRefuse .busy)
  have hview : view u sd = { view s sd with
      pend := some (posted s.bus.seq (slotFrame s sd h.tag (.slotRefuse .busy))) } := by
    rw [view_postSlot_self, view_heard hp, hseq, slotFrame_heard hp]
  have husched : u.sched = (clearOut s).sched := (postSlot_sched _ _ _ _).trans hsched
  have hu : Calm u := calm_postSlot (calm_heard hp hc) sd _ _
  have hact : takeLoaded h (bodyOf r) sd (heard s h) = voidGrant u sd := by
    refine takeLoaded_unfit hno hp hpend (by rw [hv]; exact ViewState.noConfusion) (fun ht => ?_) ?_
    · rw [hv] at ht
      exact ViewState.noConfusion ht.1
    · rintro ⟨_, htag, hbin, hrec⟩
      rcases hunfit with ht | hb | hr
      · exact ht htag
      · exact hb hbin
      · simp [Option.isNone_iff_eq_none.mp hrec] at hr
  have hvd : Voided u sd n (voidGrant u sd) := by
    refine voidGrant_removes ?_ ?_ ?_ ?_ ?_ ?_
    · rw [husched]; exact lt_of_lt_of_eq hn hlen.symm
    · rw [hview]; exact hv
    · rw [hview]; exact hctx
    · rw [hview]; exact hrace
    · rw [ctxOf, husched]
      change (ctxOf s n).state ≠ .free ∧ (ctxOf s n).state ≠ .ending
      rw [hst]
      exact ⟨CtxState.noConfusion, CtxState.noConfusion⟩
    · rw [husched]; exact hroom
  obtain ⟨d, hdone, hbody⟩ := hvd.done
  have e := onSide_calmOver hp hs hact (hvd.calm hu)
  have hside : view (receive h (onSide h (takeLoaded h (bodyOf r))) s) sd = freedView (view u sd) :=
    (e.view sd).trans hvd.side
  refine ⟨_, rfl, by rw [hside]; rfl, by rw [hside]; rfl, by rw [hside, hview]; rfl, ?_, ⟨d, ?_, ?_⟩, ?_⟩
  · rw [e.ctx n (by rw [hvd.ctx]; exact CtxState.noConfusion), hvd.ctx]
  · rw [e.doneQ, hdone]
    exact List.mem_append_right _ List.mem_cons_self
  · rw [hbody]
    exact ⟨rfl, rfl⟩
  · exact e.inv.trans ((hvd.inv hu).trans ((postSlot_inv _ _ _ _).trans hinv))

end NotOurs

end Load

/-- Settles O53: a SLOT LOADED by the residence of its bin and the state of the side it reaches. -/
theorem slotLoadedIsTaken : Obligations.SlotLoadedIsTaken := by
  refine ⟨fun s h r sd n hc hp hts hn hs hv htag hbin hctx hrace hrec =>
      load_granted hc hp hts hn hs hv htag hbin hctx hrace hrec,
    fun s h r sd p hc hp hs hres hin hpend =>
      load_again hc hp hs ((inBay_iff s r.bin).mpr ⟨p, hres, hin⟩) hpend,
    fun s h r sd hc hp hts hs hout => ?_⟩
  have hno := inBay_false hout
  exact ⟨fun hv hbin => load_retagged hno hc hp hs hv hbin, fun n hv hg => load_freeGranted hno hc hp hts hs hv hg,
    fun hpend => ⟨fun why hv hr => load_freeRefused hno hc hp hs hpend hv hr,
      fun hv => load_busy hno hc hp hs hpend hv, fun n hv hctx hn hst hrace hroom hunfit =>
      load_voids hno hc hp hts hs hpend hv hctx hn hst hrace hroom hunfit⟩⟩

end Sys2Proof.Machine
end

section
/-! PROOFS. Drive faults of a job's transfer (O37). -/

namespace Sys2Proof.Machine

open Sys2Proof

-- In turn, so that the proofs do not hold more threads at once than the memory limit has stacks for.
set_option Elab.async false

section DriveFault

variable {s : State} {n : Nat}

theorem activeCtx?_spec (h : activeCtx? s = some n) : n < 16 ∧ (ctxOf s n).state = .active :=
  ⟨List.mem_range.mp (List.mem_of_find?_eq_some h), by simpa using List.find?_some h⟩

/-- A fault leaves the context of its transfer ACTIVE: at most its step is forgotten. -/
theorem faultOwner_active (ha : (ctxOf s n).state = .active) :
    faultOwner s n = s ∨ faultOwner s n = modCtx s n (fun k => { k with step := none }) := by
  unfold faultOwner
  dsimp only
  rw [if_neg (fun hp => CtxState.noConfusion (ha.symm.trans hp.1))]
  split
  · exact Or.inr rfl
  · exact Or.inl rfl

/-- A context's change that leaves every state leaves the ACTIVE one. -/
theorem activeCtx?_modCtx (f : Ctx → Ctx) (hf : (f (ctxOf s n)).state = (ctxOf s n).state) :
    activeCtx? (modCtx s n f) = activeCtx? s := by
  have hstate : ∀ m, (ctxOf (modCtx s n f) m).state = (ctxOf s m).state := fun m => by
    rw [modCtx, ctxOf_setCtx]
    split
    · rename_i hm
      rw [hf, hm.1]
    · rfl
  simp only [activeCtx?, hstate]

/-- A drive fault in RUN during a job's transfer: the job is STALLED with DRIVE. -/
theorem driveFault_stalls {x : Xfer} (hrun : s.fire.node = .run) (hn : n < s.sched.ctxs.length)
    (hx : s.motion.xfer = some x) (ho : x.owner = some n) (ha : activeCtx? s = some n) :
    ((ctxOf (driveFault s) n).state = .stalled ∧ (ctxOf (driveFault s) n).wait = some .drive) ∧
      (driveFault s).sched.woken = s.sched.woken := by
  obtain ⟨_, hact⟩ := activeCtx?_spec ha
  have hbody : driveFault s = stallActive (faultOwner (faultGantry s) n) := by
    unfold driveFault currentXfer
    rw [hrun, hx]
    simp only [Option.some_or, Option.bind_some, ho]
  have hstall : ∀ u : State, activeCtx? u = some n → n < u.sched.ctxs.length → u.sched.woken = s.sched.woken →
      ((ctxOf (stallActive u) n).state = .stalled ∧ (ctxOf (stallActive u) n).wait = some .drive) ∧
        (stallActive u).sched.woken = s.sched.woken := fun u hu hlen hw => by
    rw [stallActive, hu]
    dsimp only
    rw [stall, ctxOf_modCtx, if_pos hlen]
    exact ⟨⟨rfl, rfl⟩, hw⟩
  rw [hbody]
  rcases faultOwner_active (s := faultGantry s) hact with h | h
  · rw [h]
    exact hstall _ ha hn rfl
  · rw [h]
    refine hstall _ ((activeCtx?_modCtx _ rfl).trans ha) ?_ rfl
    simpa [modCtx, setCtx, faultGantry] using hn

/-- The three reports of a motion that fails are a drive fault while the gantry moves for a job. -/
theorem faultReport_moving (hg : s.motion.gantry = .movingEmpty ∨ s.motion.gantry = .loaded) :
    unexpectedMotion s = driveFault s := by
  unfold unexpectedMotion
  rcases hg with hg | hg <;> rw [hg]

theorem faultReport_still (hg : s.motion.gantry = .off ∨ s.motion.gantry = .faulted) :
    unexpectedMotion s = s := by
  unfold unexpectedMotion
  rcases hg with hg | hg <;> rw [hg]

theorem jobFault_stalls {c : Instr} {x : Xfer} (hc : Calm s) (hts : TablesSized s)
    (hcmd : c = .faultBlocked ∨ c = .faultDrive ∨ c = .motionTimerExpiry ∧ s.motion.timer.isSome)
    (hg : s.motion.gantry = .movingEmpty ∨ s.motion.gantry = .loaded) (hx : s.motion.xfer = some x)
    (ho : x.owner = some n) (ha : activeCtx? s = some n) :
    ∃ t, exec c s = .next t ∧ t.motion.gantry = .faulted ∧ t.motion.xfer = none ∧
      t.motion.timer = none ∧ (ctxOf t n).state = .stalled ∧ (ctxOf t n).wait = some .drive ∧
      t.inv = s.inv := by
  obtain ⟨_, hlen, _⟩ := hts
  obtain ⟨hrun, _, hover, _, hviews⟩ := id hc
  obtain ⟨hn, _⟩ := activeCtx?_spec ha
  obtain ⟨body, hex, hb⟩ : ∃ body : State → State, exec c s = .next (fullEvent body s) ∧
      body (clearOut s) = driveFault (clearOut s) := by
    have hf : faultReport (clearOut s) = driveFault (clearOut s) := faultReport_moving hg
    rcases hcmd with rfl | rfl | ⟨rfl, htimer⟩
    · exact ⟨faultReport, rfl, hf⟩
    · exact ⟨faultReport, rfl, hf⟩
    · exact ⟨motionExpiry, rfl, (if_pos htimer).trans hf⟩
  have w := driveFault_run (s := clearOut s) hrun
  have hfaulted : Calm (faultGantry (clearOut s)) := ⟨hrun, GantryState.noConfusion, hover, rfl, hviews⟩
  have hcalm := w.calm (fun hf => hf) (fun hf => hf) hfaulted
  obtain ⟨⟨hst, hwait⟩, hwoken⟩ :=
    driveFault_stalls (s := clearOut s) hrun (by exact lt_of_lt_of_eq hn hlen.symm) hx ho ha
  have e := fullEvent_still hb hcalm hwoken
  have hdrive := w.port.drive (fun hf => hf)
  simp only [Motion.drive, Prod.mk.injEq] at hdrive
  obtain ⟨hga, hxf, hheld, hti⟩ := hdrive
  have hmotion := e.motion hheld
  have hctx : ctxOf (fullEvent body s) n = ctxOf (driveFault (clearOut s)) n := by
    rw [ctxOf, e.sched]
    rfl
  refine ⟨_, hex, ?_, ?_, ?_, ?_, ?_, e.inv.trans (w.inv (fun _ => hover))⟩
  · rw [hmotion]; exact hga
  · rw [hmotion]; exact hxf
  · rw [hmotion]; exact hti
  · rw [hctx]; exact hst
  · rw [hctx]; exact hwait

/-- An event that a calm node ignores only forgets the marks of the event before. -/
theorem fullEvent_ignored {body : State → State} (hc : Calm s) (hb : body (clearOut s) = clearOut s) :
    fullEvent body s = settled s := by
  obtain ⟨_, _, _, hheld, _⟩ := id hc
  rw [fullEvent, hb, settle_calm _ ((calm_clearOut s).mpr hc), flushWoken_none _ rfl, endEvent_same rfl rfl]
  exact releaseHeld_none _ hheld

end DriveFault

/-- Settles O37: a fault of a job's transfer stalls the job; a fault reported of a gantry that stands is
ignored. -/
theorem driveFaultStallsTheJob : Obligations.DriveFaultStallsTheJob := by
  refine ⟨fun s c x n hc hts hn hcmd hg hx ho ha => jobFault_stalls hc hts hcmd hg hx ho ha,
    fun s c hc hcmd hg => ?_⟩
  have hb : faultReport (clearOut s) = clearOut s := faultReport_still hg
  rcases hcmd with rfl | rfl <;> exact congrArg Host.Outcome.next (fullEvent_ignored hc hb)

end Sys2Proof.Machine
end

section
/-! PROOFS. The end of an event away from RUN: no context is chosen, and those not woken keep their place. CANCEL
(O32). -/

namespace Sys2Proof.Machine

open Sys2Proof

-- In turn, so that the proofs do not hold more threads at once than the memory limit has stacks for.
set_option Elab.async false

/-! ### Events off duty -/

/-- A node whose events' ends neither choose a context nor follow the neighbours' zones: neither in RUN nor in
GUARD, and not about to leave RESUMING. -/
def OffDuty (s : State) : Prop :=
  s.fire.node ≠ .run ∧ s.fire.node ≠ .guarded ∧ (s.fire.node = .resuming → s.fire.opening = false)

theorem safeEntry_safe (s : State) :
    (safeEntry s).fire.node = .safe ∨ (safeEntry s).fire.node = s.fire.node := by
  unfold safeEntry
  split
  · exact Or.inl rfl
  · exact Or.inr rfl

/-- The shutdown sequence leads from SHUTDOWN to SAFE and nowhere else. -/
theorem shutdownSync_node (s : State) :
    shutdownSync s = s ∨ (shutdownSync s).fire.node = .safe ∨ (shutdownSync s).fire.node = .shutdown := by
  have hclose : ∀ t : State, t.fire.node = .shutdown →
      (closeShutters t).fire.node = .safe ∨ (closeShutters t).fire.node = .shutdown := fun t ht => by
    refine (safeEntry_safe _).imp id fun h => h.trans ?_
    rw [askAll_fire]
    exact ht
  unfold shutdownSync
  split
  · rename_i hs
    refine Or.inr ?_
    split
    · exact (safeEntry_safe s).imp id (fun h => h.trans hs)
    · split
      · exact Or.inr hs
      · exact hclose s hs
      · exact hclose _ hs
      · exact Or.inr hs
      · exact Or.inr hs
      · exact Or.inr hs
      · exact Or.inr hs
  · exact Or.inl rfl

theorem resumeSync_shut {s : State} (h : s.fire.node = .resuming → s.fire.opening = false) : resumeSync s = s := by
  rw [resumeSync, if_neg]
  rintro ⟨hr, ho, _⟩
  rw [h hr] at ho
  cases ho

theorem resendAll_sched (s : State) : (sides.foldl resendLoaded s).sched = s.sched := by
  rw [show sides.foldl resendLoaded s = resendLoaded (resendLoaded s .west) .east from rfl,
    (resendLoaded_keeps _ _).1, (resendLoaded_keeps _ _).1]

/-- Off duty an event's end only makes the event's wake-ups, as far as the scheduler goes. -/
theorem settle_offDuty {v : State} (h : OffDuty v) :
    ∃ u, u.sched = v.sched ∧ (settle v).sched = (flushWoken u).sched := by
  obtain ⟨hrun, hguard, hopen⟩ := h
  let u := shutdownSync (moveOverflow v)
  have hfire : (moveOverflow v).fire = v.fire := moveOverflow_fire v
  have hnode : (u = moveOverflow v ∨ u.fire.node = .safe ∨ u.fire.node = .shutdown) := shutdownSync_node _
  have hus : u.sched = v.sched := (shutdownSync_keeps _).1.trans (moveOverflow_sched v)
  have hur : u.fire.node ≠ .run ∧ u.fire.node ≠ .guarded ∧ resumeSync u = u := by
    rcases hnode with he | hn | hn
    · rw [he, hfire]
      exact ⟨hrun, hguard, resumeSync_shut (by rw [hfire]; exact hopen)⟩
    · exact ⟨by simp [hn], by simp [hn], resumeSync_elsewhere u (by simp [hn])⟩
    · exact ⟨by simp [hn], by simp [hn], resumeSync_elsewhere u (by simp [hn])⟩
  obtain ⟨hur, hug, hres⟩ := hur
  obtain ⟨m, hm⟩ := commandPutAway_eq u
  have heq : settle v = sides.foldl resendLoaded (runSchedule scheduleBound (u.withMotion m)) := by
    have : settle v = sides.foldl resendLoaded
        (runSchedule scheduleBound (commandPutAway (guardSides (resumeSync u)))) := rfl
    rw [this, hres, guardSides_elsewhere hur hug, hm]
  have hsched : runSchedule scheduleBound (u.withMotion m) = flushWoken (u.withMotion m) := by
    have hfree : gantryFree (flushWoken (u.withMotion m)) = false := by
      have hf : (flushWoken (u.withMotion m)).fire = u.fire :=
        ((Within.refl Scope.waking _).after_flushWoken).fire
      simp [gantryFree, hf, hur]
    cases hk : scheduleBound with
    | zero => rfl
    | succ k =>
      rw [runSchedule, hfree]
      rfl
  exact ⟨u.withMotion m, hus, by rw [heq, resendAll_sched, hsched]⟩

/-- What the end of an event leaves of the scheduler when it chooses no context. -/
structure Unchosen (v t : State) : Prop where
  ctx : ∀ m, (ctxOf v m).state ≠ .stalled → ctxOf t m = ctxOf v m
  doneQ : t.sched.doneQ = v.sched.doneQ

theorem fullEvent_offDuty {body : State → State} {s v : State} (hb : body (clearOut s) = v) (h : OffDuty v) :
    Unchosen v (fullEvent body s) ∧
      (v.sched.woken = [] → (fullEvent body s).sched = { v.sched with stepEnded := none }) := by
  obtain ⟨u, hus, hsettle⟩ := settle_offDuty h
  have e := endEvent_blocks (clearOut s) (settle v)
  have w : Within Scope.waking u (flushWoken u) := (Within.refl _ u).after_flushWoken
  have hctxU : ∀ m, ctxOf u m = ctxOf v m := fun m => by rw [ctxOf, hus, ctxOf]
  rw [fullEvent, hb]
  refine ⟨⟨fun m hm => ?_, ?_⟩, fun hw => ?_⟩
  · rw [ctxOf, e.sched, hsettle]
    exact (w.sched.others m (fun hf => hf) (by rw [← hctxU] at hm; exact hm) (fun hf => hf.elim)).trans (hctxU m)
  · rw [e.sched, hsettle, ← hus]
    exact w.sched.notDone (fun hf => hf)
  · rw [e.sched, hsettle, flushWoken_none _ (by rw [hus]; exact hw), hus]

/-- In GUARD too an event chooses no context. -/
theorem fullEvent_guarded {body : State → State} {s v : State} (hb : body (clearOut s) = v)
    (hnode : v.fire.node = .guarded) (hheld : v.motion.held = none) : Unchosen v (fullEvent body s) := by
  have r := fullEvent_rested hb (Or.inr hnode) hheld (Or.inl hnode)
  exact ⟨r.ctx, r.doneQ⟩

/-- On a calm node an event chooses no context either. -/
theorem fullEvent_calmUnchosen {body : State → State} {s v : State} (hb : body (clearOut s) = v) (hc : Calm v) :
    Unchosen v (fullEvent body s) := by
  have e := fullEvent_calmOver hb hc
  exact ⟨e.ctx, e.doneQ⟩

/-! ### O32 -/

section Cancel

variable {s : State} {h : Header} {n : Nat}

/-- A CANCEL that matches one context deals with that context alone. -/
theorem cancelJobs_one (hp : Passes s h)
    (hf : ctxNumbers.filter (fun m => cancelMatches h (ctxOf s m)) = [n]) :
    cancelJobs h (heard s h) = cancelCtx (heard s h) n := by
  have hm : (fun m => cancelMatches h (ctxOf (heard s h) m)) = fun m => cancelMatches h (ctxOf s m) :=
    funext fun m => by rw [ctxOf_heard hp]
  rw [cancelJobs, hm, hf]
  rfl

theorem cancelMatches_spec (hf : ctxNumbers.filter (fun m => cancelMatches h (ctxOf s m)) = [n]) :
    n < 16 ∧ ((ctxOf s n).kind = .fetch ∨ (ctxOf s n).kind = .verify) ∧ (ctxOf s n).state ≠ .free ∧
      (ctxOf s n).origin = h.src ∧ (ctxOf s n).tag = h.tag := by
  have hm : n ∈ ctxNumbers.filter (fun m => cancelMatches h (ctxOf s m)) := by rw [hf]; exact List.mem_cons_self
  obtain ⟨hn, hc⟩ := List.mem_filter.mp hm
  exact ⟨List.mem_range.mp hn, by simpa [cancelMatches] using hc⟩

/-- A job HALTED by the CANCEL of `h`: its record joins the queue, and its context is FREE. -/
def JobHalted (s : State) (h : Header) (n : Nat) (t : State) : Prop :=
  ∃ e, ctxOf t n = Ctx.blank ∧
    t.sched.doneQ = s.sched.doneQ ++ [e] ∧ e.body.outcome = .halted ∧ e.body.ctx = n ∧
    e.body.origin = h.src ∧ e.body.tag = h.tag ∧ e.body.cls = (ctxOf s n).cls ∧
    e.body.claimed = (ctxOf s n).claimed ∧ e.body.delivered = (ctxOf s n).delivered

/-- The end of a job's context on a CANCEL, through the end of the event. -/
theorem cancel_ends {t : State} (hp : Passes s h) (hts : TablesSized s)
    (hf : ctxNumbers.filter (fun m => cancelMatches h (ctxOf s m)) = [n]) (hroom : s.sched.doneQ.length < 8)
    (hlive : (ctxOf s n).state ≠ .ending)
    (e : Unchosen (endCtx (heard s h) n .halted 0) t) : JobHalted s h n t := by
  obtain ⟨_, hlen, _⟩ := hts
  obtain ⟨_, hsched, _⟩ := heard_blocks hp
  obtain ⟨hn, hkind, hfree, horigin, htag⟩ := cancelMatches_spec hf
  have hctx := ctxOf_heard hp n
  obtain ⟨hblank, d, hdone, hbody⟩ := endCtx_reported (s := heard s h) (n := n) .halted 0
    (by rw [hsched]; exact lt_of_lt_of_eq hn hlen.symm) (by rw [hctx]; exact ⟨hfree, hlive⟩)
    (by rw [hsched]; exact hroom)
  refine ⟨d, ?_, ?_, ?_⟩
  · rw [e.ctx n (by rw [hblank]; exact CtxState.noConfusion), hblank]
  · rw [e.doneQ, hdone, hsched]
    rfl
  · rw [hbody, hctx]
    simp [doneBody, hkind, horigin, htag]

/-- The HALT flag set on a job's context, through the end of the event. -/
theorem cancel_flags {t : State} (hp : Passes s h) (hts : TablesSized s) (hn : n < 16)
    (hst : (ctxOf s n).state ≠ .stalled)
    (e : Unchosen (modCtx (heard s h) n (fun c => { c with halt := true })) t) :
    ctxOf t n = { ctxOf s n with halt := true } ∧ t.sched.doneQ = s.sched.doneQ := by
  obtain ⟨_, hlen, _⟩ := hts
  obtain ⟨_, hsched, _⟩ := heard_blocks hp
  have hmod : ctxOf (modCtx (heard s h) n (fun c => { c with halt := true })) n = { ctxOf s n with halt := true } := by
    rw [ctxOf_modCtx, if_pos (by rw [hsched]; exact lt_of_lt_of_eq hn hlen.symm), ctxOf_heard hp]
  refine ⟨by rw [e.ctx n (by rw [hmod]; exact hst), hmod], e.doneQ.trans ?_⟩
  change (heard s h).sched.doneQ = _
  rw [hsched]
  rfl

/-- A job on an event's end that chooses no context. -/
theorem cancel_leaves {t : State} (hp : Passes s h) (hst : (ctxOf s n).state ≠ .stalled)
    (e : Unchosen (heard s h) t) : ctxOf t n = ctxOf s n ∧ t.sched.doneQ = s.sched.doneQ := by
  obtain ⟨_, hsched, _⟩ := heard_blocks hp
  refine ⟨by rw [e.ctx n (by rw [ctxOf_heard hp]; exact hst), ctxOf_heard hp], ?_⟩
  rw [e.doneQ, hsched]
  rfl

/-- Away from RUN a CANCEL's event chooses no context. -/
theorem cancel_unchosen {v : State} {k : Scope} (hp : Passes s h) (hheld : s.motion.held = none)
    (hnode : s.fire.node ∈ [.guarded, .shutdown, .safe] ∨ s.fire.node = .resuming ∧ s.fire.opening = false)
    (hb : cancelJobs h (heard s h) = v) (w : Within k (heard s h) v) (hk : ¬ k.steps) :
    Unchosen v (receive h (cancelJobs h) s) := by
  obtain ⟨_, _, _, hmotion, hfire, _⟩ := heard_blocks hp
  have hfv : v.fire = s.fire := w.fire.trans hfire
  have hd := w.port.drive hk
  simp only [Motion.drive, Prod.mk.injEq] at hd
  obtain ⟨_, _, hhv, _⟩ := hd
  rw [receive_eq hp]
  rcases hnode with hnode | ⟨hres, hopen⟩
  · simp only [List.mem_cons, List.not_mem_nil, or_false] at hnode
    rcases hnode with hg | hs | hs
    · exact fullEvent_guarded hb (by rw [hfv]; exact hg) (by rw [hhv, hmotion]; exact hheld)
    · exact (fullEvent_offDuty hb (by simp [OffDuty, hfv, hs])).1
    · exact (fullEvent_offDuty hb (by simp [OffDuty, hfv, hs])).1
  · exact (fullEvent_offDuty hb (by simp [OffDuty, hfv, hres, hopen])).1

theorem setDownCarries_heard (hp : Passes s h) : setDownCarries (heard s h) n = setDownCarries s n := by
  obtain ⟨_, _, _, hmotion, _⟩ := heard_blocks hp
  rw [setDownCarries, hmotion]
  rfl

theorem cancelCtx_halts (hst : (ctxOf s n).state = .ready ∨ (ctxOf s n).state = .stalled ∨
    (ctxOf s n).state = .paused ∧ setDownCarries s n = false) : cancelCtx s n = endCtx s n .halted 0 := by
  rw [cancelCtx]
  rcases hst with hst | hst | ⟨hst, hd⟩
  · rw [hst]
  · rw [hst]
  · rw [hst, hd]
    rfl

theorem cancelCtx_flags (hst : (ctxOf s n).state = .active ∨
    (ctxOf s n).state = .paused ∧ setDownCarries s n = true) :
    cancelCtx s n = modCtx s n (fun c => { c with halt := true }) := by
  rw [cancelCtx]
  rcases hst with hst | ⟨hst, hd⟩
  · rw [hst]
  · rw [hst, hd]
    rfl

end Cancel

/-- Settles O32: a CANCEL by the state of the one context it matches. -/
theorem cancelHaltsTheJob : Obligations.CancelHaltsTheJob := by
  refine ⟨fun s h n hp hts hheld hnode hf hroom => ?_, fun s h n hc hp hts hf hroom => ?_⟩
  · obtain ⟨hn, _⟩ := cancelMatches_spec hf
    have hone := cancelJobs_one hp hf
    refine ⟨fun hst hno => ?_, fun x hst hx hd ho => ?_, fun hst => ?_⟩
    · have hd : setDownCarries s n = false := by
        cases hx : s.motion.xfer with
        | none => simp [setDownCarries, hx]
        | some x => simpa [setDownCarries, hx] using hno x hx
      have hb : cancelJobs h (heard s h) = endCtx (heard s h) n .halted 0 := by
        rw [hone, cancelCtx_halts (Or.inr (Or.inr ⟨by rw [ctxOf_heard hp, hst], by rw [setDownCarries_heard hp, hd]⟩))]
      have e := cancel_unchosen hp hheld hnode hb
        ((Within.refl Scope.ending _).after_endCtx trivial trivial _ _) (fun hf => hf)
      obtain ⟨d, hd⟩ := cancel_ends hp hts hf hroom (by rw [hst]; exact CtxState.noConfusion) e
      exact ⟨_, d, rfl, hd⟩
    · have hd : setDownCarries s n = true := by simp [setDownCarries, hx, hd, ho]
      have hb : cancelJobs h (heard s h) = modCtx (heard s h) n (fun c => { c with halt := true }) := by
        rw [hone, cancelCtx_flags (Or.inr ⟨by rw [ctxOf_heard hp, hst], by rw [setDownCarries_heard hp, hd]⟩)]
      have e := cancel_unchosen hp hheld hnode hb
        ((Within.refl Scope.ending _).after_modCtx' trivial _) (fun hf => hf)
      exact ⟨_, rfl, cancel_flags hp hts hn (by rw [hst]; exact CtxState.noConfusion) e⟩
    · have hb : cancelJobs h (heard s h) = heard s h := by rw [hone, cancelCtx, ctxOf_heard hp, hst]
      have e := cancel_unchosen hp hheld hnode hb (Within.refl Scope.ending _) (fun hf => hf)
      exact ⟨_, rfl, cancel_leaves hp (by rw [hst]; exact CtxState.noConfusion) e⟩
  · obtain ⟨hn, _⟩ := cancelMatches_spec hf
    have hone := cancelJobs_one hp hf
    have hch := calm_heard hp hc
    refine ⟨fun hst => ?_, fun hst => ?_⟩
    · have hb : cancelJobs h (heard s h) = endCtx (heard s h) n .halted 0 := by
        rw [hone, cancelCtx_halts]
        rw [ctxOf_heard hp]
        exact hst.imp id Or.inl
      have w : Within Scope.ending (heard s h) (endCtx (heard s h) n .halted 0) :=
        (Within.refl _ _).after_endCtx trivial trivial _ _
      have e := fullEvent_calmUnchosen (body := fun _ => cancelJobs h (heard s h)) (s := s) hb
        (w.calm (fun hf => hf) (fun hf => hf) hch)
      rw [← receive_eq hp] at e
      have hlive : (ctxOf s n).state ≠ .ending := by
        rcases hst with hst | hst <;> rw [hst] <;> exact CtxState.noConfusion
      obtain ⟨d, hd⟩ := cancel_ends hp hts hf hroom hlive e
      exact ⟨_, d, rfl, hd⟩
    · have hb : cancelJobs h (heard s h) = modCtx (heard s h) n (fun c => { c with halt := true }) := by
        rw [hone, cancelCtx_flags (Or.inl (by rw [ctxOf_heard hp, hst]))]
      have e := fullEvent_calmUnchosen (body := fun _ => cancelJobs h (heard s h)) (s := s) hb
        (calm_withSched hch _)
      rw [← receive_eq hp] at e
      exact ⟨_, rfl, cancel_flags hp hts hn (by rw [hst]; exact CtxState.noConfusion) e⟩

end Sys2Proof.Machine
end

section
/-! PROOFS. Whether a frame of the node is in transmission: what a frame's owner does, and what the end of an
event does, neither start one nor end one. -/

namespace Sys2Proof.Machine

open Sys2Proof

-- In turn, so that the proofs do not hold more threads at once than the memory limit has stacks for.
set_option Elab.async false

/-- Whether a frame of the node is in transmission. -/
def onAir (s : State) : Bool := s.bus.tx.isSome

theorem onAir_foldl {α : Type} (f : State → α → State) (h : ∀ s a, onAir (f s a) = onAir s)
    (l : List α) (s : State) : onAir (l.foldl f s) = onAir s := by
  induction l generalizing s with
  | nil => rfl
  | cons a as ih => rw [List.foldl_cons, ih, h]

@[simp] theorem onAir_withInv (s : State) (v : Image) : onAir (s.withInv v) = onAir s := rfl
@[simp] theorem onAir_withStore (s : State) (v : Store) : onAir (s.withStore v) = onAir s := rfl
@[simp] theorem onAir_withSched (s : State) (v : Sched) : onAir (s.withSched v) = onAir s := rfl
@[simp] theorem onAir_withStow (s : State) (v : Stow) : onAir (s.withStow v) = onAir s := rfl
@[simp] theorem onAir_withSlots (s : State) (v : Slots) : onAir (s.withSlots v) = onAir s := rfl
@[simp] theorem onAir_withMotion (s : State) (v : Motion) : onAir (s.withMotion v) = onAir s := rfl
@[simp] theorem onAir_withFire (s : State) (v : FireCtl) : onAir (s.withFire v) = onAir s := rfl
@[simp] theorem onAir_withStartup (s : State) (v : Startup) : onAir (s.withStartup v) = onAir s := rfl
@[simp] theorem onAir_withBus (s : State) (b : Bus) : onAir (s.withBus b) = b.tx.isSome := rfl
@[simp] theorem isSome_onAir (s : State) : s.bus.tx.isSome = onAir s := rfl


/-! ### Tables, contexts, views and the motion port -/

@[simp] theorem onAir_modRecord (s : State) (b : BinId) (f : BinRecord → BinRecord) :
    onAir (modRecord s b f) = onAir s := rfl

@[simp] theorem onAir_setResidence (s : State) (b : BinId) (p : Residence) :
    onAir (setResidence s b p) = onAir s := rfl

@[simp] theorem onAir_joinAway (s : State) (b : BinId) : onAir (joinAway s b) = onAir s := rfl

@[simp] theorem onAir_setWinner (s : State) (b : BinId) (w : Station) :
    onAir (setWinner s b w) = onAir s := rfl

@[simp] theorem onAir_moveOverflow (s : State) : onAir (moveOverflow s) = onAir s := by
  unfold moveOverflow
  repeat' split
  all_goals simp

@[simp] theorem onAir_setCtx (s : State) (n : Nat) (c : Ctx) : onAir (setCtx s n c) = onAir s := rfl

@[simp] theorem onAir_modCtx (s : State) (n : Nat) (f : Ctx → Ctx) :
    onAir (modCtx s n f) = onAir s := rfl

@[simp] theorem onAir_setView (s : State) (sd : Side) (v : SlotView) :
    onAir (setView s sd v) = onAir s := by
  cases sd <;> rfl

@[simp] theorem onAir_modView (s : State) (sd : Side) (f : SlotView → SlotView) :
    onAir (modView s sd f) = onAir s := by simp [modView]

@[simp] theorem onAir_setShutter (s : State) (sh : ShutterId) (v : Shutter) :
    onAir (setShutter s sh v) = onAir s := by cases sh <;> rfl

@[simp] theorem onAir_bumpSeq (s : State) : onAir (bumpSeq s) = onAir s := rfl
@[simp] theorem onAir_countDropped (s : State) : onAir (countDropped s) = onAir s := rfl

@[simp] theorem onAir_postReply (s : State) (f : Frame) : onAir (postReply s f) = onAir s := by
  unfold postReply
  split <;> simp

theorem onAir_respond (s : State) (act : State → State) (answer : State → Frame) (h :
    onAir (act s) = onAir s) :
    onAir (respond s act answer) = onAir s := by
  unfold respond
  split
  · simp [h]
  · simp

@[simp] theorem onAir_withdrawTx (s : State) (q : Nat) : onAir (withdrawTx s q) = onAir s := by
  unfold withdrawTx
  split
  · rfl
  · rename_i x hx
    split
    · simp [onAir, hx]
    · rfl

@[simp] theorem onAir_postStateFrame (s : State) (r : StateReport) :
    onAir (postStateFrame s r) = onAir s := by
  unfold postStateFrame
  split <;> simp

@[simp] theorem onAir_withdrawAnnounce (s : State) : onAir (withdrawAnnounce s) = onAir s :=
  onAir_foldl _ (fun _ _ => onAir_withdrawTx _ _) _ _

@[simp] theorem onAir_launch (s : State) (x : Xfer) : onAir (launch s x) = onAir s := rfl
@[simp] theorem onAir_send (s : State) (c : MotionCmd) : onAir (send s c) = onAir s := rfl
@[simp] theorem onAir_postState (s : State) : onAir (postState s) = onAir s := by simp [postState]

@[simp] theorem onAir_reportChange (was s : State) : onAir (reportChange was s) = onAir s := by
  unfold reportChange
  split <;> simp

/-! ### Contexts, notices and completion records -/

@[simp] theorem onAir_leaveList (s : State) (n : Nat) : onAir (leaveList s n) = onAir s := rfl
@[simp] theorem onAir_toTail (s : State) (n : Nat) : onAir (toTail s n) = onAir s := rfl
@[simp] theorem onAir_pauseCtx (s : State) (n : Nat) : onAir (pauseCtx s n) = onAir s := rfl
@[simp] theorem onAir_stall (s : State) (n : Nat) (r : WaitReason) : onAir (stall s n r) = onAir s := rfl

@[simp] theorem onAir_wakeWhere (s : State) (p : Nat → WaitReason → Bool) :
    onAir (wakeWhere s p) = onAir s := rfl

@[simp] theorem onAir_flushWoken (s : State) : onAir (flushWoken s) = onAir s :=
  onAir_foldl _ onAir_toTail _ _

@[simp] theorem onAir_wakeOn (s : State) (r : WaitReason) : onAir (wakeOn s r) = onAir s := rfl

@[simp] theorem onAir_awayFreed (s : State) : onAir (awayFreed s) = onAir s := by
  unfold awayFreed
  split <;> simp

@[simp] theorem onAir_releaseLock (s : State) (n : Nat) : onAir (releaseLock s n) = onAir s := by
  unfold releaseLock
  split <;> simp

@[simp] theorem onAir_takeLock (s : State) (n c : Nat) : onAir (takeLock s n c) = onAir s := by
  unfold takeLock
  split <;> simp

@[simp] theorem onAir_pauseIn (s : State) (p : CtxState → Bool) : onAir (pauseIn s p) = onAir s :=
  onAir_foldl _ onAir_pauseCtx _ _

@[simp] theorem onAir_releasePaused (s : State) : onAir (releasePaused s) = onAir s :=
  onAir_foldl _ onAir_toTail _ _

@[simp] theorem onAir_withdrawBid (s : State) (n : Nat) : onAir (withdrawBid s n) = onAir s := by
  unfold withdrawBid
  split <;> simp

@[simp] theorem onAir_withdrawAllBids (s : State) : onAir (withdrawAllBids s) = onAir s :=
  onAir_foldl _ onAir_withdrawBid _ _

@[simp] theorem onAir_loadNotice (s : State) (n : Nat) (b : NoticeBody) :
    onAir (loadNotice s n b) = onAir s := rfl

@[simp] theorem onAir_loadOwed (s : State) : onAir (loadOwed s) = onAir s := by
  unfold loadOwed
  repeat' split
  all_goals simp

@[simp] theorem onAir_noticeLeaves (s : State) (p : Notice → Bool) :
    onAir (noticeLeaves s p) = onAir s := by
  unfold noticeLeaves
  dsimp only
  split <;> simp

@[simp] theorem onAir_withdrawNotice (s : State) (n : Nat) : onAir (withdrawNotice s n) = onAir s := by
  have hfold : ∀ (l : List Notice), onAir (l.foldl (fun t m => withdrawTx t m.pf.seq) s) = onAir s :=
    fun l => onAir_foldl _ (fun _ _ => onAir_withdrawTx _ _) l s
  unfold withdrawNotice
  dsimp only
  split
  · rfl
  · rw [onAir_noticeLeaves, hfold]

@[simp] theorem onAir_pushDone (s : State) (d : DoneBody) : onAir (pushDone s d) = onAir s := rfl

@[simp] theorem onAir_popDone (s : State) : onAir (popDone s) = onAir s := by
  unfold popDone
  dsimp only
  repeat' split
  all_goals simp

/-! ### Slot sides -/

@[simp] theorem onAir_postSlot (s : State) (sd : Side) (tag : Tag) (p : Payload) :
    onAir (postSlot s sd tag p) = onAir s := by simp [postSlot]

@[simp] theorem onAir_answerSlot (s : State) (sd : Side) (tag : Tag) (p : Payload) :
    onAir (answerSlot s sd tag p) = onAir s := by
  unfold answerSlot
  split <;> simp

@[simp] theorem onAir_postWaiting (s : State) (sd : Side) (w : SlotWait) :
    onAir (postWaiting s sd w) = onAir s := by
  unfold postWaiting
  repeat' split
  all_goals simp

@[simp] theorem onAir_postFirst (s : State) (sd : Side) (ws : List SlotWait) :
    onAir (postFirst s sd ws) = onAir s := by
  induction ws generalizing s with
  | nil => simp [postFirst]
  | cons w ws ih =>
    unfold postFirst
    dsimp only
    split
    · simp
    · exact ih s

@[simp] theorem onAir_slotFrameLeaves (s : State) (sd : Side) :
    onAir (slotFrameLeaves s sd) = onAir s := by simp [slotFrameLeaves]

@[simp] theorem onAir_bumpTag (s : State) : onAir (bumpTag s) = onAir s := rfl

@[simp] theorem onAir_claimSide (s : State) (sd : Side) (n : Nat) (b : BinId) :
    onAir (claimSide s sd n b) = onAir s := by simp [claimSide]

@[simp] theorem onAir_spillRequest (s : State) (n : Nat) (b : BinId) :
    onAir (spillRequest s n b) = onAir s := by
  unfold spillRequest
  split <;> simp

@[simp] theorem onAir_refusalPath (s : State) (n : Nat) (sd : Side) :
    onAir (refusalPath s n sd) = onAir s := by
  unfold refusalPath
  repeat' split
  all_goals simp

@[simp] theorem onAir_settleRace (s : State) (sd : Side) : onAir (settleRace s sd) = onAir s := by
  unfold settleRace
  split <;> simp

@[simp] theorem onAir_freeView (s : State) (sd : Side) : onAir (freeView s sd) = onAir s := by
  unfold freeView
  dsimp only
  split <;> simp

@[simp] theorem onAir_unpostClaim (s : State) (sd : Side) : onAir (unpostClaim s sd) = onAir s := by
  unfold unpostClaim
  split <;> simp

@[simp] theorem onAir_withdrawClaim (s : State) (sd : Side) : onAir (withdrawClaim s sd) = onAir s := by
  unfold withdrawClaim
  repeat' split
  all_goals simp

@[simp] theorem onAir_claimRefused (s : State) (sd : Side) : onAir (claimRefused s sd) = onAir s := by
  unfold claimRefused
  split <;> simp

@[simp] theorem onAir_overlayLifted (s : State) (sd : Side) : onAir (overlayLifted s sd) = onAir s := by
  unfold overlayLifted
  split <;> simp

@[simp] theorem onAir_dropHeld (s : State) : onAir (dropHeld s) = onAir s := by
  unfold dropHeld
  repeat' split
  all_goals simp

@[simp] theorem onAir_dropHeldAt (s : State) (sd : Side) : onAir (dropHeldAt s sd) = onAir s := by
  unfold dropHeldAt
  repeat' split
  all_goals simp

theorem onAir_changeOverlay (sd : Side) (f : State → State) (s : State) :
    onAir (changeOverlay sd f s) = onAir (f s) := by
  unfold changeOverlay
  dsimp only
  repeat' split
  all_goals simp

@[simp] theorem onAir_resendLoaded (s : State) (sd : Side) : onAir (resendLoaded s sd) = onAir s := by
  unfold resendLoaded
  split <;> simp

@[simp] theorem onAir_leaveView (n : Nat) (s : State) (sd : Side) :
    onAir (leaveView n s sd) = onAir s := by
  unfold leaveView
  repeat' split
  all_goals simp

@[simp] theorem onAir_leaveRace (n : Nat) (s : State) (sd : Side) :
    onAir (leaveRace n s sd) = onAir s := by
  unfold leaveRace
  split <;> simp

/-! ### The end of a context -/

@[simp] theorem onAir_forgetStep (s : State) (n : Nat) : onAir (forgetStep s n) = onAir s := by
  unfold forgetStep
  dsimp only
  split <;> simp

@[simp] theorem onAir_reportEnd (s : State) (n : Nat) (d : DoneBody) :
    onAir (reportEnd s n d) = onAir s := by
  unfold reportEnd
  split <;> simp

@[simp] theorem onAir_endCtx (s : State) (n : Nat) (o : JobOutcome) (d : Nat) :
    onAir (endCtx s n o d) = onAir s := by
  unfold endCtx
  dsimp only
  split
  · rfl
  · rw [onAir_foldl _ (onAir_leaveView n), onAir_foldl _ (onAir_leaveRace n)]
    simp

@[simp] theorem onAir_voidGrant (s : State) (sd : Side) : onAir (voidGrant s sd) = onAir s := by
  unfold voidGrant
  repeat' split
  all_goals simp

/-! ### The motion port -/

@[simp] theorem onAir_startTimer (s : State) : onAir (startTimer s) = onAir s := rfl
@[simp] theorem onAir_parkPlain (s : State) : onAir (parkPlain s) = onAir s := rfl
@[simp] theorem onAir_abandonXfer (s : State) (x : Xfer) : onAir (abandonXfer s x) = onAir s := rfl

@[simp] theorem onAir_retargetXfer (s : State) (x : Xfer) (c : Nat) :
    onAir (retargetXfer s x c) = onAir s := rfl

@[simp] theorem onAir_beginTransfer (s : State) (n : Nat) (kind : StepKind) (src dst : Pos) :
    onAir (beginTransfer s n kind src dst) = onAir s := by
  unfold beginTransfer
  dsimp only
  split <;> simp

@[simp] theorem onAir_askShutter (s : State) (sh : ShutterId) (p : ShutterPos) :
    onAir (askShutter s sh p) = onAir s := by
  unfold askShutter
  dsimp only
  repeat' split
  all_goals simp

@[simp] theorem onAir_askAll (s : State) (p : ShutterPos) : onAir (askAll s p) = onAir s :=
  onAir_foldl _ (fun _ _ => onAir_askShutter _ _ _) _ _

@[simp] theorem onAir_powerOff (s : State) : onAir (powerOff s) = onAir s := rfl
@[simp] theorem onAir_noPutAway (s : State) : onAir (noPutAway s) = onAir s := rfl

/-! ### Step starts -/

@[simp] theorem onAir_skipEntries (k : Nat) (s : State) (n : Nat) :
    onAir (skipEntries k s n) = onAir s := by
  induction k generalizing s with
  | zero => rfl
  | succ k ih =>
    unfold skipEntries
    repeat' split
    all_goals simp [ih]

@[simp] theorem onAir_endRestore (s : State) (n : Nat) :
    onAir (endRestore s n) = onAir s := by simp [endRestore]

@[simp] theorem onAir_aim (k : Nat) (s : State) (n : Nat) : onAir (aim k s n).1 = onAir s := by
  induction k generalizing s with
  | zero => rfl
  | succ k ih =>
    unfold aim
    dsimp only
    repeat' split
    all_goals simp [ih]

@[simp] theorem onAir_spillOrWait (s : State) (n : Nat) (b : BinId) :
    onAir (spillOrWait s n b) = onAir s := by
  unfold spillOrWait
  split <;> simp

@[simp] theorem onAir_intoSlot (s : State) (n : Nat) (kind : StepKind) (src : Pos) (sd : Side) :
    onAir (intoSlot s n kind src sd) = onAir s := by
  unfold intoSlot
  split <;> simp

@[simp] theorem onAir_digStart (s : State) (n c : Nat) : onAir (digStart s n c) = onAir s := by
  unfold digStart
  repeat' split
  all_goals simp

@[simp] theorem onAir_deliveryStart (s : State) (n c : Nat) : onAir (deliveryStart s n c) = onAir s := by
  unfold deliveryStart
  dsimp only
  repeat' split
  all_goals simp

@[simp] theorem onAir_targetStep (s : State) (n c h : Nat) : onAir (targetStep s n c h) = onAir s := by
  unfold targetStep
  repeat' split
  all_goals simp

@[simp] theorem onAir_aimStart (s : State) (n : Nat) : onAir (aimStart s n) = onAir s := by
  have ha := onAir_aim 9 s n
  unfold aimStart
  split
  · rename_i t heq
    rw [heq] at ha
    simp [← ha]
  · rename_i t c h heq
    rw [heq] at ha
    split
    · simp [← ha]
    · simp [← ha]

@[simp] theorem onAir_retrievalStart (s : State) (n : Nat) : onAir (retrievalStart s n) = onAir s := by
  unfold retrievalStart
  dsimp only
  repeat' split
  all_goals simp

@[simp] theorem onAir_putAwayStart (s : State) (n : Nat) (b : BinId) (d : Nat) (src : Pos) :
    onAir (putAwayStart s n b d src) = onAir s := by
  unfold putAwayStart
  repeat' split
  all_goals simp

@[simp] theorem onAir_stowStart (s : State) (n : Nat) : onAir (stowStart s n) = onAir s := by
  unfold stowStart
  repeat' split
  all_goals simp

@[simp] theorem onAir_spillStart (s : State) (n : Nat) : onAir (spillStart s n) = onAir s := by
  unfold spillStart
  repeat' split
  all_goals simp

@[simp] theorem onAir_reclaimStart (s : State) (n : Nat) : onAir (reclaimStart s n) = onAir s := by
  unfold reclaimStart
  repeat' split
  all_goals simp

@[simp] theorem onAir_stepStart (s : State) (n : Nat) : onAir (stepStart s n) = onAir s := by
  unfold stepStart
  split <;> simp

@[simp] theorem onAir_activate (s : State) (n : Nat) : onAir (activate s n) = onAir s := rfl

@[simp] theorem onAir_runSchedule (k : Nat) (s : State) : onAir (runSchedule k s) = onAir s := by
  induction k generalizing s with
  | zero => simp [runSchedule]
  | succ k ih =>
    unfold runSchedule
    dsimp only
    repeat' split
    all_goals simp [ih]

/-! ### The fire controller -/

@[simp] theorem onAir_setNode (s : State) (n : NodeState) : onAir (setNode s n) = onAir s := rfl

@[simp] theorem onAir_setFireCause (s : State) (b : Bool) (sd : Side) :
    onAir (setFireCause s b sd) = onAir s := by
  rw [setFireCause, onAir_changeOverlay, onAir_modView]

@[simp] theorem onAir_guardSide (s : State) (sd : Side) : onAir (guardSide s sd) = onAir s := by
  unfold guardSide
  dsimp only
  repeat' split
  all_goals simp

@[simp] theorem onAir_guardSides (s : State) : onAir (guardSides s) = onAir s :=
  onAir_foldl _ onAir_guardSide _ _

@[simp] theorem onAir_pauseHeld (s : State) : onAir (pauseHeld s) = onAir s := by
  unfold pauseHeld
  split <;> simp

@[simp] theorem onAir_enterGuard (s : State) : onAir (enterGuard s) = onAir s := by
  rw [enterGuard, onAir_guardSides, onAir_foldl _ onAir_withdrawClaim]
  simp

@[simp] theorem onAir_reopenSide (s : State) (sd : Side) : onAir (reopenSide s sd) = onAir s := by
  unfold reopenSide
  split <;> simp

@[simp] theorem onAir_leaveGuard (s : State) : onAir (leaveGuard s) = onAir s := by
  rw [leaveGuard, onAir_releasePaused, onAir_guardSides, onAir_foldl _ onAir_reopenSide]
  simp

@[simp] theorem onAir_enterRun (s : State) : onAir (enterRun s) = onAir s := by
  unfold enterRun
  split <;> simp

@[simp] theorem onAir_setDownLoaded (s : State) (x : Xfer) : onAir (setDownLoaded s x) = onAir s := by
  unfold setDownLoaded
  dsimp only
  repeat' split
  all_goals simp

@[simp] theorem onAir_beginSetDown (s : State) : onAir (beginSetDown s) = onAir s := by
  unfold beginSetDown
  repeat' split
  all_goals simp

@[simp] theorem onAir_dropPutAway (s : State) : onAir (dropPutAway s) = onAir s := by
  unfold dropPutAway
  split <;> simp

@[simp] theorem onAir_enterShutdown (s : State) : onAir (enterShutdown s) = onAir s := by
  rw [enterShutdown, onAir_beginSetDown, onAir_foldl _ (fun t sd => onAir_setFireCause t true sd)]
  simp

@[simp] theorem onAir_safeEntry (s : State) : onAir (safeEntry s) = onAir s := by
  unfold safeEntry
  split <;> simp

@[simp] theorem onAir_closeShutters (s : State) :
    onAir (closeShutters s) = onAir s := by simp [closeShutters]

@[simp] theorem onAir_markFault (s : State) : onAir (markFault s) = onAir s := rfl

@[simp] theorem onAir_shutdownSync (s : State) : onAir (shutdownSync s) = onAir s := by
  unfold shutdownSync
  repeat' split
  all_goals simp

@[simp] theorem onAir_decideState (s : State) : onAir (decideState s) = onAir s := by
  unfold decideState
  repeat' split
  all_goals simp

@[simp] theorem onAir_addZones (s : State) (z : ZoneSet) :
    onAir (addZones s z) = onAir s := by simp [addZones]

/-! ### The end of an event -/

@[simp] theorem onAir_postAnnounce (s : State) : onAir (postAnnounce s) = onAir s := by
  unfold postAnnounce
  split <;> simp

@[simp] theorem onAir_enterJoining (s : State) :
    onAir (enterJoining s) = onAir s := by simp [enterJoining]

@[simp] theorem onAir_emptyImage (s : State) : onAir (emptyImage s) = onAir s := by
  unfold emptyImage
  dsimp only
  split
  · rfl
  · rw [onAir_noPutAway, onAir_foldl _ onAir_freeView]
    rfl

@[simp] theorem onAir_leaveHoming (s : State) : onAir (leaveHoming s) = onAir s := by
  unfold leaveHoming
  split <;> simp

@[simp] theorem onAir_endResuming (s : State) : onAir (endResuming s) = onAir s := by
  unfold endResuming
  split <;> simp

@[simp] theorem onAir_resumeSync (s : State) : onAir (resumeSync s) = onAir s := by
  unfold resumeSync
  split <;> simp

@[simp] theorem onAir_commandPutAway (s : State) : onAir (commandPutAway s) = onAir s := by
  unfold commandPutAway
  repeat' split
  all_goals simp

@[simp] theorem onAir_settle (s : State) : onAir (settle s) = onAir s := by
  rw [settle, onAir_foldl _ onAir_resendLoaded]
  simp

@[simp] theorem onAir_releaseHeld (s : State) : onAir (releaseHeld s) = onAir s := by
  unfold releaseHeld
  repeat' split
  all_goals simp

@[simp] theorem onAir_commit (was s : State) : onAir (commit was s) = onAir s := by
  unfold commit
  split <;> simp

@[simp] theorem onAir_endEvent (was s : State) : onAir (endEvent was s) = onAir s := by simp [endEvent]

/-! ### The frame owners -/

@[simp] theorem onAir_countReceived (s : State) : onAir (countReceived s) = onAir s := rfl

@[simp] theorem onAir_dropOffers (s : State) (p : OfferEntry → Bool) :
    onAir (dropOffers s p) = onAir s := rfl

@[simp] theorem onAir_modOffer (s : State) (tag : Tag) (f : OfferEntry → OfferEntry) :
    onAir (modOffer s tag f) = onAir s := rfl

@[simp] theorem onAir_makeBid (s : State) (n : Nat) (f : OfferFrame) (tag : Tag) (smin : Nat) :
    onAir (makeBid s n f tag smin) = onAir s := rfl

@[simp] theorem onAir_takeOffer (s : State) (f : OfferFrame) (tag : Tag) :
    onAir (takeOffer s f tag) = onAir s := by
  unfold takeOffer
  repeat' split
  all_goals simp

@[simp] theorem onAir_refuseClosed (s : State) (b : Station) (g : Tag) :
    onAir (refuseClosed s b g) = onAir s :=
  onAir_respond _ _ _ rfl

@[simp] theorem onAir_ownBidWins (s : State) (own : Option Nat) (b : BinId) :
    onAir (ownBidWins s own b) = onAir s := by
  unfold ownBidWins
  repeat' split
  all_goals simp

@[simp] theorem onAir_startHandover (s : State) (tag : Tag) (b : BinId) (winner : Station) :
    onAir (startHandover s tag b winner) = onAir s := by
  unfold startHandover
  dsimp only
  split <;> simp

@[simp] theorem onAir_holderTakesBid (s : State) (own : Option Nat) (bidder : Station) (tag : Tag) :
    onAir (holderTakesBid s own bidder tag) = onAir s := by
  unfold holderTakesBid
  repeat' split
  all_goals simp

@[simp] theorem onAir_ownBidSent (s : State) (n : Nat) : onAir (ownBidSent s n) = onAir s := by
  unfold ownBidSent
  dsimp only
  repeat' split
  all_goals simp

@[simp] theorem onAir_takeOfferClosed (s : State) (h : Station) (g : Tag) :
    onAir (takeOfferClosed s h g) = onAir s := onAir_foldl _ onAir_withdrawBid _ _

@[simp] theorem onAir_popReply (s : State) (seq : Nat) : onAir (popReply s seq) = onAir s := rfl

@[simp] theorem onAir_removePending (s : State) (k : TxKey) (seq : Nat) :
    onAir (removePending s k seq) = onAir s := by
  unfold removePending
  split <;> simp

@[simp] theorem onAir_ownerSent (s : State) (k : TxKey) (f : Frame) :
    onAir (ownerSent s k f) = onAir s := by
  unfold ownerSent
  split <;> simp

@[simp] theorem onAir_takeOwn (s : State) (f : Frame) : onAir (takeOwn s f) = onAir s := by
  unfold takeOwn
  repeat' split
  all_goals simp

@[simp] theorem onAir_countVoid (s : State) : onAir (countVoid s) = onAir s := rfl

@[simp] theorem onAir_countFrameVoid (s : State) (k : TxKey) (q v : Nat) :
    onAir (countFrameVoid s k q v) = onAir s := by
  cases k <;> simp [countFrameVoid]

@[simp] theorem onAir_ownerDropped (s : State) (k : TxKey) (f : Frame) :
    onAir (ownerDropped s k f) = onAir s := by
  unfold ownerDropped
  repeat' split
  all_goals simp

/-! ### Part 1 of O57 and O58 -/

theorem noneOnAir_iff {s : State} : s.bus.tx = none ↔ onAir s = false := by
  rw [onAir, Option.isSome_eq_false_iff, Option.isNone_iff_eq_none]

/-- The frame on the bus has gone once its event is over, whether it was voided or carried. -/
theorem frameVoided_gone (s : State) : onAir (frameVoided s) = false := by
  unfold frameVoided
  dsimp only
  split
  · rename_i h
    exact noneOnAir_iff.mp h
  · have hclear : onAir (clearTx (countVoid s)) = false := rfl
    split
    · exact hclear
    · split
      · rw [onAir_countFrameVoid, hclear]
      · rw [onAir_ownerDropped, onAir_removePending, hclear]

theorem frameCarried_gone (s : State) (x : Tx) : onAir (frameCarried s x) = false := by
  unfold frameCarried
  dsimp only
  rw [onAir_takeOwn]
  split
  · rw [onAir_ownerSent, onAir_removePending]
    rfl
  · rfl

theorem fullEvent_gone {body : State → State} {s : State} (h : onAir (body (clearOut s)) = false) :
    (fullEvent body s).bus.tx = none := by
  rw [noneOnAir_iff, fullEvent, onAir_endEvent, onAir_settle, h]

end Sys2Proof.Machine
end

section
/-! PROOFS. A frame voided on the bus, and what its owner does at the eighth void (O58). -/

namespace Sys2Proof.Machine

open Sys2Proof

-- In turn, so that the proofs do not hold more threads at once than the memory limit has stacks for.
set_option Elab.async false

/-! ### Frames in their places -/

section Places

variable {s : State} {f : PFrame}

theorem stillPending_of_mem {k : TxKey} (h : (k, f) ∈ pendingSet s) : stillPending s k f.seq = true := by
  rw [stillPending, Bool.or_eq_true, List.any_eq_true]
  exact Or.inl ⟨(k, f), h, decide_eq_true ⟨rfl, rfl⟩⟩

theorem mem_pendingSet {k : TxKey} (h : (k, f) ∈ standing s) : (k, f) ∈ pendingSet s := by
  rw [pendingSet, List.append_assoc]
  exact List.mem_append_left _ h

theorem stillPending_slot {sd : Side} (h : (view s sd).pend = some f) : stillPending s (.slot sd) f.seq = true := by
  refine stillPending_of_mem (mem_pendingSet ?_)
  cases sd
  · have hw : s.slots.west.pend = some f := h
    simp [standing, placed?, hw]
  · have he : s.slots.east.pend = some f := h
    simp [standing, placed?, he]

theorem stillPending_bid {n : Nat} (hn : n < 16) (h : (ctxOf s n).bid = some f) :
    stillPending s (.bid n) f.seq = true := by
  refine stillPending_of_mem (mem_pendingSet ?_)
  have hm : (TxKey.bid n, f) ∈ ctxNumbers.flatMap (fun n => placed? (.bid n) (ctxOf s n).bid) :=
    List.mem_flatMap.mpr ⟨n, List.mem_range.mpr hn, by simp [placed?, h]⟩
  simp only [standing, List.mem_append]
  exact Or.inl (Or.inr hm)

theorem stillPending_reply (h : f ∈ s.bus.replies) : stillPending s .reply f.seq = true := by
  have ha : s.bus.replies.any (fun g => g.seq = f.seq) = true := List.any_eq_true.mpr ⟨f, h, decide_eq_true rfl⟩
  simp [stillPending, ha]

end Places

/-! ### What a frame's leaving and its drop keep -/

theorem counters_of_kept {s t : State} (h : kept t = kept s) : t.bus.counters = s.bus.counters :=
  congrArg (fun x => x.2.2.2.2.2.2.2.2.2.2.2.1) h

theorem stow_of_kept {s t : State} (h : kept t = kept s) : t.stow = s.stow := congrArg (fun x => x.2.2.1) h

theorem counters_removePending (s : State) (k : TxKey) (q : Nat) :
    (removePending s k q).bus.counters = s.bus.counters := by
  cases k with
  | alarm | state | announce | record | adopted | bid | reply => rfl
  | slot sd => exact counters_of_kept (kept_of_lasting (lasting_slotFrameLeaves s sd))
  | notice => exact counters_of_kept (kept_of_lasting (lasting_noticeLeaves s _))
  | done =>
    unfold removePending popDone
    dsimp only
    split
    · rfl
    · split <;> rfl

theorem counters_ownerDropped (s : State) (k : TxKey) (f : Frame) :
    (ownerDropped s k f).bus.counters = s.bus.counters := by
  unfold ownerDropped
  split
  · split
    · exact counters_of_kept (kept_of_lasting (lasting_claimRefused s _))
    · rfl
  · split
    · exact counters_of_kept (kept_of_lasting (lasting_voidGrant s _))
    · rfl
  · rw [modView_bus]
  · rw [modView_bus]
  · exact counters_of_kept (kept_of_lasting (lasting_withdrawBid s _))
  · rfl
  · rfl

theorem counters_countFrameVoid (s : State) (k : TxKey) (q v : Nat) :
    (countFrameVoid s k q v).bus.counters = s.bus.counters := by
  cases k with
  | slot sd => exact congrArg Bus.counters (modView_bus s sd _)
  | _ => rfl

theorem counters_frameVoided (s : State) : (frameVoided s).bus.counters = (countVoid s).bus.counters := by
  unfold frameVoided
  dsimp only
  split
  · rfl
  · split
    · rfl
    · split
      · rw [counters_countFrameVoid]
        rfl
      · rw [counters_ownerDropped, counters_removePending]
        rfl

theorem void_counted (s : State) : ∃ t, exec .frameVoided s = .next t ∧ t.bus.tx = none ∧
    t.bus.counters.voids = min 65535 (s.bus.counters.voids + 1) := by
  refine ⟨_, rfl, fullEvent_gone (frameVoided_gone _), ?_⟩
  rw [counters_of_kept (kept_fullEvent frameVoided s), counters_frameVoided]
  rfl

/-! ### A void of a frame that is still pending -/

section Voids

variable {s : State} {x : Tx} {f : PFrame}

/-- The node with a void counted and its frame off the bus. -/
def afterVoid (s : State) : State := clearTx (countVoid (clearOut s))

theorem frameVoided_again (hx : s.bus.tx = some x) (hw : x.withdrawn = false)
    (hp : stillPending (clearOut s) x.key x.pf.seq = true) (hv : x.pf.voids < 7) :
    frameVoided (clearOut s) = countFrameVoid (afterVoid s) x.key x.pf.seq (x.pf.voids + 1) := by
  have hx' : (clearOut s).bus.tx = some x := hx
  rw [frameVoided, hx']
  dsimp only
  rw [if_neg (by simp [hw, hp]), if_pos (by omega)]
  rfl

theorem frameVoided_dropped (hx : s.bus.tx = some x) (hw : x.withdrawn = false)
    (hp : stillPending (clearOut s) x.key x.pf.seq = true) (hv : 7 ≤ x.pf.voids) :
    frameVoided (clearOut s) =
      ownerDropped (removePending (afterVoid s) x.key x.pf.seq) x.key x.pf.frame := by
  have hx' : (clearOut s).bus.tx = some x := hx
  rw [frameVoided, hx']
  dsimp only
  rw [if_neg (by simp [hw, hp]), if_neg (by omega)]
  rfl

/-! ### Answer frames -/

/-- An answer's owner changes the node's OFFERs at most: an OFFER dropped takes its entry with it. -/
theorem ownerDropped_reply (u : State) (g : Frame) : (ownerDropped u .reply g).bus = u.bus ∧
    ∀ st b d o desk, g.payload = .offer st b d o desk →
      ownerDropped u .reply g = dropOffers u (fun e => e.tag = g.tag) := by
  refine ⟨?_, fun st b d o desk hg => by simp only [ownerDropped, hg]⟩
  unfold ownerDropped
  split
  case h_6 | h_7 => rfl
  all_goals contradiction

section Answers

variable {fs : List PFrame} (hx : s.bus.tx = some x) (hw : x.withdrawn = false) (hk : x.key = .reply)
  (hr : s.bus.replies = f :: fs) (hq : f.seq = x.pf.seq)

include hk hr hq in
theorem answer_stillPending : stillPending (clearOut s) x.key x.pf.seq = true := by
  rw [hk, ← hq]
  exact stillPending_reply (s := clearOut s) (by change f ∈ s.bus.replies; rw [hr]; exact List.mem_cons_self)

include hx hw hk hr hq

theorem answer_raised (hv : x.pf.voids < 7) : ∃ t, exec .frameVoided s = .next t ∧
    t.bus.replies = { f with voids := x.pf.voids + 1 } :: fs := by
  refine ⟨_, rfl, ?_⟩
  rw [replies_of_kept (kept_fullEvent frameVoided s),
    frameVoided_again hx hw (answer_stillPending hk hr hq) hv, hk]
  change s.bus.replies.modify (s.bus.replies.findIdx (fun g => g.seq = x.pf.seq)) (setVoids (x.pf.voids + 1)) = _
  have hfirst : s.bus.replies.findIdx (fun g => g.seq = x.pf.seq) = 0 := by
    rw [hr, List.findIdx_cons, hq, decide_eq_true rfl]
    rfl
  rw [hfirst, hr]
  rfl

theorem answer_dropped (hv : 7 ≤ x.pf.voids) : ∃ t, exec .frameVoided s = .next t ∧ t.bus.replies = fs ∧
    ∀ st b d o desk, x.pf.frame.payload = .offer st b d o desk →
      t.stow.offers = s.stow.offers.filter (fun e => e.tag ≠ x.pf.frame.tag) := by
  have hbody := frameVoided_dropped hx hw (answer_stillPending hk hr hq) hv
  have hkept := kept_fullEvent frameVoided s
  rw [hbody, hk] at hkept
  obtain ⟨hbus, hoffer⟩ := ownerDropped_reply (removePending (afterVoid s) .reply x.pf.seq) x.pf.frame
  refine ⟨_, rfl, ?_, fun st b d o desk hp => ?_⟩
  · rw [replies_of_kept hkept, hbus]
    change s.bus.replies.eraseP (fun g => g.seq = x.pf.seq) = fs
    rw [hr, List.eraseP_cons, hq, decide_eq_true rfl]
    rfl
  · rw [stow_of_kept hkept, hoffer st b d o desk hp]
    exact congrArg (fun p => s.stow.offers.filter p) (funext fun e => by simp)

end Answers

/-! ### BID -/

/-- At the eighth void a BID's context is FREE, and reports nothing. -/
theorem bid_dropped {n : Nat} (hc : Calm s) (hts : TablesSized s) (hn : n < 16) (ho : OnTheBus s x (.bid n) f)
    (hb : (ctxOf s n).bid = some f) (hv : 7 ≤ x.pf.voids) :
    ∃ t, exec .frameVoided s = .next t ∧ ctxOf t n = Ctx.blank ∧ t.sched.doneQ = s.sched.doneQ := by
  obtain ⟨_, hlen, _⟩ := hts
  obtain ⟨hx, hw, hk, hq⟩ := ho
  let u := modCtx (afterVoid s) n (fun c => { c with bid := none })
  have hp : stillPending (clearOut s) x.key x.pf.seq = true := by
    rw [hk, ← hq]
    exact stillPending_bid (s := clearOut s) hn hb
  have hbody : frameVoided (clearOut s) = withdrawBid u n := by
    rw [frameVoided_dropped hx hw hp hv, hk]
    rfl
  have hu : Calm u := hc
  have hlen' : n < u.sched.ctxs.length := by
    have : u.sched.ctxs.length = s.sched.ctxs.length := List.length_set
    rw [this, hlen]
    exact hn
  have w : Within Scope.ending u (withdrawBid u n) := (Within.refl _ u).after_withdrawBid trivial trivial
  obtain ⟨hblank, hdone⟩ := withdrawBid_frees hlen'
  have e := fullEvent_calmOver hbody (w.calm (fun hf => hf) (fun hf => hf) hu)
  refine ⟨_, rfl, ?_, e.doneQ.trans hdone⟩
  rw [e.ctx n (by rw [hblank]; exact CtxState.noConfusion), hblank]

/-! ### Slot frames -/

section Slot

variable {sd : Side} {n : Nat}

/-- The node with a void counted and the frame of a side gone from its place. -/
def slotVoided (s : State) (sd : Side) : State := modView (afterVoid s) sd (fun v => { v with pend := none })

theorem view_slotVoided (s : State) (sd : Side) : view (slotVoided s sd) sd = { view s sd with pend := none } :=
  modView_view _ _ _

theorem slotVoided_sched (s : State) (sd : Side) : (slotVoided s sd).sched = (clearOut s).sched :=
  modView_sched _ _ _

theorem sideOnly_slotVoided (s : State) (sd : Side) : SideOnly sd s (slotVoided s sd) := by
  have h : SideOnly sd s (afterVoid s) := (sideOnly_clearOut s).after_bus (afterVoid s).bus rfl rfl
  exact h.after_modView _

theorem calm_slotVoided (hc : Calm s) (sd : Side) : Calm (slotVoided s sd) :=
  calm_modView (s := afterVoid s) hc sd _ ⟨rfl, rfl⟩

/-- The body of the eighth void of a slot frame, no other waiting: the frame leaves, and its owner acts. -/
theorem slotFrame_dropped (ho : OnTheBus s x (.slot sd) f) (hp : (view s sd).pend = some f)
    (hw : (view s sd).waiting = []) (hv : 7 ≤ x.pf.voids) :
    frameVoided (clearOut s) = ownerDropped (slotVoided s sd) (.slot sd) x.pf.frame := by
  obtain ⟨hx, hwd, hk, hq⟩ := ho
  have hst : stillPending (clearOut s) x.key x.pf.seq = true := by
    rw [hk, ← hq]
    exact stillPending_slot (s := clearOut s) hp
  rw [frameVoided_dropped hx hwd hst hv, hk]
  exact congrArg (fun u => ownerDropped u (.slot sd) x.pf.frame) (slotFrameLeaves_last (s := afterVoid s) hw)

section Dropped

variable (hc : Calm s) (hb : frameVoided (clearOut s) = ownerDropped (slotVoided s sd) (.slot sd) x.pf.frame)
include hc hb

theorem claim_dropped {k : BinId} (hts : TablesSized s) (hrace : (view s sd).raced = none)
    (hf : x.pf.frame.payload = .slotClaim k) (hv : (view s sd).state = .claiming)
    (htag : (view s sd).tag = x.pf.frame.tag) (hctx : (view s sd).ctx = some n) (hn : n < 16)
    (hst : (ctxOf s n).state = .stalled) (hw : (ctxOf s n).wait = some .slotWait) :
    ∃ t, exec .frameVoided s = .next t ∧ (view t sd).state = .free ∧ (view t sd).pend = none ∧
      RefusalPathTaken s t sd n := by
  have hview := view_slotVoided s sd
  have hbody : frameVoided (clearOut s) = claimRefused (slotVoided s sd) sd := by
    rw [hb]
    simp only [ownerDropped, hf]
    exact if_pos (by rw [hview]; exact ⟨hv, htag⟩)
  obtain ⟨hside, hpath, _⟩ := claimRefused_ends (sideOnly_slotVoided s sd) (calm_slotVoided hc sd) hbody
    (congrArg Sched.woken (slotVoided_sched s sd)) hts hn (by rw [hview]; exact hrace)
    (by rw [hview]; exact hctx) hst hw
  exact ⟨_, rfl, by rw [hside]; rfl, by rw [hside, hview]; rfl, hpath⟩

theorem grant_dropped {k : BinId} (hts : TablesSized s) (hrace : (view s sd).raced = none)
    (hf : x.pf.frame.payload = .slotGrant k) (hv : (view s sd).state = .theirs)
    (htag : (view s sd).tag = x.pf.frame.tag) (hctx : (view s sd).ctx = some n) (hn : n < 16)
    (hst : (ctxOf s n).state = .awaiting) (hroom : s.sched.doneQ.length < 8) :
    ∃ t, exec .frameVoided s = .next t ∧ (view t sd).state = .free ∧ (view t sd).pend = none ∧
      ctxOf t n = Ctx.blank ∧ ∃ e ∈ t.sched.doneQ, e.body.outcome = .removed ∧ e.body.ctx = n := by
  obtain ⟨_, hlen, _⟩ := hts
  have hview := view_slotVoided s sd
  have hsched := slotVoided_sched s sd
  have hbody : frameVoided (clearOut s) = voidGrant (slotVoided s sd) sd := by
    rw [hb]
    simp only [ownerDropped, hf]
    exact if_pos (by rw [hview]; exact htag)
  have hvd : Voided (slotVoided s sd) sd n (voidGrant (slotVoided s sd) sd) := by
    refine voidGrant_removes ?_ ?_ ?_ ?_ ?_ ?_
    · rw [hsched]; exact lt_of_lt_of_eq hn hlen.symm
    · rw [hview]; exact hv
    · rw [hview]; exact hctx
    · rw [hview]; exact hrace
    · rw [ctxOf, hsched]
      change (ctxOf s n).state ≠ .free ∧ (ctxOf s n).state ≠ .ending
      rw [hst]
      exact ⟨CtxState.noConfusion, CtxState.noConfusion⟩
    · rw [hsched]; exact hroom
  obtain ⟨d, hdone, hbd⟩ := hvd.done
  have e := fullEvent_calmOver hbody (hvd.calm (calm_slotVoided hc sd))
  have hside := (e.view sd).trans hvd.side
  refine ⟨_, rfl, by rw [hside]; rfl, by rw [hside, hview]; rfl, ?_, d, ?_, ?_⟩
  · rw [e.ctx n (by rw [hvd.ctx]; exact CtxState.noConfusion), hvd.ctx]
  · rw [e.doneQ, hdone]
    exact List.mem_append_right _ List.mem_cons_self
  · rw [hbd]
    exact ⟨rfl, rfl⟩

theorem taken_dropped {k : BinId} (hf : x.pf.frame.payload = .slotTaken k) :
    ∃ t, exec .frameVoided s = .next t ∧
      view t sd = { view s sd with takenOwed := some (k, x.pf.frame.tag), pend := none } := by
  have hbody : frameVoided (clearOut s) =
      modView (slotVoided s sd) sd (fun v => { v with takenOwed := some (k, x.pf.frame.tag) }) := by
    rw [hb]
    simp only [ownerDropped, hf]
  have e := fullEvent_calmOver hbody (calm_modView (calm_slotVoided hc sd) sd _ ⟨rfl, rfl⟩)
  exact ⟨_, rfl, by rw [e.view sd, modView_view, view_slotVoided]⟩

theorem refuse_dropped {why : SlotRefuseReason} (hf : x.pf.frame.payload = .slotRefuse why) :
    ∃ t, exec .frameVoided s = .next t ∧ view t sd = { view s sd with pend := none } := by
  have hbody : frameVoided (clearOut s) = slotVoided s sd := by
    rw [hb]
    simp only [ownerDropped, hf]
  have e := fullEvent_calmOver hbody (calm_slotVoided hc sd)
  exact ⟨_, rfl, by rw [e.view sd, view_slotVoided]⟩

end Dropped

/-! ### SLOT LOADED sent again (R111) -/

/-- With the gantry busy in RUN and no side closed for fire, an event's end makes its wake-ups and sends the
SLOT LOADED frames owed. -/
theorem settle_resends {u : State} (hrun : u.fire.node = .run) (hg : u.motion.gantry ≠ .idle)
    (hover : u.inv.overflow = none) (hclosed : ∀ e, (view u e).fireClosed = false) :
    settle u = sides.foldl resendLoaded (flushWoken u) := by
  have hguard : guardSides u = u := by
    simp [guardSides, sides, guardSide_run _ _ hrun (hclosed _)]
  rw [settle_eq u (by simp [hrun]) (by simp [hrun]), moveOverflow_none _ hover, hguard, commandPutAway_busy _ hg,
    runSchedule_busy _ _ hg]

/-- With a resend owed on one side alone, the other's frames are not touched. -/
theorem resendAll_one {u : State} (h : ∀ e, e ≠ sd → (view u e).resendOwed = false) :
    sides.foldl resendLoaded u = resendLoaded u sd := by
  have hfold : sides.foldl resendLoaded u = resendLoaded (resendLoaded u .west) .east := rfl
  rw [hfold]
  cases sd
  · have he := h .east Side.noConfusion
    exact resendLoaded_notOwed _ _ (by rw [resendLoaded_view he]; exact he)
  · rw [resendLoaded_notOwed u .west (h .west Side.noConfusion)]

/-- A LOADED_OUT side with a resend owed and nothing pending sends its SLOT LOADED again where R111 allows. -/
theorem view_resendLoaded {u : State} {q : BinRecord} (hv : (view u sd).state = .loadedOut)
    (ho : (view u sd).resendOwed = true) (hp : (view u sd).pend = none)
    (hr : recordAt u (.inSlot sd) = some q) :
    view (resendLoaded u sd) sd =
      if sideClosed u sd = false ∧ (nbr u sd).present = true ∧ (nbr u sd).nodeState = some .run ∧
          reclaimOn u sd = false then
        { view u sd with
          resendOwed := false
          pend := some (posted u.bus.seq (slotFrame u sd (view u sd).tag (.slotLoaded q.body))) }
      else view u sd := by
  let w := modView u sd (fun v => { v with resendOwed := false })
  have hw : view w sd = { view u sd with resendOwed := false } := modView_view _ _ _
  have hframe : ∀ g p, slotFrame w sd g p = slotFrame u sd g p := fun g p => by cases sd <;> rfl
  have hrec : recordAt w (.inSlot sd) = some q := by rw [recordAt, modView_inv]; exact hr
  have hpost : postWaiting w sd .loaded = postSlot w sd (view u sd).tag (.slotLoaded q.body) := by
    simp only [postWaiting, hw, hv, if_true, hrec]
  unfold resendLoaded
  simp only [hv, ho, hp, Option.isNone_none, true_and]
  split
  · rw [show postWaiting (modView u sd _) sd .loaded = postWaiting w sd .loaded from rfl, hpost,
      view_postSlot_self, hframe, hw, modView_bus, ← hv]
  · rfl

theorem loaded_dropped {r : RecordBody} {q : BinRecord} (hc : Calm s)
    (hb : frameVoided (clearOut s) = ownerDropped (slotVoided s sd) (.slot sd) x.pf.frame)
    (hf : x.pf.frame.payload = .slotLoaded r) (hv : (view s sd).state = .loadedOut)
    (htag : (view s sd).tag = x.pf.frame.tag) (hr : recordAt s (.inSlot sd) = some q) :
    ∃ t, exec .frameVoided s = .next t ∧
      view t sd =
        if sideClosed s sd = false ∧ (nbr s sd).present = true ∧
            (nbr s sd).nodeState = some .run ∧ reclaimOn s sd = false then
          { view s sd with
            pend := some (posted s.bus.seq
              (slotFrame s sd (view s sd).tag (.slotLoaded q.body))) }
        else { view s sd with resendOwed := true, pend := none } := by
  have hcs := calm_slotVoided hc sd
  let u := modView (slotVoided s sd) sd (fun v =>
    if v.state = .loadedOut ∧ v.tag = x.pf.frame.tag then { v with resendOwed := true } else v)
  have hbody : frameVoided (clearOut s) = u := by
    rw [hb]
    simp only [ownerDropped, hf]
    rfl
  have hview : view u sd = { view s sd with resendOwed := true, pend := none } := by
    rw [modView_view, view_slotVoided, if_pos ⟨hv, htag⟩]
  have hother : ∀ e, e ≠ sd → view u e = view s e := fun e he => by
    rw [view_modView_ne _ _ he, (sideOnly_slotVoided s sd).others e he |>.1]
  obtain ⟨hrun, hg, hover, hheld, hviews⟩ := hc
  have hmem : ∀ e, e ∈ sides := fun e => by cases e <;> decide
  have hclosed : ∀ e, (view u e).fireClosed = false := fun e => by
    by_cases he : e = sd
    · rw [he, hview]; exact (hviews sd (hmem sd)).1
    · rw [hother e he]; exact (hviews e (hmem e)).1
  have hnbr : nbr u sd = nbr s sd := (nbr_modView _ _ _ _).trans ((nbr_modView _ _ _ _).trans rfl)
  have hsched : u.sched = (clearOut s).sched := (modView_sched _ _ _).trans (slotVoided_sched s sd)
  have hinv : u.inv = s.inv := by rw [modView_inv, slotVoided, modView_inv]; rfl
  have hsettle : settle u = resendLoaded u sd := by
    have hfire : u.fire = s.fire := by rw [modView_fire, slotVoided, modView_fire]; rfl
    have hmotion : u.motion.gantry = s.motion.gantry := by rw [modView_motion, slotVoided, modView_motion]; rfl
    rw [settle_resends (by rw [hfire]; exact hrun) (by rw [hmotion]; exact hg) (by rw [hinv]; exact hover) hclosed,
      flushWoken_none _ (by rw [hsched]; rfl), resendAll_one]
    exact fun e he => by rw [hother e he]; exact (hviews e (hmem e)).2
  have hnot : (view s sd).resendOwed = false := (hviews sd (hmem sd)).2
  have hshut : sideClosed u sd = sideClosed s sd := by rw [sideClosed, notBay, absent, hview, hnbr]; rfl
  have hrecl : reclaimOn u sd = reclaimOn s sd := by rw [reclaimOn, hsched]; rfl
  have hbus : u.bus.seq = s.bus.seq := by rw [modView_bus, slotVoided, modView_bus]; rfl
  have hframe : ∀ g p, slotFrame u sd g p = slotFrame s sd g p := fun g p => by cases sd <;> rfl
  refine ⟨_, rfl, ?_⟩
  rw [fullEvent, hbody, hsettle, view_of_slots (endEvent_blocks _ _).slots,
    view_resendLoaded (q := q) (by rw [hview]; exact hv) (by rw [hview]) (by rw [hview])
      (by rw [recordAt, hinv]; exact hr), hshut, hnbr, hrecl, hview, hbus, hframe]
  split
  · rw [← hnot]
  · rfl

end Slot

end Voids


/-- Settles O58: a void by the place of its frame, and the eighth by the frame's owner. -/
theorem voidedFrameIsSentAgain : Obligations.VoidedFrameIsSentAgain := by
  refine ⟨void_counted, fun s x f fs hx hw hk hr hq hv => answer_raised hx hw hk hr hq hv,
    fun s x f fs hx hw hk hr hq hv => answer_dropped hx hw hk hr hq hv,
    fun s x f n hc hts hn ho hb _ hv => bid_dropped hc hts hn ho hb hv,
    fun s x f sd hc hts ho hp hw hrace hv => ?_⟩
  have hb := slotFrame_dropped ho hp hw hv
  exact ⟨fun k n hf hst htag hctx hn hcs hcw => claim_dropped hc hb hts hrace hf hst htag hctx hn hcs hcw,
    fun k n hf hst htag hctx hn hcs hroom => grant_dropped hc hb hts hrace hf hst htag hctx hn hcs hroom,
    fun r q hf hst htag hrec => loaded_dropped hc hb hf hst htag hrec,
    fun k hf => taken_dropped hc hb hf, fun why hf => refuse_dropped hc hb hf⟩

end Sys2Proof.Machine
end

section
/-! PROOFS. A frame carried by the bus, and what its owner does (O57). -/

namespace Sys2Proof.Machine

open Sys2Proof

-- In turn, so that the proofs do not hold more threads at once than the memory limit has stacks for.
set_option Elab.async false

/-! ### The receive side takes the node's own frame -/

section Own

variable {s : State} {f : Frame}

/-- Only an OFFER, an ALARM and a REFUSE OFFER_CLOSED of the node have an owner here. -/
theorem takeOwn_plain (ho : ∀ a b c d e, f.payload ≠ .offer a b c d e) (ha : ∀ z, f.payload ≠ .alarm z)
    (hr : f.payload ≠ .refuse .offerClosed) :
    takeOwn s f = if f.dst = 0 ∨ f.dst = s.board.station then countReceived s else s := by
  unfold takeOwn
  split
  · split
    · exact absurd ‹_› (ho _ _ _ _ _)
    · exact absurd ‹_› (ha _)
    · exact absurd ‹_› hr
    · rfl
  · rfl

theorem takeOwn_counters (ho : ∀ a b c d e, f.payload ≠ .offer a b c d e) (ha : ∀ z, f.payload ≠ .alarm z)
    (hr : f.payload ≠ .refuse .offerClosed) : ∃ c, takeOwn s f = s.withBus { s.bus with counters := c } := by
  rw [takeOwn_plain ho ha hr]
  split
  · exact ⟨_, rfl⟩
  · exact ⟨s.bus.counters, rfl⟩

/-- An OFFER makes at most a bid: a context taken and a BID posted. -/
theorem takeOffer_eq (s : State) (o : OfferFrame) (g : Tag) :
    ∃ v q, takeOffer s o g = (s.withSched v).withBus { s.bus with seq := q } := by
  unfold takeOffer
  split
  · split
    · exact ⟨_, _, rfl⟩
    · exact ⟨s.sched, s.bus.seq, rfl⟩
  · exact ⟨s.sched, s.bus.seq, rfl⟩

end Own

/-! ### The count of frames sent -/

/-- The frames that the node counts as sent. -/
def sentCount (s : State) : Nat := s.bus.counters.sent

theorem sent_of_counters {s t : State} (h : t.bus.counters = s.bus.counters) : sentCount t = sentCount s :=
  congrArg Counters.sent h

theorem sent_of_lasting {s t : State} (h : lasting t = lasting s) : sentCount t = sentCount s :=
  sent_of_counters (counters_of_kept (kept_of_lasting h))

theorem sent_refuseClosed (s : State) (b : Station) (g : Tag) : sentCount (refuseClosed s b g) = sentCount s := by
  unfold refuseClosed respond
  split
  · unfold postReply
    split <;> rfl
  · rfl

theorem sent_ownBidWins (s : State) (own : Option Nat) (b : BinId) :
    sentCount (ownBidWins s own b) = sentCount s := by
  unfold ownBidWins
  dsimp only
  split
  · rfl
  · split
    · exact (sent_of_lasting (lasting_awayFreed _)).trans rfl
    · rfl

theorem sent_startHandover (s : State) (g : Tag) (b : BinId) (w : Station) :
    sentCount (startHandover s g b w) = sentCount s := by
  unfold startHandover
  dsimp only
  split <;> rfl

theorem sent_ownBidSent (s : State) (n : Nat) : sentCount (ownBidSent s n) = sentCount s := by
  have hholder : ∀ t own b g, sentCount (holderTakesBid t own b g) = sentCount t := fun t own b g => by
    unfold holderTakesBid
    split
    · split
      · dsimp only
        split
        · exact (sent_ownBidWins _ _ _).trans rfl
        · exact (sent_startHandover _ _ _ _).trans rfl
      · exact sent_refuseClosed _ _ _
    · exact sent_refuseClosed _ _ _
  unfold ownBidSent
  split
  · rfl
  · dsimp only
    split
    · exact (hholder _ _ _ _).trans rfl
    · rfl

theorem sent_ownerSent (s : State) (k : TxKey) (f : Frame) : sentCount (ownerSent s k f) = sentCount s := by
  unfold ownerSent
  split
  · exact congrArg (fun b => b.counters.sent) (modView_bus s _ _)
  · exact congrArg (fun b => b.counters.sent) (modView_bus s _ _)
  · exact sent_ownBidSent s _
  · rfl
  · rfl

theorem lasting_setDownLoaded (s : State) (x : Xfer) : lasting (setDownLoaded s x) = lasting s := by
  unfold setDownLoaded
  dsimp only
  split
  · split
    · exact (lasting_retargetXfer _ _ _).trans rfl
    · rfl
  · rfl

theorem lasting_beginSetDown (s : State) : lasting (beginSetDown s) = lasting s := by
  unfold beginSetDown
  split
  · rfl
  · split
    · exact lasting_abandonXfer _ _
    · exact lasting_setDownLoaded _ _

theorem sent_enterShutdown (s : State) : sentCount (enterShutdown s) = sentCount s := by
  have hdrop : ∀ t, sentCount (dropPutAway t) = sentCount t := fun t => by
    unfold dropPutAway
    split <;> rfl
  unfold enterShutdown
  dsimp only
  rw [sent_of_lasting (lasting_beginSetDown _),
    sent_of_lasting (lasting_foldl _ (fun t sd => lasting_setFireCause t true sd) _ _), hdrop,
    sent_of_lasting (lasting_dropHeld _), sent_of_lasting (lasting_withdrawAllBids _),
    sent_of_lasting (lasting_pauseIn _ _), sent_of_lasting (lasting_withdrawAnnounce _)]
  rfl

theorem sent_decideState (s : State) : sentCount (decideState s) = sentCount s := by
  unfold decideState
  split
  · exact sent_enterShutdown s
  · split
    · exact sent_of_lasting (lasting_enterGuard s)
    · split
      · exact sent_of_lasting (lasting_leaveGuard s)
      · rfl

theorem sent_takeOwn (s : State) (f : Frame) : sentCount (takeOwn s f) = sentCount s := by
  unfold takeOwn
  split
  · split
    · obtain ⟨v, q, ht⟩ := takeOffer_eq (countReceived s) _ f.tag
      rw [ht]
      rfl
    · exact (sent_decideState _).trans rfl
    · exact (sent_of_lasting (lasting_foldl _ lasting_withdrawBid _ _)).trans rfl
    · rfl
  · rfl

theorem sent_frameCarried (s : State) (x : Tx) :
    sentCount (frameCarried s x) = count16 s.bus.counters.sent := by
  unfold frameCarried
  dsimp only
  rw [sent_takeOwn]
  split
  · rw [sent_ownerSent, sent_of_counters (counters_removePending _ _ _)]
    rfl
  · rfl

/-! ### A frame carried -/

section Carried

variable {s : State} {x : Tx}

theorem frameSent_carried (hx : s.bus.tx = some x) (hw : x.withdrawn = false) (hsp : x.spoiled = false) :
    frameSent (clearOut s) = frameCarried (clearOut s) x := by
  have hx' : (clearOut s).bus.tx = some x := hx
  rw [frameSent, hx']
  dsimp only
  rw [if_neg (by simp [hw, hsp])]

theorem sent_counted (hx : s.bus.tx = some x) (hw : x.withdrawn = false) (hsp : x.spoiled = false) :
    ∃ t, exec .ownFrameSent s = .next t ∧ t.bus.tx = none ∧
      t.bus.counters.sent = min 65535 (s.bus.counters.sent + 1) := by
  have hb := frameSent_carried hx hw hsp
  refine ⟨_, rfl, fullEvent_gone (by rw [hb]; exact frameCarried_gone _ x), ?_⟩
  rw [counters_of_kept (kept_fullEvent frameSent s), hb]
  exact sent_frameCarried (clearOut s) x

/-- The node with its frame counted as sent and off the bus. -/
def afterSent (s : State) : State :=
  clearTx ((clearOut s).withBus
    { s.bus with counters := { s.bus.counters with sent := count16 s.bus.counters.sent } })

theorem calm_withBus {u : State} (hc : Calm u) (b : Bus) : Calm (u.withBus b) := hc

theorem calm_withStow {u : State} (hc : Calm u) (v : Stow) : Calm (u.withStow v) := hc

theorem afterSent_inv (s : State) : (afterSent s).inv = s.inv := rfl
theorem afterSent_stow (s : State) : (afterSent s).stow = s.stow := rfl
theorem afterSent_replies (s : State) : (afterSent s).bus.replies = s.bus.replies := rfl

theorem calm_afterSent (hc : Calm s) : Calm (afterSent s) :=
  calm_withBus (calm_withBus ((calm_clearOut s).mpr hc) _) _

/-- The body of a carried frame that still stands in its place. -/
theorem frameSent_owner (hx : s.bus.tx = some x) (hw : x.withdrawn = false) (hsp : x.spoiled = false)
    (hp : stillPending (clearOut s) x.key x.pf.seq = true) :
    frameSent (clearOut s) =
      takeOwn (ownerSent (removePending (afterSent s) x.key x.pf.seq) x.key x.pf.frame) x.pf.frame := by
  rw [frameSent_carried hx hw hsp, frameCarried]
  dsimp only
  rw [if_pos hp]
  rfl

/-- The same for a payload that no owner here takes: but for the counters, what the owner makes of it. -/
theorem frameSent_plain {v : State} (hx : s.bus.tx = some x) (hw : x.withdrawn = false)
    (hsp : x.spoiled = false) (hp : stillPending (clearOut s) x.key x.pf.seq = true)
    (hv : ownerSent (removePending (afterSent s) x.key x.pf.seq) x.key x.pf.frame = v)
    (ho : ∀ a b c d e, x.pf.frame.payload ≠ .offer a b c d e) (ha : ∀ z, x.pf.frame.payload ≠ .alarm z)
    (hr : x.pf.frame.payload ≠ .refuse .offerClosed) :
    ∃ c, frameSent (clearOut s) = v.withBus { v.bus with counters := c } := by
  obtain ⟨c, hc⟩ := takeOwn_counters (s := v) ho ha hr
  exact ⟨c, by rw [frameSent_owner hx hw hsp hp, hv, hc]⟩

/-! ### STATE -/

theorem state_sent {f : PFrame} {r : StateReport} (hc : Calm s) (hx : s.bus.tx = some x)
    (hw : x.withdrawn = false) (hsp : x.spoiled = false) (hk : x.key = .state) (hf : f ∈ s.bus.state)
    (hq : f.seq = x.pf.seq) (hp : x.pf.frame.payload = .state r) (hd : x.pf.frame.dst = 0) :
    ∃ t, exec .ownFrameSent s = .next t ∧
      t.bus.state = s.bus.state.filter (fun g => g.seq ≠ x.pf.seq) ∧
      t.bus.counters.received = min 65535 (s.bus.counters.received + 1) ∧ t.inv = s.inv := by
  obtain ⟨_, _, _, hheld, _⟩ := id hc
  have hst : stillPending (clearOut s) x.key x.pf.seq = true := by
    rw [hk, ← hq]
    refine stillPending_of_mem (mem_pendingSet ?_)
    have hm : (TxKey.state, f) ∈ placedAll .state (clearOut s).bus.state := List.mem_map.mpr ⟨f, hf, rfl⟩
    simp only [standing, List.mem_append]
    tauto
  let u := removePending (afterSent s) .state x.pf.seq
  have hb : frameSent (clearOut s) = countReceived u := by
    rw [frameSent_owner hx hw hsp hst, hk, takeOwn_plain (by simp [hp]) (by simp [hp]) (by simp [hp]),
      if_pos (Or.inl hd)]
    simp only [ownerSent]
    rfl
  have hcalm : Calm (countReceived u) := hc
  have hend : fullEvent frameSent s = (countReceived u).withSched { u.sched with stepEnded := none } := by
    rw [fullEvent_calm _ _ (by rw [hb]; exact hcalm) (by rw [hb]; rfl),
      quietEvent_plain _ _ (by rw [hb]; rfl) (by rw [hb]; rfl) (by rw [hb]; exact hheld), hb]
    rfl
  exact ⟨_, rfl, by rw [hend]; rfl, by rw [hend]; rfl, by rw [hend]; rfl⟩

/-! ### SLOT CLAIM -/

theorem claim_sent {f : PFrame} {sd : Side} {b : BinId} (hc : Calm s) (hx : s.bus.tx = some x)
    (hw : x.withdrawn = false) (hsp : x.spoiled = false) (hk : x.key = .slot sd)
    (hp : (view s sd).pend = some f) (hq : f.seq = x.pf.seq) (hwait : (view s sd).waiting = [])
    (hf : x.pf.frame.payload = .slotClaim b) (hv : (view s sd).state = .claiming)
    (htag : (view s sd).tag = x.pf.frame.tag) :
    ∃ t, exec .ownFrameSent s = .next t ∧
      view t sd = { view s sd with pend := none, claimTimer := some s.setup.claimWindow } := by
  have hst : stillPending (clearOut s) x.key x.pf.seq = true := by
    rw [hk, ← hq]
    exact stillPending_slot (s := clearOut s) hp
  let u := modView (afterSent s) sd (fun v => { v with pend := none })
  have hu : view u sd = { view s sd with pend := none } := modView_view _ _ _
  have hsetup : u.setup = s.setup := by cases sd <;> rfl
  let v := modView u sd (fun v =>
    if v.state = .claiming ∧ v.tag = x.pf.frame.tag then { v with claimTimer := some u.setup.claimWindow } else v)
  have hview : view v sd = { view s sd with pend := none, claimTimer := some s.setup.claimWindow } := by
    rw [modView_view, hu, if_pos ⟨hv, htag⟩, hsetup]
  have hleave : slotFrameLeaves (afterSent s) sd = u := slotFrameLeaves_last (s := afterSent s) hwait
  obtain ⟨c, hb⟩ := frameSent_plain (v := v) hx hw hsp hst (by
    rw [hk, removePending, hleave]
    simp only [ownerSent, hf]
    rfl) (by simp [hf]) (by simp [hf]) (by simp [hf])
  have hu0 : Calm u := calm_modView (s := afterSent s) hc sd _ ⟨rfl, rfl⟩
  have hcalm : Calm v := calm_modView hu0 sd _ (by split <;> exact ⟨rfl, rfl⟩)
  have e := fullEvent_calmOver hb (show Calm (v.withBus { v.bus with counters := c }) from hcalm)
  exact ⟨_, rfl, (e.view sd).trans hview⟩

/-! ### BID -/

/-- The node with the BID of context `n` carried: the context awaits the bin (R87). -/
def bidCarried (s : State) (n : Nat) : State :=
  modCtx (modCtx (afterSent s) n (fun c => { c with bid := none })) n (fun c =>
    { c with
      state := .awaiting, bid := none, bidTimer := none,
      arrivalTimer := some s.setup.arrivalWindow })

section BidCarried

variable {n : Nat}

theorem ctxOf_bidLeft (hn : n < s.sched.ctxs.length) :
    ctxOf (modCtx (afterSent s) n (fun c => { c with bid := none })) n = { ctxOf s n with bid := none } :=
  (ctxOf_modCtx _ _ _).trans (if_pos hn)

theorem ctxOf_bidCarried (hn : n < s.sched.ctxs.length) : ctxOf (bidCarried s n) n = { ctxOf s n with
    state := .awaiting, bid := none, bidTimer := none, arrivalTimer := some s.setup.arrivalWindow } := by
  have hlen : (modCtx (afterSent s) n (fun c => { c with bid := none })).sched.ctxs.length =
      s.sched.ctxs.length := List.length_set
  rw [bidCarried, ctxOf_modCtx, if_pos (by rw [hlen]; exact hn), ctxOf_bidLeft hn]

theorem bidCarried_length : (bidCarried s n).sched.ctxs.length = s.sched.ctxs.length :=
  List.length_set.trans List.length_set

theorem bidCarried_inv : (bidCarried s n).inv = s.inv := rfl
theorem bidCarried_stow : (bidCarried s n).stow = s.stow := rfl
theorem bidCarried_board : (bidCarried s n).board = s.board := rfl

theorem calm_bidCarried (hc : Calm s) : Calm (bidCarried s n) :=
  calm_withSched (calm_withSched (calm_afterSent hc) _) _

/-- What follows the BID's leaving its place: the holder side too when the node is the holder. -/
theorem ownerSent_bid {o : OfferRef} {b : BinId} {q : Nat} {g : Frame} (hn : n < s.sched.ctxs.length)
    (hp : g.payload = .bid o.holder b) (ho : (ctxOf s n).offer = some o) :
    ownerSent (removePending (afterSent s) (.bid n) q) (.bid n) g =
      if o.holder = s.board.station then holderTakesBid (bidCarried s n) (some n) s.board.station o.tag
      else bidCarried s n := by
  have hou : (ctxOf (modCtx (afterSent s) n (fun c => { c with bid := none })) n).offer = some o := by
    rw [ctxOf_bidLeft hn]
    exact ho
  simp only [ownerSent, hp]
  change ownBidSent (modCtx (afterSent s) n (fun c => { c with bid := none })) n = _
  simp only [ownBidSent, hou]
  rfl

end BidCarried

theorem bid_sent {f : PFrame} {n : Nat} {o : OfferRef} {b : BinId} (hc : Calm s) (hts : TablesSized s)
    (hn : n < 16) (hx : s.bus.tx = some x) (hw : x.withdrawn = false) (hsp : x.spoiled = false)
    (hk : x.key = .bid n) (hb : (ctxOf s n).bid = some f) (hq : f.seq = x.pf.seq)
    (hp : x.pf.frame.payload = .bid o.holder b) (ho : (ctxOf s n).offer = some o)
    (hother : o.holder ≠ s.board.station) :
    ∃ t, exec .ownFrameSent s = .next t ∧
      ctxOf t n = { ctxOf s n with
        state := .awaiting, bid := none, bidTimer := none,
        arrivalTimer := some s.setup.arrivalWindow } := by
  obtain ⟨_, hlen, _⟩ := hts
  have hst : stillPending (clearOut s) x.key x.pf.seq = true := by
    rw [hk, ← hq]
    exact stillPending_bid (s := clearOut s) hn hb
  have hn' : n < s.sched.ctxs.length := lt_of_lt_of_eq hn hlen.symm
  obtain ⟨c, hbody⟩ := frameSent_plain (v := bidCarried s n) hx hw hsp hst
    (by rw [hk, ownerSent_bid hn' hp ho, if_neg hother]) (by simp [hp]) (by simp [hp]) (by simp [hp])
  have e := fullEvent_calmOver hbody (calm_withBus (calm_bidCarried hc) _)
  have hctx := ctxOf_bidCarried hn'
  exact ⟨_, rfl, (e.ctx n (by
    change (ctxOf (bidCarried s n) n).state ≠ _
    rw [hctx]
    exact CtxState.noConfusion)).trans hctx⟩

/-! ### DONE -/

/-- A completion record that leaves the queue with no context ENDING. -/
theorem popDone_last {e : DoneEntry} {es : List DoneEntry} (hq : s.sched.doneQ = e :: es)
    (hend : s.sched.ending = []) : popDone s = s.withSched { s.sched with doneQ := es } := by
  simp only [popDone, hq, List.drop_one, List.tail_cons, State.withSched_sched, hend]

/-- A completion record that leaves the queue lets the context that became ENDING earliest report. -/
theorem popDone_ending {e : DoneEntry} {es : List DoneEntry} {m : Nat} {ms : List Nat} {q : DoneBody}
    (hq : s.sched.doneQ = e :: es) (hend : s.sched.ending = m :: ms) (hr : (ctxOf s m).report = some q) :
    popDone s = bumpSeq (s.withSched
      { s.sched with
        doneQ := es ++ [{ body := q, seq := s.bus.seq, voids := 0 }]
        ending := ms, ctxs := s.sched.ctxs.set m Ctx.blank }) := by
  have hrep : ∀ w : State, w.sched.ctxs = s.sched.ctxs → (ctxOf w m).report = some q := fun w hw => by
    rw [ctxOf, hw]
    exact hr
  simp only [popDone, hq, List.drop_one, List.tail_cons, State.withSched_sched, hend]
  rw [hrep]
  · rfl
  · rfl

theorem done_sent {d : DoneBody} {e : DoneEntry} {es : List DoneEntry} (hc : Calm s) (hts : TablesSized s)
    (hx : s.bus.tx = some x) (hw : x.withdrawn = false) (hsp : x.spoiled = false) (hk : x.key = .done)
    (hp : x.pf.frame.payload = .done d) (hd : s.sched.doneQ = e :: es) (hq : e.seq = x.pf.seq) :
    (s.sched.ending = [] →
      ∃ t, exec .ownFrameSent s = .next t ∧ t.sched.doneQ = es ∧ t.sched.ctxs = s.sched.ctxs) ∧
    ∀ m ms q, s.sched.ending = m :: ms → m < 16 → (ctxOf s m).report = some q →
      ∃ t, exec .ownFrameSent s = .next t ∧
        t.sched.doneQ = es ++ [{ body := q, seq := s.bus.seq, voids := 0 }] ∧
        t.sched.ending = ms ∧ ctxOf t m = Ctx.blank ∧ ∀ k, k ≠ m → ctxOf t k = ctxOf s k := by
  obtain ⟨_, hlen, _⟩ := hts
  have hst : stillPending (clearOut s) x.key x.pf.seq = true := by
    rw [hk, ← hq]
    refine stillPending_of_mem (f := donePFrame (clearOut s) e) ?_
    have hh : (clearOut s).sched.doneQ.head? = some e := by
      change s.sched.doneQ.head? = some e
      rw [hd]
      rfl
    simp [pendingSet, placed?, hh]
  obtain ⟨c, hb⟩ := frameSent_plain (v := popDone (afterSent s)) hx hw hsp hst (by
    rw [hk]
    simp only [ownerSent]
    rfl) (by simp [hp]) (by simp [hp]) (by simp [hp])
  have hsched : ∀ v : State, popDone (afterSent s) = v → Calm v → v.sched.woken = [] →
      (fullEvent frameSent s).sched = { v.sched with stepEnded := none } := fun v hv hcv hwk => by
    rw [hv] at hb
    exact (fullEvent_calmOver hb (show Calm (v.withBus { v.bus with counters := c }) from hcv)).still hwk
  refine ⟨fun hend => ⟨_, rfl, ?_⟩, fun m ms q hend hm hr => ⟨_, rfl, ?_⟩⟩
  · rw [hsched _ (popDone_last (s := afterSent s) hd hend) hc rfl]
    exact ⟨rfl, rfl⟩
  · have hs := hsched _ (popDone_ending (s := afterSent s) hd hend hr) hc rfl
    have hctx : ∀ k, ctxOf (fullEvent frameSent s) k = ctxOf (setCtx s m Ctx.blank) k := fun k => by
      rw [ctxOf, hs]
      rfl
    refine ⟨by rw [hs]; rfl, by rw [hs]; rfl, ?_, fun k hk => ?_⟩
    · rw [hctx, ctxOf_setCtx, if_pos ⟨rfl, lt_of_lt_of_eq hm hlen.symm⟩]
    · rw [hctx, ctxOf_setCtx_ne _ _ hk]

/-! ### PROGRESS -/

theorem calm_loadNotice {u : State} (hc : Calm u) (n : Nat) (b : NoticeBody) : Calm (loadNotice u n b) :=
  calm_withBus (calm_withSched (calm_withSched hc _) _) _

theorem loadNotice_ctxs (u : State) (n : Nat) (b : NoticeBody) : (loadNotice u n b).sched.ctxs =
    u.sched.ctxs.set n { ctxOf u n with noticeOwed := false } := rfl

theorem notice_sent {m : Notice} {a b c d : Nat} (hc : Calm s) (hts : TablesSized s)
    (hx : s.bus.tx = some x) (hw : x.withdrawn = false) (hsp : x.spoiled = false) (hk : x.key = .notice)
    (hp : x.pf.frame.payload = .progress a b c d) (hm : s.sched.notice = [m]) (hq : m.pf.seq = x.pf.seq) :
    ((∀ k ∈ ctxNumbers, (ctxOf s k).noticeOwed = false) →
      ∃ t, exec .ownFrameSent s = .next t ∧ t.sched.notice = [] ∧ t.sched.ctxs = s.sched.ctxs) ∧
    ∀ k w, k < 16 → (ctxOf s k).noticeOwed = true → (∀ j, j < k → (ctxOf s j).noticeOwed = false) →
      (ctxOf s k).lastNotice = some w →
      ∃ t, exec .ownFrameSent s = .next t ∧
        t.sched.notice =
          [{ ctx := k
             pf := posted s.bus.seq (frameOf s (ctxOf s k).level 0 (ctxOf s k).origin (ctxOf s k).tag
               (.progress k w.target w.bin w.dig)) }] ∧
        ctxOf t k = { ctxOf s k with noticeOwed := false } ∧ ∀ j, j ≠ k → ctxOf t j = ctxOf s j := by
  obtain ⟨_, hlen, _⟩ := hts
  have hst : stillPending (clearOut s) x.key x.pf.seq = true := by
    rw [hk, ← hq]
    refine stillPending_of_mem (mem_pendingSet ?_)
    have hh : (clearOut s).sched.notice = [m] := hm
    simp [standing, placedAll, hh]
  let u := (afterSent s).withSched { (afterSent s).sched with notice := [] }
  obtain ⟨c, hb⟩ := frameSent_plain (v := loadOwed u) hx hw hsp hst (by
    have hleft : (afterSent s).sched.notice.filter (fun n => !decide (n.pf.seq = x.pf.seq)) = [] := by
      change s.sched.notice.filter _ = []
      simp [hm, hq]
    rw [hk]
    simp only [ownerSent, removePending, noticeLeaves, hleft]
    rfl) (by simp [hp]) (by simp [hp]) (by simp [hp])
  have hsched : ∀ v : State, loadOwed u = v → Calm v → v.sched.woken = [] →
      (fullEvent frameSent s).sched = { v.sched with stepEnded := none } := fun v hv hcv hwk => by
    rw [hv] at hb
    exact (fullEvent_calmOver hb (show Calm (v.withBus { v.bus with counters := c }) from hcv)).still hwk
  have hu : Calm u := calm_withSched (calm_afterSent hc) _
  have howed : ∀ k, (ctxOf u k).noticeOwed = (ctxOf s k).noticeOwed := fun k => rfl
  refine ⟨fun hnone => ⟨_, rfl, ?_⟩, fun k w hk16 hyes hleast hlast => ⟨_, rfl, ?_⟩⟩
  · have hfind : ctxNumbers.find? (fun n => (ctxOf u n).noticeOwed) = none := by
      rw [List.find?_eq_none]
      exact fun k hkm => by rw [howed, hnone k hkm]; exact Bool.false_ne_true
    rw [hsched u (by rw [loadOwed, hfind]) hc rfl]
    exact ⟨rfl, rfl⟩
  · have hfind : ctxNumbers.find? (fun n => (ctxOf u n).noticeOwed) = some k := by
      rw [ctxNumbers, List.find?_range_eq_some]
      exact ⟨hyes, List.mem_range.mpr hk16, fun j hj => by rw [howed, hleast j hj]; rfl⟩
    have hload : loadOwed u = loadNotice u k w := by
      rw [loadOwed, hfind]
      dsimp only
      rw [show (ctxOf u k).lastNotice = some w from hlast]
    have hs := hsched _ hload (calm_loadNotice hu k w) rfl
    have hctx : ∀ j, ctxOf (fullEvent frameSent s) j =
        ctxOf (modCtx s k (fun c => { c with noticeOwed := false })) j := fun j => by
      rw [ctxOf, hs]
      change (loadNotice u k w).sched.ctxs.getD j Ctx.blank = _
      rw [loadNotice_ctxs]
      rfl
    refine ⟨by rw [hs]; rfl, ?_, fun j hj => ?_⟩
    · rw [hctx, ctxOf_modCtx, if_pos (lt_of_lt_of_eq hk16 hlen.symm)]
    · rw [hctx, modCtx, ctxOf_setCtx_ne _ _ hj]

/-! ### OFFER -/

theorem offer_sent {f : PFrame} {fs : List PFrame} {st b d o desk : Nat} (hc : Calm s)
    (hon : OnTheBus s x .reply f) (hsp : x.spoiled = false) (hr : s.bus.replies = f :: fs)
    (hp : x.pf.frame.payload = .offer st b d o desk) (hd : x.pf.frame.dst = 0) :
    ∃ t, exec .ownFrameSent s = .next t ∧ t.bus.replies = fs ∧
      t.stow.offers = s.stow.offers.map (fun e =>
        if e.tag = x.pf.frame.tag then { e with closeTimer := some (2 * s.setup.bidWindow) } else e) ∧
      t.inv = s.inv := by
  obtain ⟨hx, hw, hk, hq⟩ := hon
  have hst : stillPending (clearOut s) x.key x.pf.seq = true := answer_stillPending hk hr hq
  let u := modOffer (popReply (afterSent s) x.pf.seq) x.pf.frame.tag
    (fun e => { e with closeTimer := some (2 * s.setup.bidWindow) })
  obtain ⟨v, q, ht⟩ := takeOffer_eq (countReceived u) { holder := st, bin := b, demand := d, loans := o, desk }
    x.pf.frame.tag
  have hb : frameSent (clearOut s) = ((countReceived u).withSched v).withBus { (countReceived u).bus with seq := q } := by
    have hown : ownerSent (removePending (afterSent s) .reply x.pf.seq) .reply x.pf.frame = u := by
      simp only [ownerSent, hp]
      rfl
    rw [frameSent_owner hx hw hsp hst, hk, hown, ← ht, takeOwn, if_pos (Or.inl hd), hp]
  have hcalm : Calm (((countReceived u).withSched v).withBus { (countReceived u).bus with seq := q }) :=
    calm_withBus (calm_withSched (calm_withBus (calm_withStow (calm_withBus (calm_afterSent hc) _) _) _) _) _
  have e := fullEvent_calmOver hb hcalm
  have hinv : u.inv = s.inv := by simp [u, modOffer, popReply, afterSent_inv]
  have hstow : u.stow.offers = s.stow.offers.map (fun e =>
      if e.tag = x.pf.frame.tag then { e with closeTimer := some (2 * s.setup.bidWindow) } else e) := by
    simp [u, modOffer, popReply, afterSent_stow]
  have hreplies : u.bus.replies = s.bus.replies.eraseP (fun g => g.seq = x.pf.seq) := by
    simp [u, modOffer, popReply, afterSent_replies]
  refine ⟨_, rfl, e.replies.trans ?_, ?_, e.inv.trans hinv⟩
  · rw [State.withBus_bus]
    change u.bus.replies = fs
    rw [hreplies, hr, List.eraseP_cons, hq, decide_eq_true rfl]
    rfl
  · rw [stow_of_kept e.kept]
    exact hstow

/-! ### The node's own BID on its own OFFER (R88) -/

/-- With the overflow place empty a reservation given up only wakes. -/
theorem awayFreed_marks {u : State} (h : u.inv.overflow = none) :
    ∃ l, awayFreed u = u.withSched { u.sched with woken := u.sched.woken ++ l } := by
  rw [awayFreed, moveOverflow_none _ h]
  split
  · obtain ⟨l, hl, _⟩ := wakeOn_eq u .awayFull
    exact ⟨l, hl⟩
  · exact ⟨[], by rw [List.append_nil]; rfl⟩

/-- The state in which the holder's own BID has won, but for the wake-ups. -/
def bidWon (s : State) (n : Nat) (e : OfferEntry) (tag : Tag) (w : Station) : State :=
  modCtx (setResidence (setWinner (modOffer s tag (fun k => { k with winner := some w })) e.bin w) e.bin .arriving) n
    (fun c => { c with carried := some (.own e.bin), reserved := false })

theorem holderTakesBid_own {e : OfferEntry} {r : BinRecord} {tag : Tag} (n : Nat) (he : offerOf s tag = some e)
    (hopen : e.closeTimer.isSome) (hwin : e.winner = none) (hr : recordOf s e.bin = some r) :
    holderTakesBid s (some n) s.board.station tag = awayFreed (bidWon s n e tag s.board.station) := by
  have hholds : holdsBin (setWinner (modOffer s tag (fun k => { k with winner := some s.board.station }))
      e.bin s.board.station) e.bin = true := by
    have hrec : recordOf (setWinner (modOffer s tag (fun k => { k with winner := some s.board.station }))
        e.bin s.board.station) e.bin = some r := hr
    simp [holdsBin, hrec]
  have hcond : e.closeTimer.isSome = true ∧ e.winner.isNone = true := ⟨hopen, by rw [hwin]; rfl⟩
  rw [holderTakesBid, he]
  dsimp only
  rw [if_pos hcond]
  simp only [ownBidWins, hholds, if_true]
  rfl

section BidWon

variable {n : Nat} {e : OfferEntry} {tag : Tag} {w : Station}

theorem ctxOf_bidWon (hn : n < s.sched.ctxs.length) : ctxOf (bidWon s n e tag w) n =
    { ctxOf s n with carried := some (.own e.bin), reserved := false } :=
  (ctxOf_modCtx _ _ _).trans (if_pos hn)

theorem recordOf_bidWon (k : BinId) : recordOf (bidWon s n e tag w) k =
    if k = e.bin then (recordOf s k).map (fun r => { r with residence := .arriving }) else recordOf s k :=
  recordOf_setResidence _ _ _ _

theorem stow_bidWon : (bidWon s n e tag w).stow.offers =
    s.stow.offers.map (fun k => if k.tag = tag then { k with winner := some w } else k) := rfl

theorem calm_bidWon (hc : Calm s) : Calm (bidWon s n e tag w) := hc

end BidWon

theorem ownBid_wins {f : PFrame} {n : Nat} {o : OfferRef} {e : OfferEntry} {r : BinRecord} {b : BinId}
    (hc : Calm s) (hts : TablesSized s) (hn : n < 16) (hon : OnTheBus s x (.bid n) f) (hsp : x.spoiled = false)
    (hb : (ctxOf s n).bid = some f) (hp : x.pf.frame.payload = .bid o.holder b)
    (ho : (ctxOf s n).offer = some o) (hown : o.holder = s.board.station) (he : offerOf s o.tag = some e)
    (hopen : e.closeTimer.isSome) (hwin : e.winner = none) (hr : recordOf s e.bin = some r) :
    ∃ t, exec .ownFrameSent s = .next t ∧
      ctxOf t n = { ctxOf s n with
        state := .awaiting, bid := none, bidTimer := none
        arrivalTimer := some s.setup.arrivalWindow, carried := some (.own e.bin)
        reserved := false } ∧
      recordOf t e.bin = some { r with residence := .arriving } ∧
      (∀ k, k ≠ e.bin → recordOf t k = recordOf s k) ∧
      t.stow.offers = s.stow.offers.map (fun k =>
        if k.tag = o.tag then { k with winner := some o.holder } else k) := by
  obtain ⟨_, hlen, _⟩ := hts
  obtain ⟨hx, hw, hk, hq⟩ := hon
  have hst : stillPending (clearOut s) x.key x.pf.seq = true := by
    rw [hk, ← hq]
    exact stillPending_bid (s := clearOut s) hn hb
  have hn' : n < s.sched.ctxs.length := lt_of_lt_of_eq hn hlen.symm
  let u := bidCarried s n
  let w := bidWon u n e o.tag s.board.station
  have huinv : u.inv = s.inv := bidCarried_inv
  have hustow : u.stow = s.stow := bidCarried_stow
  have hurec : ∀ k, recordOf u k = recordOf s k := fun k => by rw [recordOf, huinv, recordOf]
  have hwon : holderTakesBid u (some n) s.board.station o.tag = awayFreed w :=
    holderTakesBid_own n (s := u) (by rw [offerOf, hustow]; exact he) hopen hwin (by rw [hurec]; exact hr)
  have hw0 : Calm w := calm_bidWon (calm_bidCarried hc)
  obtain ⟨_, _, hover, _⟩ := id hw0
  obtain ⟨l, hl⟩ := awayFreed_marks hover
  obtain ⟨c, hbody⟩ := frameSent_plain hx hw hsp hst
    (by rw [hk, ownerSent_bid hn' hp ho, if_pos hown, hwon, hl]) (by simp [hp]) (by simp [hp]) (by simp [hp])
  have ev := fullEvent_calmOver hbody (calm_withBus (calm_withSched hw0 _) _)
  have hctx : ctxOf w n = { ctxOf s n with
      state := .awaiting, bid := none, bidTimer := none
      arrivalTimer := some s.setup.arrivalWindow, carried := some (.own e.bin), reserved := false } := by
    rw [ctxOf_bidWon (by rw [bidCarried_length]; exact hn'), ctxOf_bidCarried hn']
  have hrec : ∀ k, recordOf (fullEvent frameSent s) k = recordOf w k := fun k => by rw [recordOf, ev.inv]; rfl
  refine ⟨_, rfl, ?_, ?_, fun k hk => ?_, ?_⟩
  · refine (ev.ctx n ?_).trans hctx
    change (ctxOf w n).state ≠ _
    rw [hctx]
    exact CtxState.noConfusion
  · rw [hrec, recordOf_bidWon, if_pos rfl, hurec, hr]
    rfl
  · rw [hrec, recordOf_bidWon, if_neg hk, hurec]
  · rw [stow_of_kept ev.kept]
    change w.stow.offers = _
    rw [stow_bidWon, hustow, hown]

end Carried

/-- Settles O57: a frame carried by the place it leaves. -/
theorem sentFrameLeaves : Obligations.SentFrameLeaves :=
  ⟨fun _ _ hx hw hsp => sent_counted hx hw hsp,
    fun _ _ _ _ hc hx hw hsp hk hf hq hp hd => state_sent hc hx hw hsp hk hf hq hp hd,
    fun _ _ _ _ _ hc hx hw hsp hk hp hq hwait hf _ _ hv htag => claim_sent hc hx hw hsp hk hp hq hwait hf hv htag,
    fun _ _ _ _ _ _ hc hts hn hx hw hsp hk hb hq hp ho hother =>
      bid_sent hc hts hn hx hw hsp hk hb hq hp ho hother,
    fun _ _ _ _ _ hc hts hx hw hsp hk hp hd hq => done_sent hc hts hx hw hsp hk hp hd hq,
    fun _ _ _ _ _ _ _ hc hts hx hw hsp hk hp hm hq => notice_sent hc hts hx hw hsp hk hp hm hq,
    fun _ _ _ _ _ _ _ _ _ hc hon hsp hr hp hd => offer_sent hc hon hsp hr hp hd,
    fun _ _ _ _ _ _ _ _ hc hts hn hon hsp hb hp ho hown he hopen hwin hr =>
      ownBid_wins hc hts hn hon hsp hb hp ho hown he hopen hwin hr⟩

end Sys2Proof.Machine
end

section
/-! PROOFS. FETCH and VERIFY: the judgement of a request, the claim and the refusals (O31). -/

namespace Sys2Proof.Machine

open Sys2Proof

-- In turn, so that the proofs do not hold more threads at once than the memory limit has stacks for.
set_option Elab.async false

section Requests

variable {s t v : State} {h : Header} {q : JobRequest} {n : Nat} {r : RefuseReason}

/-! ### What the judgement of a request reads -/

/-- A request is judged on tables that hearing its sender leaves alone. -/
theorem request_judged (hp : Passes s h) : heldBins (heard s h) = heldBins s ∧
    claimRefusal (heard s h) = claimRefusal s ∧ claimedBins (heard s h) = claimedBins s ∧
    claimPayload (heard s h) = claimPayload s ∧ freeCtx? (heard s h) = freeCtx? s ∧
    classLevel (heard s h) = classLevel s ∧ fetchRequest (heard s h) = fetchRequest s ∧
    verifyRequest (heard s h) = verifyRequest s ∧ addressed (heard s h) h = addressed s h := by
  obtain ⟨_, _, hl⟩ := id hp
  obtain ⟨w, e, heq⟩ := heard_eq s h hl
  rw [heq]
  refine ⟨rfl, rfl, rfl, rfl, rfl, ?_, ?_, rfl, rfl⟩
  · funext k
    cases k <;> rfl
  · funext k
    cases k <;> rfl

/-- The state in which a claim creates its job's context `n` (R38, R61). -/
def claimedState (s : State) (h : Header) (q : JobRequest) (n : Nat) : State :=
  readied (setCtx (heard s h) n (claimCtx h q (claimedBins s q))) n

/-- The CLAIM a request is answered with (R61). -/
def claimFrame (s : State) (h : Header) (q : JobRequest) : Frame :=
  frameOf s q.level 0 h.src h.tag (claimPayload s q (claimedBins s q))

theorem judge_refused (hp : Passes s h) (hroom : s.bus.replies.length < 8) (hr : claimRefusal s q = some r) :
    judgeRequest h q (heard s h) = postReply (heard s h) (refusal s q.level h r) := by
  obtain ⟨_, hrefusal, _⟩ := request_judged hp
  rw [judgeRequest, hrefusal, hr]
  exact heard_refuseAt hp hroom _ _

theorem readied_board (s : State) (n : Nat) : (readied s n).board = s.board := by
  unfold readied
  split <;> rfl

theorem readied_bus (s : State) (n : Nat) : (readied s n).bus = s.bus := by
  unfold readied
  split <;> rfl

theorem judge_claimed (hp : Passes s h) (hroom : s.bus.replies.length < 8) (hq : claimRefusal s q = none)
    (hn : freeCtx? s = some n) :
    judgeRequest h q (heard s h) = postReply (claimedState s h q n) (claimFrame s h q) := by
  obtain ⟨_, hrefusal, hclaimed, hpayload, hfree, _⟩ := request_judged hp
  rw [judgeRequest, hrefusal, hq, hclaimed, hpayload]
  have hv : createReady (claimCtx h q (claimedBins s q)) (heard s h) = claimedState s h q n := by
    rw [createReady, hfree, hn, claimedState]
  have hboard : (claimedState s h q n).board = s.board := (readied_board _ _).trans (heard_board hp)
  refine (heard_respond hp hroom _ _).trans ?_
  rw [hv, claimFrame, frameOf, hboard, frameOf]

/-! ### The claim -/

theorem claim_answered (hp : Passes s h) (hroom : s.bus.replies.length < 8) (hq : claimRefusal s q = none)
    (hn : freeCtx? s = some n) {body : State → State} (hb : body (heard s h) = judgeRequest h q (heard s h)) :
    (receive h body s).bus.replies =
      s.bus.replies ++ [posted (claimedState s h q n).bus.seq (claimFrame s h q)] := by
  have hbus : (claimedState s h q n).bus = (heard s h).bus := readied_bus _ _
  have hposts : posts (claimedState s h q n) = true := by
    have hboard : (claimedState s h q n).board = (heard s h).board := readied_board _ _
    rw [posts, hboard]
    exact heard_posts hp
  exact receive_answered hp (hb.trans (judge_claimed hp hroom hq hn)) (by rw [hbus]; exact heard_replies hp)
    hposts

/-- A context of a claim stands as the claim makes it. -/
theorem jobMade_of {kind : JobKind} {st : CtxState} (hk : requestKind q = kind)
    (hctx : ctxOf t n = { claimCtx h q (claimedBins s q) with
      state := st, wait := none, stamp := s.sched.nextStamp }) : JobMade s t h q kind n := by
  unfold JobMade
  rw [hctx]
  exact ⟨hk, rfl, rfl, rfl, rfl, rfl, rfl, rfl, rfl, rfl, rfl, rfl, rfl⟩

theorem heard_length (hp : Passes s h) (hts : TablesSized s) (hn : freeCtx? s = some n) :
    n < (heard s h).sched.ctxs.length := by
  obtain ⟨_, hlen, _⟩ := hts
  obtain ⟨_, hsched, _⟩ := heard_blocks hp
  rw [hsched]
  exact lt_of_lt_of_eq (freeCtx?_spec hn).1 hlen.symm

section Claim

variable (hp : Passes s h) (hts : TablesSized s) (hroom : s.bus.replies.length < 8)
  (hq : claimRefusal s q = none) (hn : freeCtx? s = some n)
include hp hts hroom hq hn

/-- On a calm node a claim's context is READY at the tail of its list, and nothing else changes. -/
theorem claim_calm {kind : JobKind} (hc : Calm s) (hk : requestKind q = kind) {body : State → State}
    (hb : body (heard s h) = judgeRequest h q (heard s h)) :
    JobCreated s (receive h body s) h q kind n ∧ (∀ m, m ≠ n → ctxOf (receive h body s) m = ctxOf s m) ∧
      (receive h body s).inv = s.inv := by
  obtain ⟨hinv, hsched, _⟩ := heard_blocks hp
  have hl : Loaded (heard s h) .west (view (heard s h) .west) n (claimCtx h q (claimedBins s q))
      (claimedState s h q n) := readied_loaded (calm_heard hp hc) (heard_length hp hts hn)
  have hpost := postReply_eq (s := claimedState s h q n)
    (by rw [posts, claimedState, readied_board]; exact heard_posts hp) (claimFrame s h q)
  have hbody := (hb.trans (judge_claimed hp hroom hq hn)).trans hpost
  have e := fullEvent_calmOver (body := fun _ => body (heard s h)) (s := s) hbody (calm_withBus hl.calm _)
  rw [← receive_eq hp] at e
  have hstill := e.still (hl.woken.trans (by rw [hsched]; rfl))
  have hctx : ∀ m, ctxOf (receive h body s) m = ctxOf (claimedState s h q n) m := fun m => by
    rw [ctxOf, hstill]
    rfl
  refine ⟨⟨jobMade_of (st := .ready) hk ?_, ?_, ?_⟩, fun m hm => ?_, e.inv.trans (hl.inv.trans hinv)⟩
  · rw [hctx, hl.ctx, hsched]
    rfl
  · rw [hctx, hl.ctx]
  · rw [hstill]
    refine hl.ready.trans ?_
    rw [hsched]
    rfl
  · rw [hctx, claimedState, readied, if_pos (show (setCtx (heard s h) n _).fire.node = .run from (calm_heard hp hc).1),
      ctxOf_toTail, if_neg (fun hm' => hm hm'.1), ctxOf_setCtx_ne _ _ hm, ctxOf_heard hp]

/-- In GUARD a claim's context is PAUSED. -/
theorem claim_guarded {kind : JobKind} (hnode : s.fire.node = .guarded) (hheld : s.motion.held = none)
    (hk : requestKind q = kind) {body : State → State} (hb : body (heard s h) = judgeRequest h q (heard s h)) :
    JobMade s (receive h body s) h q kind n ∧ (ctxOf (receive h body s) n).state = .paused := by
  obtain ⟨_, hsched, _, hmotion, hfire, _⟩ := heard_blocks hp
  let c := claimCtx h q (claimedBins s q)
  have hg : (setCtx (heard s h) n c).fire.node = .guarded := by
    rw [show (setCtx (heard s h) n c).fire = s.fire from hfire]
    exact hnode
  have hv : claimedState s h q n = enterPaused (setCtx (heard s h) n c) n := by
    rw [claimedState, readied, if_neg (by rw [hg]; exact NodeState.noConfusion)]
  have hctx : ctxOf (claimedState s h q n) n =
      { c with state := .paused, wait := none, stamp := s.sched.nextStamp } := by
    have hlen := heard_length hp hts hn
    rw [hv]
    refine (ctxOf_setCtx (setCtx (heard s h) n c) n n _).trans ((if_pos ⟨rfl, by simpa [setCtx] using hlen⟩).trans ?_)
    have hset : ctxOf (setCtx (heard s h) n c) n = c := by rw [ctxOf_setCtx, if_pos ⟨rfl, hlen⟩]
    have hstamp : (setCtx (heard s h) n c).sched.nextStamp = s.sched.nextStamp :=
      (congrArg Sched.nextStamp hsched).trans rfl
    rw [hset, hstamp]
  have hpost := postReply_eq (s := claimedState s h q n)
    (by rw [posts, claimedState, readied_board]; exact heard_posts hp) (claimFrame s h q)
  have hbody := (hb.trans (judge_claimed hp hroom hq hn)).trans hpost
  have e := fullEvent_guarded (body := fun _ => body (heard s h)) (s := s) hbody
    (by rw [hv]; exact hg)
    (by rw [hv]; exact (congrArg Motion.held hmotion).trans hheld)
  rw [← receive_eq hp] at e
  have hend : ctxOf (receive h body s) n = { c with state := .paused, wait := none, stamp := s.sched.nextStamp } := by
    refine (e.ctx n ?_).trans hctx
    refine (congrArg Ctx.state hctx).trans_ne CtxState.noConfusion
  exact ⟨jobMade_of hk hend, by rw [hend]⟩

end Claim

/-! ### Refusals -/

/-- Where nothing at an event's end moves a context, none changes unless the event's body changes it. -/
theorem fullEvent_resting {body : State → State} (hb : body (clearOut s) = v) (hr : Resting v)
    (hw : v.sched.woken = []) : (fullEvent body s).sched.ctxs = v.sched.ctxs := by
  have hoff : OffDuty v → (fullEvent body s).sched.ctxs = v.sched.ctxs := fun ho => by
    rw [(fullEvent_offDuty hb ho).2 hw]
  rcases hr with hc | hnode | ⟨hnode, _⟩ | ⟨hnode, hopen⟩
  · rw [(fullEvent_calmOver hb hc).still hw]
  · refine hoff ?_
    simp only [List.mem_cons, List.not_mem_nil, or_false] at hnode
    rcases hnode with hnode | hnode | hnode | hnode <;> simp [OffDuty, hnode]
  · exact hoff (by simp [OffDuty, hnode])
  · exact hoff (by simp [OffDuty, hnode, hopen])

theorem resting_heard (hp : Passes s h) (hr : Resting s) : Resting (heard s h) := by
  obtain ⟨_, _, _, _, hfire, _⟩ := heard_blocks hp
  rcases hr with hc | hnode
  · exact Or.inl (calm_heard hp hc)
  · rw [← hfire] at hnode
    exact Or.inr hnode

theorem resting_postReply (hposts : posts v = true) (f : Frame) (hr : Resting v) : Resting (postReply v f) := by
  rw [postReply_eq hposts]
  exact hr

/-- A frame of which the node takes no notice but to count it. -/
theorem receive_passedOver (hp : Passes s h) {body : State → State} (hb : body (heard s h) = heard s h) :
    (receive h body s).bus.replies = s.bus.replies ∧
      (Resting s → (receive h body s).sched.ctxs = s.sched.ctxs) := by
  obtain ⟨_, hsched, _⟩ := heard_blocks hp
  rw [receive_eq hp]
  refine ⟨?_, fun hr => ?_⟩
  · rw [replies_of_kept (kept_fullEvent _ s), hb]
    exact heard_replies hp
  · rw [fullEvent_resting hb (resting_heard hp hr) (by rw [hsched]; rfl), hsched]
    rfl

/-- A request that is refused and changes nothing. -/
theorem receive_turnedDown (hp : Passes s h) {c : Instr} {body : State → State} {level : Nat}
    (hexec : exec c s = .next (receive h body s))
    (hb : body (heard s h) = postReply (heard s h) (refusal s level h r)) :
    RequestTurnedDown s c h level r := by
  obtain ⟨_, hsched, _⟩ := heard_blocks hp
  obtain ⟨_, _, _, hpost, _⟩ := postReply_leaves (heard_posts hp) (refusal s level h r)
  refine ⟨_, _, hexec, receive_answered hp hb (heard_replies hp) (heard_posts hp), fun hr => ?_⟩
  rw [receive_eq hp, fullEvent_resting hb (resting_postReply (heard_posts hp) _ (resting_heard hp hr))
    (by rw [hpost, hsched]; rfl), hpost, hsched]
  rfl

/-! ### Why a request is refused (R62) -/

/-- The reason that fits a held bin is the one R62 names. -/
theorem heldReason_of_refused {b : BinId} (h : BinRefused s b r) : heldReason s b = r := by
  unfold heldReason
  rcases h with ⟨rfl, hres⟩ | ⟨rfl, hres⟩ | ⟨c, i, hres, hr⟩
  · rcases hres with hres | hres | ⟨d, hres⟩ <;> rw [hres]
  · rcases hres with hres | ⟨sd, hres⟩ | ⟨w, hres⟩ <;> rw [hres]
  · rw [hres]
    rcases hr with ⟨rfl, ht⟩ | ⟨rfl, ht, _⟩
    · exact if_pos ht
    · exact if_neg (by rw [ht]; exact Bool.false_ne_true)

/-- A request of which no held bin may be claimed claims none. -/
theorem claimedBins_nil (h : ∀ b ∈ heldBins s q.bins, claimable s b = false) : claimedBins s q = [] := by
  have hnil : (heldBins s q.bins).filter (claimable s) = [] :=
    List.filter_eq_nil_iff.mpr (fun b hb => by rw [h b hb]; exact Bool.false_ne_true)
  rw [claimedBins, hnil]
  exact ite_self _

theorem claimRefusal_of_refused (h : RequestRefused s q r) : claimRefusal s q = some r := by
  unfold claimRefusal
  rcases h with ⟨rfl, hn⟩ | ⟨hn, h⟩
  · rw [if_pos hn]
  rw [if_neg (by rw [hn]; exact Bool.false_ne_true)]
  rcases h with ⟨rfl, hf⟩ | ⟨hf, hl, h⟩
  · rw [if_pos hf]
  rw [if_neg (by simp [hf, hl])]
  rcases h with ⟨rfl, hz⟩ | ⟨hz, h⟩
  · rw [if_pos hz]
  rw [if_neg hz]
  rcases h with ⟨rfl, hfree⟩ | ⟨hfree, hnone, b, hb, hr⟩
  · simp [hfree]
  · have hhead : (heldBins s q.bins).headD 0 = b := by rw [List.headD_eq_head?_getD, hb]; rfl
    rw [if_neg (by simp [Option.isSome_iff_ne_none.mp hfree]), if_pos (claimedBins_nil hnone), hhead,
      heldReason_of_refused hr]

/-! ### Malformed requests -/

theorem malformed_refused (hp : Passes s h) (hroom : s.bus.replies.length < 8) {bins : List BinId} (level : Nat)
    (hours : h.dst = s.board.station ∨ heldBins s bins ≠ []) :
    malformedRequest h level bins (heard s h) = postReply (heard s h) (refusal s level h .malformed) := by
  obtain ⟨hheld, _⟩ := request_judged hp
  have hto : addressed (heard s h) h = true ∨ heldBins (heard s h) bins ≠ [] := by
    rw [hheld]
    exact hours.imp (heard_addressed hp) id
  rw [malformedRequest, if_pos hto, heard_refuseAt hp hroom]

theorem badFetchList_iff (count : Nat) (bins : List BinId) : badFetchList count bins = true ↔
    count ≠ bins.length ∨ bins = [] ∨ 4 < bins.length ∨ (∃ b ∈ bins, b = 0 ∨ 65534 < b) ∨ ¬ bins.Nodup := by
  simp only [badFetchList, decide_eq_true_iff, Nat.lt_one_iff, List.length_eq_zero_iff, List.any_eq_true,
    Bool.not_eq_true', isBinId_false_iff, hasTwice_iff]

theorem badVerifyList_iff (count : Nat) (bins : List BinId) : badVerifyList count bins = true ↔
    count ≠ bins.length ∨ bins.length ≠ 1 ∨ ∃ b ∈ bins, b = 0 ∨ 65534 < b := by
  simp only [badVerifyList, decide_eq_true_iff, List.any_eq_true, Bool.not_eq_true', isBinId_false_iff]

/-- A FETCH of a class code that names a class is malformed by its code or its list. -/
theorem takeFetch_malformed (hp : Passes s h) {cls : Nat} {k : JobClass} (flags : Byte) {count : Nat}
    {bins : List BinId} (hk : jobClassOf cls = some k)
    (hbad : 2 < cls ∨ badFetchList count bins = true) :
    takeFetch h cls flags count bins (heard s h) = malformedRequest h (classLevel s k) bins (heard s h) := by
  obtain ⟨_, _, _, _, _, hlevel, _⟩ := request_judged hp
  unfold takeFetch
  match cls, hk, hbad with
  | 0, hk, hbad | 1, hk, hbad | 2, hk, hbad =>
    cases hk
    rw [← hlevel]
    exact if_pos (hbad.resolve_left (by decide))
  | c + 3, hk, _ =>
    rw [show fetchClassOf (c + 3) = none from rfl, badClassFetch, hk, hlevel]

end Requests

end Sys2Proof.Machine
end

section
/-! PROOFS. A job created on an idle gantry is chosen in the same event (R42, R44). FETCH and VERIFY (O31). -/

namespace Sys2Proof.Machine

open Sys2Proof

-- In turn, so that the proofs do not hold more threads at once than the memory limit has stacks for.
set_option Elab.async false

/-! ### The choice -/

section Choice

variable {s u v : State} {h : Header} {q : JobRequest} {n c i : Nat} {b : BinId}

/-- In RUN with the gantry IDLE, nothing woken and nothing of the sides to settle, the head of the highest list
takes the gantry, if its step commands a motion. -/
theorem settle_begins {x : Xfer} (hrun : v.fire.node = .run)
    (hsides : ∀ sd ∈ sides, (view v sd).fireClosed = false) (hover : v.inv.overflow = none)
    (hfree : gantryFree v = true) (hwoken : v.sched.woken = []) (hhead : headReady v = some n)
    (hstep : stepStart (activate v n) n = launch u x) (huwoken : u.sched.woken = []) :
    (settle v).sched = u.sched ∧ (settle v).motion = (launch u x).motion := by
  have hput : v.motion.putAway = none := by
    simp only [gantryFree, decide_eq_true_iff, Option.isNone_iff_eq_none] at hfree
    obtain ⟨_, _, _, _, hput, _⟩ := hfree
    exact hput
  have h1 : guardSides (moveOverflow v) = v := by
    rw [moveOverflow_none v hover]
    have hw := guardSide_run v .west hrun (hsides .west (by simp [sides]))
    have he := guardSide_run v .east hrun (hsides .east (by simp [sides]))
    simp only [guardSides, sides, List.foldl, hw, he]
  have h2 : commandPutAway v = v := by rw [commandPutAway, hput]
  have hbusy : (launch u x).motion.gantry ≠ .idle := by
    change (if x.src = .park then GantryState.loaded else .movingEmpty) ≠ .idle
    split <;> exact GantryState.noConfusion
  have h3 : runSchedule scheduleBound v = launch u x := by
    change runSchedule (255 + 1) v = _
    unfold runSchedule
    dsimp only
    rw [flushWoken_none v hwoken, if_pos hfree, hhead]
    dsimp only
    rw [hstep, runSchedule_busy _ _ hbusy]
    exact flushWoken_none _ huwoken
  rw [settle_eq v (by simp [hrun]) (by simp [hrun]), h1, h2, h3, resendAll_sched, resendAll_motion]
  exact ⟨rfl, rfl⟩

/-- The state in which a VERIFY begins its setting-back step: it holds the lock on the column (R51, R74). -/
def setBackStarted (s : State) (n c : Nat) : State :=
  modCtx (modCtx (modCtx s n (fun k => { k with lock := some c })) n (fun k => { k with digRemaining := 0 })) n
    (fun k => { k with step := some { kind := .setBack, bin := none } })

/-- A bin's setting back in its column. -/
def setBackXfer (n c : Nat) : Xfer :=
  { src := .column c, dst := .column c, retarget := none, owner := some n, abandonSent := false, setDown := false }

theorem ctxOf_setBackStarted (hlen : n < s.sched.ctxs.length) : ctxOf (setBackStarted s n c) n =
    { ctxOf s n with
      lock := some c, digRemaining := 0, step := some { kind := .setBack, bin := none } } := by
  rw [setBackStarted, ctxOf_modCtx, if_pos (by simpa only [modCtx_length] using hlen), ctxOf_modCtx,
    if_pos (by simpa only [modCtx_length] using hlen), ctxOf_modCtx, if_pos hlen]

/-- A VERIFY whose target is the top bin of a column that no other context has locked takes the lock and commands
the bin's setting back. -/
theorem stepStart_setBack (hkind : (ctxOf s n).kind = .verify) (hrest : (ctxOf s n).restoring = false)
    (htarget : currentTarget (ctxOf s n) = some { bin := b, status := .waiting })
    (hres : residenceOf s b = some (.resident c i)) (hsus : (column s c).suspect = false)
    (hlocked : lockedBut s (some n) c = false) (hlock : (ctxOf s n).lock = none) (hdepth : depthOf s c i = 0)
    (hheld : stepHeld s n = false) : stepStart s n = launch (setBackStarted s n c) (setBackXfer n c) := by
  have haim : aim 9 s n = (s, some (c, i)) := by
    rw [aim, htarget]
    dsimp only
    rw [if_neg (by exact Bool.false_ne_true), hres]
    dsimp only
    rw [hsus, if_neg Bool.false_ne_true]
  have htake : takeLock s n c = modCtx s n (fun k => { k with lock := some c }) := by
    rw [takeLock, if_neg (by rw [hlock]; exact fun hl => Option.some_ne_none c hl.symm), releaseLock, hlock]
  have hkind' : (ctxOf (modCtx s n (fun k => { k with lock := some c })) n).kind = .verify :=
    (modCtx_field (f := fun k : Ctx => { k with lock := some c }) Ctx.kind s n (fun _ => rfl)).trans hkind
  unfold stepStart
  rw [hkind]
  dsimp only
  rw [retrievalStart, hrest, if_neg Bool.false_ne_true, aimStart, haim]
  dsimp only
  rw [hlocked, if_neg Bool.false_ne_true, htake, targetStep]
  have hd : depthOf (modCtx s n (fun k => { k with lock := some c })) c i = 0 := hdepth
  rw [hd, if_neg (lt_irrefl 0), hkind', if_pos rfl, beginTransfer]
  dsimp only
  change (if stepHeld s n = true then _ else _) = _
  rw [hheld, if_neg Bool.false_ne_true]
  rfl

/-! ### The state a claim leaves on an idle gantry -/

/-- What a claim in RUN leaves of the state, and the context `k` it makes. -/
structure ClaimedOn (s : State) (level n : Nat) (k : Ctx) (v : State) : Prop where
  fire : v.fire = s.fire
  inv : v.inv = s.inv
  slots : v.slots = s.slots
  motion : v.motion = (clearOut s).motion
  setup : v.setup = s.setup
  store : v.store = s.store
  woken : v.sched.woken = []
  stepEnded : v.sched.stepEnded = s.sched.stepEnded
  ready : v.sched.ready = s.sched.ready.modify (level - 1) (· ++ [n])
  own : ctxOf v n = k
  others : ∀ m, m ≠ n → ctxOf v m = ctxOf s m
  length : n < v.sched.ctxs.length

theorem claimed_on (hp : Passes s h) (hts : TablesSized s) (hn : freeCtx? s = some n) (hrun : s.fire.node = .run)
    (f : Frame) : ClaimedOn s q.level n
      { claimCtx h q (claimedBins s q) with state := .ready, wait := none, stamp := s.sched.nextStamp }
      (postReply (claimedState s h q n) f) := by
  obtain ⟨hinv, hsched, hslots, hmotion, hfire, _, hsetup, _, _, hstore, _⟩ := heard_blocks hp
  have hlen := heard_length hp hts hn
  let c := claimCtx h q (claimedBins s q)
  have hset : ctxOf (setCtx (heard s h) n c) n = c := by rw [ctxOf_setCtx, if_pos ⟨rfl, hlen⟩]
  have hlen' : n < (setCtx (heard s h) n c).sched.ctxs.length := by simpa [setCtx] using hlen
  have hv : claimedState s h q n = toTail (setCtx (heard s h) n c) n := by
    rw [claimedState, readied, if_pos]
    rw [show (setCtx (heard s h) n c).fire = s.fire from hfire]
    exact hrun
  have hctx := ctxOf_toTail (setCtx (heard s h) n c) n
  rw [postReply_eq (by rw [posts, claimedState, readied_board]; exact heard_posts hp), hv]
  refine ⟨hfire, hinv, hslots, hmotion, hsetup, hstore, ?_, ?_, ?_, ?_, fun m hm => ?_, ?_⟩
  · change (heard s h).sched.woken = []
    rw [hsched]
    rfl
  · change (heard s h).sched.stepEnded = _
    rw [hsched]
    rfl
  · change (heard s h).sched.ready.modify ((ctxOf (setCtx (heard s h) n c) n).level - 1) _ = _
    rw [hset, hsched]
    rfl
  · refine (hctx n).trans ((if_pos ⟨rfl, hlen'⟩).trans ?_)
    rw [hset, show (setCtx (heard s h) n c).sched.nextStamp = s.sched.nextStamp from
      (congrArg Sched.nextStamp hsched).trans rfl]
  · exact (hctx m).trans ((if_neg (fun hm' => hm hm'.1)).trans ((ctxOf_setCtx_ne _ _ hm).trans (ctxOf_heard hp m)))
  · change n < ((setCtx (heard s h) n c).sched.ctxs.set n _).length
    rw [List.length_set]
    exact hlen'

theorem residenceOf_inv (hinv : v.inv = s.inv) (b : BinId) : residenceOf v b = residenceOf s b := by
  rw [residenceOf, recordOf, hinv, residenceOf, recordOf]

section ClaimedOn

variable {k : Ctx} {level : Nat} (hv : ClaimedOn s level n k v)
include hv

theorem ClaimedOn.gantryFree (hrun : s.fire.node = .run) (hidle : s.motion.gantry = .idle)
    (hheld : s.motion.held = none) (hput : s.motion.putAway = none) (hrec : s.motion.recovery = false)
    (hactive : activeCtx? s = none) (hk : k.state = .ready) : gantryFree v = true := by
  have hact : activeCtx? v = none := by
    refine List.find?_eq_none.mpr (fun m hm => ?_)
    by_cases hmn : m = n
    · rw [hmn, hv.own, hk]
      simp
    · rw [hv.others m hmn]
      exact List.find?_eq_none.mp hactive m hm
  simp [Machine.gantryFree, hv.fire, hv.motion, clearOut, State.withMotion, State.withSched, hrun, hidle, hheld,
    hput, hrec, hact]

theorem ClaimedOn.headReady (hempty : ∀ l ∈ s.sched.ready, l = []) (hlevel : level - 1 < s.sched.ready.length) :
    headReady v = some n := by
  have hget : ∀ j, s.sched.ready.getD j [] = [] := fun j => by
    rw [List.getD_eq_getElem?_getD]
    cases hj : s.sched.ready[j]? with
    | none => rfl
    | some l => exact hempty l (List.mem_of_getElem? hj)
  refine headReady_of_top (i := level - 1) (by rw [hv.ready, List.length_modify]; exact hlevel) ?_
    (fun j hj _ => ?_)
  · rw [hv.ready, List.getD_eq_getElem?_getD, List.getElem?_modify, List.getElem?_eq_getElem hlevel]
    simp [hempty _ (List.getElem_mem hlevel)]
  · have hne : level - 1 ≠ j := hj.ne
    have hnil := hget j
    rw [List.getD_eq_getElem?_getD] at hnil
    rw [hv.ready, List.getD_eq_getElem?_getD, List.getElem?_modify]
    simpa [hne] using hnil

/-- Once the context has left its list, the lists are as they were. -/
theorem ClaimedOn.lists (hempty : ∀ l ∈ s.sched.ready, l = []) :
    v.sched.ready.map (fun l => l.filter (· ≠ n)) = s.sched.ready := by
  rw [hv.ready]
  refine List.ext_getElem? (fun j => ?_)
  rw [List.getElem?_map, List.getElem?_modify]
  cases hj : s.sched.ready[j]? with
  | none => rfl
  | some l =>
    rw [hempty l (List.mem_of_getElem? hj)]
    by_cases hl : level - 1 = j <;> simp [hl]

theorem ClaimedOn.unlocked (hlock : ∀ m ∈ ctxNumbers, (ctxOf s m).lock ≠ some c) :
    lockedBut (activate v n) (some n) c = false := by
  refine List.any_eq_false.mpr (fun m hm => ?_)
  simp only [decide_eq_true_iff, not_and]
  intro hmn
  have hne : m ≠ n := fun h => hmn (congrArg some h)
  rw [ctxOf_activate hv.length, if_neg hne, hv.others m hne]
  exact hlock m hm

end ClaimedOn

/-! ### A VERIFY on an idle gantry -/

theorem verify_claims (hheld : heldBins s [b] = [b]) {flags : Byte}
    (hq : claimRefusal s (verifyRequest s flags [b]) = none) :
    claimedBins s (verifyRequest s flags [b]) = [b] ∧ claimable s b = true ∧ s.setup.verify ≠ 0 := by
  have hchain : (verifyRequest s flags [b]).chain = false := rfl
  have hbins : (verifyRequest s flags [b]).bins = [b] := rfl
  have hcb : claimedBins s (verifyRequest s flags [b]) = ([b].filter (claimable s)).take 1 := by
    rw [claimedBins, hchain, hbins, hheld]
    rfl
  unfold claimRefusal at hq
  split at hq
  · cases hq
  split at hq
  · cases hq
  split at hq
  · cases hq
  rename_i hlevel
  split at hq
  · cases hq
  split at hq
  · cases hq
  rename_i hne
  rw [hcb] at hne ⊢
  cases hb : claimable s b with
  | true => simp [hb, show s.setup.verify ≠ 0 from hlevel]
  | false => simp [hb] at hne

theorem suspect_of_claimable (hb : claimable s b = true) (hres : residenceOf s b = some (.resident c i)) :
    (column s c).suspect = false := by
  simp only [claimable, hres, Bool.and_eq_true, Bool.not_eq_true'] at hb
  exact hb.1

theorem takeVerify_judged (hp : Passes s h) (hheld : heldBins s [b] = [b]) (flags : Byte) :
    takeVerify h flags 1 [b] (heard s h) = judgeRequest h (verifyRequest s flags [b]) (heard s h) := by
  obtain ⟨hh, _, _, _, _, _, _, hreq, _⟩ := request_judged hp
  have hid : isBinId b = true := by
    have hmem : b ∈ heldBins s [b] := by rw [hheld]; exact List.mem_cons_self
    simpa using (of_decide_eq_true (List.mem_filter.mp hmem).2).1
  have hok : badVerifyList 1 [b] = false := by simp [badVerifyList, hid]
  rw [takeVerify, hok, if_neg Bool.false_ne_true, hh, hheld, if_neg (List.cons_ne_nil _ _), hreq]

theorem verify_begins (hrun : s.fire.node = .run) (hidle : s.motion.gantry = .idle) (hheld : s.motion.held = none)
    (hput : s.motion.putAway = none) (hrec : s.motion.recovery = false) (hover : s.inv.overflow = none)
    (hsides : ∀ sd ∈ sides, (view s sd).fireClosed = false) (hactive : activeCtx? s = none)
    (hempty : ∀ l ∈ s.sched.ready, l = []) (hended : s.sched.stepEnded = none)
    (hstore : ∀ u ∈ s.store.queue, u.stepCtx ≠ some n) (hts : TablesSized s) (hp : Passes s h)
    (hroom : s.bus.replies.length < 8) (hlevel : s.setup.verify ≤ 10) (hbin : heldBins s [b] = [b])
    {flags : Byte} (hq : claimRefusal s (verifyRequest s flags [b]) = none) (hn : freeCtx? s = some n)
    (hres : residenceOf s b = some (.resident c i)) (hdepth : depthOf s c i = 0)
    (hlock : ∀ m ∈ ctxNumbers, (ctxOf s m).lock ≠ some c) :
    ∃ t, exec (.verify h flags 1 [b]) s = .next t ∧ (ctxOf t n).state = .active ∧
      (ctxOf t n).lock = some c ∧ t.sched.ready = s.sched.ready ∧ t.motion.gantry = .movingEmpty ∧
      t.motion.timer = some s.setup.motionTimeout ∧ t.motion.out = [.transfer (.column c) (.column c)] := by
  obtain ⟨_, _, hlists, _⟩ := id hts
  obtain ⟨hclaimed, hclaimable, hl0⟩ := verify_claims hbin hq
  have hbody := (takeVerify_judged hp hbin flags).trans (judge_claimed hp hroom hq hn)
  have hv := claimed_on (q := verifyRequest s flags [b]) hp hts hn hrun (claimFrame s h (verifyRequest s flags [b]))
  rw [hclaimed] at hv
  generalize postReply (claimedState s h (verifyRequest s flags [b]) n) (claimFrame s h (verifyRequest s flags [b])) = v
    at hbody hv
  have hact := (ctxOf_activate hv.length n).trans (if_pos rfl)
  rw [hv.own] at hact
  let w := setBackStarted (activate v n) n c
  have hstep : stepStart (activate v n) n = launch w (setBackXfer n c) := by
    refine stepStart_setBack (b := b) (i := i) (by rw [hact]; rfl) (by rw [hact]; rfl) (by rw [hact]; rfl)
      ((residenceOf_inv hv.inv b).trans hres) ?_ (hv.unlocked hlock) (by rw [hact]; rfl) ?_ ?_
    · change (v.inv.columns.getD c Column.empty).suspect = false
      rw [hv.inv]
      exact suspect_of_claimable hclaimable hres
    · change (v.inv.columns.getD c Column.empty).bins.length - 1 - i = 0
      rw [hv.inv]
      exact hdepth
    · have hq' : (activate v n).store.queue = s.store.queue := congrArg Store.queue hv.store
      have hse : (activate v n).sched.stepEnded = none := hv.stepEnded.trans hended
      rw [stepHeld, hq', hse]
      simpa using hstore
  have hview : ∀ sd, view v sd = view s sd := fun sd => view_of_slots hv.slots sd
  obtain ⟨hsched, hmotion⟩ := settle_begins (v := v) (by rw [hv.fire]; exact hrun)
    (fun sd hsd => by rw [hview]; exact hsides sd hsd) (by rw [hv.inv]; exact hover)
    (hv.gantryFree hrun hidle hheld hput hrec hactive rfl) hv.woken
    (hv.headReady hempty (by change s.setup.verify - 1 < _; omega)) hstep
    (by
      change v.sched.woken.filter _ = []
      rw [hv.woken]
      rfl)
  have e := endEvent_blocks (clearOut s) (settle v)
  have hmot := e.motion (by rw [hmotion]; rfl)
  rw [hmotion] at hmot
  have hctx : ctxOf (endEvent (clearOut s) (settle v)) n = ctxOf w n := by
    rw [ctxOf, e.sched, hsched]
    rfl
  have hown := hctx.trans (ctxOf_setBackStarted (s := activate v n) (n := n) (c := c)
    (lt_of_lt_of_eq hv.length (by simp [activate, leaveList, modCtx, setCtx])))
  refine ⟨endEvent (clearOut s) (settle v), ?_, ?_, ?_, ?_, ?_, ?_, ?_⟩
  · change Host.Outcome.next (receive h _ s) = _
    rw [receive_eq hp, fullEvent, hbody]
  · rw [hown, hact]
  · rw [hown]
  · rw [e.sched, hsched]
    exact hv.lists hempty
  · rw [hmot]
    rfl
  · rw [hmot]
    exact congrArg (fun x => some (Setup.motionTimeout x)) hv.setup
  · rw [hmot]
    change v.motion.out ++ _ = _
    rw [hv.motion]
    rfl

/-! ### A FETCH -/

theorem takeFetch_listed (hp : Passes s h) {cls : Nat} {k : JobClass} (hk : fetchClassOf cls = some k)
    (flags : Byte) {bins : List BinId} (hok : badFetchList bins.length bins = false) :
    takeFetch h cls flags bins.length bins (heard s h) =
      if heldBins s bins = [] then heard s h
      else judgeRequest h (fetchRequest s k flags bins) (heard s h) := by
  obtain ⟨hh, _, _, _, _, _, hreq, _⟩ := request_judged hp
  rw [takeFetch, hk, hok, hh, hreq]
  rfl

theorem takeFetch_judged (hp : Passes s h) {cls : Nat} {k : JobClass} (hk : fetchClassOf cls = some k)
    (flags : Byte) {bins : List BinId} (hok : badFetchList bins.length bins = false)
    (hheld : heldBins s bins ≠ []) : takeFetch h cls flags bins.length bins (heard s h) =
      judgeRequest h (fetchRequest s k flags bins) (heard s h) := by
  rw [takeFetch_listed hp hk flags hok, if_neg hheld]

theorem requestKind_fetch {cls : Nat} {k : JobClass} (hk : fetchClassOf cls = some k) (flags : Byte)
    (bins : List BinId) : requestKind (fetchRequest s k flags bins) = .fetch := by
  have hne : k ≠ .verify := by
    unfold fetchClassOf at hk
    split at hk <;> cases hk <;> exact JobClass.noConfusion
  exact if_neg hne

/-- The CLAIM's payload, request position by request position. -/
theorem claimPayload_eq (s : State) (q : JobRequest) (bins : List BinId) : claimPayload s q bins =
    .claim ([0, 1, 2, 3].map (fun i => (q.bins[i]?).any (fun b => b ∈ bins)))
      ([0, 1, 2, 3].map (fun i =>
        if (q.bins[i]?).any (fun b => b ∈ bins) then binDepth s (q.bins.getD i 0) else 0)) := by
  have hsome : ∀ i : Nat, ((q.bins[i]?).filter (fun b => b ∈ bins)).isSome = (q.bins[i]?).any (fun b => b ∈ bins) :=
    fun i => Option.isSome_filter
  have hdepth : ∀ i : Nat, (((q.bins[i]?).filter (fun b => b ∈ bins)).map (binDepth s)).getD 0 =
      if (q.bins[i]?).any (fun b => b ∈ bins) then binDepth s (q.bins.getD i 0) else 0 := fun i => by
    rw [List.getD_eq_getElem?_getD]
    cases q.bins[i]? with
    | none => rfl
    | some b => by_cases hb : b ∈ bins <;> simp [Option.filter, hb]
  simp only [claimPayload, List.map_cons, List.map_nil, hsome, hdepth]

end Choice

/-- Settles O31: the claim in RUN and in GUARD, the choice on an idle gantry, and each refusal. -/
theorem jobRequestsJudged : Obligations.JobRequestsJudged := by
  refine ⟨⟨?_, ?_, ?_, ?_⟩, ?_, ?_, ?_⟩
  · intro s h cls k flags bins n hc hp hts hroom hk hok hheld hq hn
    have hb := takeFetch_judged hp hk flags hok hheld
    obtain ⟨hmade, hothers, hinv⟩ := claim_calm hp hts hroom hq hn hc (requestKind_fetch hk flags bins) hb
    have hans := claim_answered hp hroom hq hn hb
    rw [claimFrame, claimPayload_eq] at hans
    exact ⟨_, _, rfl, hmade, hothers, hans, hinv⟩
  · intro s h cls k flags bins n hnode hheldx hp hts hroom hk hok hheld hq hn
    exact ⟨_, rfl, claim_guarded hp hts hroom hq hn hnode hheldx (requestKind_fetch hk flags bins)
      (takeFetch_judged hp hk flags hok hheld)⟩
  · intro s h flags b n hc hp hts hroom hheld hq hn
    have hb := takeVerify_judged hp hheld flags
    obtain ⟨hmade, hothers, hinv⟩ := claim_calm hp hts hroom hq hn hc (kind := .verify) rfl hb
    have hans := claim_answered hp hroom hq hn hb
    obtain ⟨hclaimed, _⟩ := verify_claims hheld hq
    have hpay : claimPayload s (verifyRequest s flags [b]) [b] =
        .claim [true, false, false, false] [binDepth s b, 0, 0, 0] := by
      rw [claimPayload_eq]
      simp [verifyRequest]
    rw [claimFrame, hclaimed, hpay] at hans
    obtain ⟨⟨_, _, _, _, _, hchain, hrestore, _, hshort, _⟩, _⟩ := id hmade
    exact ⟨_, _, rfl, hmade, hrestore, hchain, hshort, hothers, hans, hinv⟩
  · intro s h flags b n c i hrun hidle hheld hput hrec hover hsides hactive hempty hended hstore hts hp hroom
      hlevel hbin hq hn hres hdepth hlock
    exact verify_begins hrun hidle hheld hput hrec hover hsides hactive hempty hended hstore hts hp hroom hlevel
      hbin hq hn hres hdepth hlock
  · intro s h cls k flags bins hp hk hok
    refine ⟨fun hnone => ?_, fun r hheld hroom hr => ?_⟩
    · exact ⟨_, rfl, receive_passedOver hp (by rw [takeFetch_listed hp hk flags hok, if_pos hnone])⟩
    · exact receive_turnedDown hp rfl ((takeFetch_judged hp hk flags hok hheld).trans
        (judge_refused hp hroom (claimRefusal_of_refused hr)))
  · intro s h flags b r hp hheld hroom hr
    exact receive_turnedDown hp rfl ((takeVerify_judged hp hheld flags).trans
      (judge_refused hp hroom (claimRefusal_of_refused hr)))
  · intro s h flags count bins hp hroom hours
    refine ⟨fun cls k hk hbad => ?_, fun hbad => ?_⟩
    · have hbad' : 2 < cls ∨ badFetchList count bins = true := hbad.imp id (badFetchList_iff count bins).mpr
      exact receive_turnedDown hp rfl ((takeFetch_malformed hp flags hk hbad').trans
        (malformed_refused hp hroom _ hours))
    · have hb : takeVerify h flags count bins (heard s h) = malformedRequest h s.setup.verify bins (heard s h) := by
        obtain ⟨_, _, _, _, _, _, hsetup, _⟩ := heard_blocks hp
        rw [takeVerify, if_pos ((badVerifyList_iff count bins).mpr hbad), hsetup]
      exact receive_turnedDown hp rfl (hb.trans (malformed_refused hp hroom _ hours))

end Sys2Proof.Machine
end

section
/-! PROOFS. The slot sides and their shutters when a side closes or opens for fire (R100, R139, R153). -/

namespace Sys2Proof.Machine

open Sys2Proof

-- In turn, so that the proofs do not hold more threads at once than the memory limit has stacks for.
set_option Elab.async false

variable {s t u : State} {sd e : Side}

/-! ### The frames of a side -/

/-- Only the frames of side `sd`, and what its view says of them, may differ. -/
structure FramesOf (sd : Side) (s t : State) : Prop where
  motion : t.motion = s.motion
  sched : t.sched = s.sched
  others : ∀ e, e ≠ sd → view t e = view s e
  state : (view t sd).state = (view s sd).state
  cause : (view t sd).fireClosed = (view s sd).fireClosed

theorem FramesOf.refl (sd : Side) (s : State) : FramesOf sd s s := ⟨rfl, rfl, fun _ _ => rfl, rfl, rfl⟩

theorem FramesOf.trans (h : FramesOf sd s t) (g : FramesOf sd t u) : FramesOf sd s u :=
  ⟨g.motion.trans h.motion, g.sched.trans h.sched, fun e he => (g.others e he).trans (h.others e he),
    g.state.trans h.state, g.cause.trans h.cause⟩

theorem framesOf_modView (s : State) (sd : Side) (f : SlotView → SlotView)
    (hf : (f (view s sd)).state = (view s sd).state ∧ (f (view s sd)).fireClosed = (view s sd).fireClosed) :
    FramesOf sd s (modView s sd f) :=
  ⟨modView_motion s sd f, modView_sched s sd f, fun _ he => view_modView_ne s sd he f,
    by rw [modView_view]; exact hf.1, by rw [modView_view]; exact hf.2⟩

theorem framesOf_postSlot (s : State) (sd : Side) (g : Tag) (p : Payload) : FramesOf sd s (postSlot s sd g p) :=
  ⟨postSlot_motion s sd g p, postSlot_sched s sd g p, fun e he => by rw [view_postSlot, if_neg he],
    by rw [view_postSlot_self], by rw [view_postSlot_self]⟩

theorem framesOf_postWaiting (s : State) (sd : Side) (w : SlotWait) : FramesOf sd s (postWaiting s sd w) := by
  cases w with
  | taken b tag => exact framesOf_postSlot s sd tag _
  | loaded =>
    unfold postWaiting
    dsimp only
    split
    · split
      · exact framesOf_postSlot s sd _ _
      · exact FramesOf.refl sd s
    · exact FramesOf.refl sd s

theorem framesOf_postFirst (sd : Side) (ws : List SlotWait) (s : State) : FramesOf sd s (postFirst s sd ws) := by
  induction ws generalizing s with
  | nil => exact framesOf_modView s sd _ ⟨rfl, rfl⟩
  | cons w ws ih =>
    have h1 : FramesOf sd s (postWaiting (modView s sd (fun v => { v with waiting := ws })) sd w) :=
      (framesOf_modView s sd (fun v => { v with waiting := ws }) ⟨rfl, rfl⟩).trans (framesOf_postWaiting _ sd w)
    unfold postFirst
    dsimp only
    split
    · exact h1
    · exact ih s

theorem framesOf_unpostClaim (s : State) (sd : Side) : FramesOf sd s (unpostClaim s sd) := by
  unfold unpostClaim
  split
  · exact FramesOf.refl sd s
  · rename_i f _
    obtain ⟨x, hx, _⟩ := withdrawTx_eq s f.seq
    rw [hx, slotFrameLeaves]
    have h0 : FramesOf sd s (s.withBus { s.bus with tx := x }) :=
      ⟨rfl, rfl, fun _ _ => view_of_slots rfl _, congrArg SlotView.state (view_of_slots rfl sd),
        congrArg SlotView.fireClosed (view_of_slots rfl sd)⟩
    have h1 := framesOf_modView (s.withBus { s.bus with tx := x }) sd (fun v => { v with pend := none }) ⟨rfl, rfl⟩
    exact (h0.trans h1).trans (framesOf_postFirst sd _ _)

theorem framesOf_resendLoaded (s : State) (sd : Side) : FramesOf sd s (resendLoaded s sd) := by
  unfold resendLoaded
  split
  · have h1 := framesOf_modView s sd (fun v => { v with resendOwed := false }) ⟨rfl, rfl⟩
    exact h1.trans (framesOf_postWaiting _ sd _)
  · exact FramesOf.refl sd s

/-! ### Claims withdrawn with no context STALLED -/

/-- No context is STALLED. -/
def Unstalled (s : State) : Prop := ∀ n, (ctxOf s n).state ≠ .stalled

theorem Unstalled.of_ctxs (h : Unstalled s) (ht : t.sched.ctxs = s.sched.ctxs) : Unstalled t := fun n => by
  rw [ctxOf, ht]
  exact h n

/-- Work that names no context stalls none. -/
theorem Within.unstalled {k : Scope} (w : Within k s t) (hk : ∀ n, ¬ k.who n) (h : Unstalled s) : Unstalled t :=
  fun n hn => (w.of_stalled hn).elim (hk n) (h n)

theorem refusalPath_unstalled (h : Unstalled s) (n : Nat) (sd : Side) : refusalPath s n sd = s := by
  have hs : stalledOn s n .slotWait = false := by simp [stalledOn, h n]
  rw [refusalPath, hs, if_neg Bool.false_ne_true]

/-- A view set FREE with no context STALLED: nothing but the view and the scheduler's marks changes. -/
theorem freeView_unstalled (h : Unstalled s) (sd : Side) : ∃ f k, (∀ v, (f v : SlotView).state = .free) ∧
    freeView s sd = (modView s sd f).withSched { s.sched with woken := k } := by
  let v := modView s sd freedView
  have hm : ∀ r, ∃ k, wakeOn v r = v.withSched { s.sched with woken := k } := fun r => by
    obtain ⟨l, hl, _⟩ := wakeOn_eq v r
    exact ⟨_, hl.trans (by rw [modView_sched])⟩
  have hcases : ∃ k, (if sideClosed v sd then v else wakeOn v .noRoom) =
      v.withSched { s.sched with woken := k } := by
    split
    · exact ⟨s.sched.woken, by cases sd <;> rfl⟩
    · exact hm _
  obtain ⟨k, hk⟩ := hcases
  have hun : freeView s sd = settleRace (v.withSched { s.sched with woken := k }) sd := by
    rw [← hk]
    rfl
  rw [hun]
  unfold settleRace
  split
  · exact ⟨freedView, k, fun _ => rfl, rfl⟩
  · refine ⟨fun v => { freedView v with raced := none }, k, fun _ => rfl, ?_⟩
    rw [refusalPath_unstalled]
    · cases sd <;> rfl
    · exact h.of_ctxs (by cases sd <;> rfl)

/-- What withdrawing a side's claim leaves when no context is STALLED. -/
structure Withdrawn (sd : Side) (s t : State) : Prop where
  motion : t.motion = s.motion
  ctxs : t.sched.ctxs = s.sched.ctxs
  others : ∀ e, e ≠ sd → view t e = view s e
  state : (view t sd).state = (view s sd).state ∨ (view t sd).state = .free
  claim : claimPending s sd = true → (view t sd).state = .free

theorem withdrawClaim_unstalled (h : Unstalled s) (sd : Side) : Withdrawn sd s (withdrawClaim s sd) := by
  unfold withdrawClaim
  cases hc : claimPending s sd with
  | false => exact ⟨rfl, rfl, fun _ _ => rfl, Or.inl rfl, fun hf => by rw [hc] at hf; cases hf⟩
  | true =>
    have hf := framesOf_unpostClaim s sd
    have hu : Unstalled (unpostClaim s sd) := h.of_ctxs (by rw [hf.sched])
    obtain ⟨f, k, hfree, heq⟩ := freeView_unstalled hu sd
    have hw : Withdrawn sd s (freeView (unpostClaim s sd) sd) := by
      rw [heq]
      have hv : (view ((modView (unpostClaim s sd) sd f).withSched
          { (unpostClaim s sd).sched with woken := k }) sd).state = .free := by
        change (view (modView (unpostClaim s sd) sd f) sd).state = _
        rw [modView_view]
        exact hfree _
      exact ⟨(modView_motion _ sd f).trans hf.motion,
        (show (unpostClaim s sd).sched.ctxs = s.sched.ctxs by rw [hf.sched]),
        fun e he => (view_of_slots (s := modView (unpostClaim s sd) sd f) rfl e).trans
          ((view_modView_ne _ sd he f).trans (hf.others e he)), Or.inr hv, fun _ => hv⟩
    rw [if_pos rfl]
    dsimp only
    split
    · exact hw
    · rw [refusalPath_unstalled (h.of_ctxs hw.ctxs)]
      exact hw

/-! ### Overlays -/

theorem overlayLifted_marks (s : State) (sd : Side) :
    ∃ k, overlayLifted s sd = s.withSched { s.sched with woken := k } := by
  unfold overlayLifted
  split
  · exact ⟨_, rfl⟩
  · exact ⟨_, rfl⟩
  · exact ⟨_, rfl⟩
  · exact ⟨s.sched.woken, rfl⟩

/-- A change of a side's overlay, with no transfer held and no context STALLED: what it leaves besides the view
of the side. -/
theorem setFireCause_unstalled (h : Unstalled s) (hheld : s.motion.held = none) (b : Bool) (sd : Side) :
    (setFireCause s b sd).motion = s.motion ∧
      (∀ e, (view (setFireCause s b sd) e).fireClosed = if e = sd then b else (view s e).fireClosed) ∧
      ∀ e, (view s e).state = .free → (view (setFireCause s b sd) e).state = .free := by
  let v := modView s sd (fun w => { w with fireClosed := b })
  have hv : Unstalled v := h.of_ctxs (by rw [modView_sched])
  have hh : v.motion.held = none := by rw [modView_motion]; exact hheld
  have w : Within Scope.waking v (setFireCause s b sd) :=
    Within.after_changeOverlay (f := fun t => modView t sd (fun w => { w with fireClosed := b }))
      (Within.refl Scope.waking v) sd (Or.inl hh)
  have hview : ∀ e, view v e = if e = sd then { view s sd with fireClosed := b } else view s e :=
    fun e => view_modView s sd e _
  have hcause : ∀ e, (view (setFireCause s b sd) e).fireClosed = if e = sd then b else (view s e).fireClosed := by
    intro e
    rw [(w.views e).fireClosed (fun hf => hf), hview]
    split <;> rfl
  have hstate : ∀ e, (view v e).state = (view s e).state := fun e => by
    rw [hview]
    split
    · rename_i he
      rw [he]
    · rfl
  have hlift : ∀ u, (∃ l, u = v.withSched l) → u.motion = s.motion ∧
      ∀ e, (view s e).state = .free → (view u e).state = .free := by
    rintro u ⟨l, rfl⟩
    exact ⟨modView_motion s sd _, fun e he => (hstate e).trans he⟩
  have hrest : (setFireCause s b sd).motion = s.motion ∧
      ∀ e, (view s e).state = .free → (view (setFireCause s b sd) e).state = .free := by
    unfold setFireCause changeOverlay
    dsimp only
    split
    · split
      · exact hlift v ⟨v.sched, rfl⟩
      · obtain ⟨k, hk⟩ := overlayLifted_marks v sd
        exact hlift _ ⟨_, hk⟩
    · split
      · rw [dropHeldAt_none _ _ hh]
        have hw := withdrawClaim_unstalled hv sd
        refine ⟨hw.motion.trans (modView_motion s sd _), fun e he => ?_⟩
        by_cases hes : e = sd
        · rw [hes] at he ⊢
          exact hw.state.elim (fun hst => hst.trans ((hstate sd).trans he)) id
        · rw [hw.others e hes]
          exact (hstate e).trans he
      · exact hlift v ⟨v.sched, rfl⟩
  exact ⟨hrest.1, hcause, hrest.2⟩

/-- A FIRE cause lifted: the view of the side and the scheduler's marks change, and nothing else. -/
theorem liftFireCause_eq (s : State) (sd : Side) : ∃ k, setFireCause s false sd =
    (modView s sd (fun w => { w with fireClosed := false })).withSched { s.sched with woken := k } := by
  let v := modView s sd (fun w => { w with fireClosed := false })
  have hplain : v = v.withSched { s.sched with woken := s.sched.woken } := by cases sd <;> rfl
  have hlifted : ∃ k, overlayLifted v sd = v.withSched { s.sched with woken := k } := by
    obtain ⟨k, hk⟩ := overlayLifted_marks v sd
    exact ⟨k, by rw [hk, show v.sched = s.sched from modView_sched s sd _]⟩
  unfold setFireCause changeOverlay
  dsimp only
  split
  · split
    · exact ⟨_, hplain⟩
    · exact hlifted
  · rename_i hopen
    rw [if_neg]
    · exact ⟨_, hplain⟩
    · intro hclosed
      apply hopen
      simp only [sideClosed, modView_view, notBay, absent, nbr_modView, decide_eq_true_eq] at hclosed ⊢
      tauto

/-! ### Shutters asked -/

theorem shutter_setShutter (s : State) (a b : ShutterId) (k : Shutter) :
    shutter (setShutter s a k) b = if b = a then k else shutter s b := by
  cases a <;> cases b <;> rfl

theorem sideShutter_ne {a b : Side} (h : a ≠ b) : sideShutter a ≠ sideShutter b := by
  cases a <;> cases b <;> simp_all [sideShutter]

/-- What asking a shutter leaves: another shutter, the views, and the commands already sent. -/
theorem askShutter_leaves (s : State) (sh : ShutterId) (p : ShutterPos) :
    (∀ k, k ≠ sh → shutter (askShutter s sh p) k = shutter s k) ∧
      (askShutter s sh p).slots = s.slots ∧ (∀ c ∈ s.motion.out, c ∈ (askShutter s sh p).motion.out) := by
  have hset : ∀ v, (∀ k, k ≠ sh → shutter (setShutter s sh v) k = shutter s k) ∧
      (setShutter s sh v).slots = s.slots ∧ (setShutter s sh v).motion.out = s.motion.out := fun v =>
    ⟨fun k hk => by rw [shutter_setShutter, if_neg hk], by cases sh <;> rfl, by cases sh <;> rfl⟩
  have hquiet : ∀ v, (∀ k, k ≠ sh → shutter (setShutter s sh v) k = shutter s k) ∧
      (setShutter s sh v).slots = s.slots ∧ (∀ c ∈ s.motion.out, c ∈ (setShutter s sh v).motion.out) := fun v => by
    obtain ⟨hk, hs, ho⟩ := hset v
    exact ⟨hk, hs, fun c hc => by rw [ho]; exact hc⟩
  have hsent : ∀ v c, (∀ k, k ≠ sh → shutter (send (setShutter s sh v) c) k = shutter s k) ∧
      (send (setShutter s sh v) c).slots = s.slots ∧
        (∀ d ∈ s.motion.out, d ∈ (send (setShutter s sh v) c).motion.out) := fun v c => by
    obtain ⟨hk, hs, ho⟩ := hset v
    refine ⟨fun k hks => Eq.trans (by cases k <;> rfl) (hk k hks), hs, fun d hd => List.mem_append_left _ ?_⟩
    rw [ho]
    exact hd
  unfold askShutter
  dsimp only
  split
  · exact hquiet _
  · exact hquiet _
  · exact hquiet _
  · exact hquiet _
  · split
    · exact hsent _ _
    · exact hquiet _
  · split
    · exact hsent _ _
    · exact hquiet _

theorem shutter_send (s : State) (c : MotionCmd) (k : ShutterId) : shutter (send s c) k = shutter s k := by
  cases k <;> rfl

theorem askShutter_asked (s : State) (sh : ShutterId) (p : ShutterPos) :
    (shutter (askShutter s sh p) sh).asked = some p := by
  unfold askShutter
  dsimp only
  split
  · rw [shutter_setShutter, if_pos rfl]
  · rw [shutter_setShutter, if_pos rfl]
  · rw [shutter_setShutter, if_pos rfl]
  · rw [shutter_setShutter, if_pos rfl]
  · split
    · rw [shutter_send, shutter_setShutter, if_pos rfl]
    · rw [shutter_setShutter, if_pos rfl]
  · split
    · rw [shutter_send, shutter_setShutter, if_pos rfl]
    · rw [shutter_setShutter, if_pos rfl]

/-- A shutter asked OPEN stands OPEN only if it did, and is sent OPEN with the power on unless it is OPEN or
opening already (R139). -/
theorem askShutter_opens (s : State) (sh : ShutterId) :
    ((shutter s sh).state ≠ .opened → (shutter (askShutter s sh .opened) sh).state ≠ .opened) ∧
      ((shutter s sh).state ∈ [.closed, .closing, .unknown] → s.motion.power = true →
        (shutter (askShutter s sh .opened) sh).state = .opening ∧
          .shutter sh .opened ∈ (askShutter s sh .opened).motion.out) := by
  unfold askShutter
  dsimp only
  split
  · rename_i hst
    rw [shutter_setShutter, if_pos rfl]
    simp [hst]
  · rename_i hst
    rw [shutter_setShutter, if_pos rfl]
    simp [hst]
  · rename_i hp _
    cases hp
  · rename_i hp _
    cases hp
  · cases hpow : s.motion.power with
    | true =>
      rw [if_pos rfl, shutter_send, shutter_setShutter, if_pos rfl]
      simp [send]
    | false =>
      rw [if_neg Bool.false_ne_true, shutter_setShutter, if_pos rfl]
      simp
  · rename_i hp _ _
    cases hp

/-! ### What is kept of a side -/

/-- A side keeps its FIRE cause and its shutter, and a FREE view; no command sent is taken back. -/
structure SideKept (sd : Side) (s t : State) : Prop where
  cause : (view t sd).fireClosed = (view s sd).fireClosed
  door : shutter t (sideShutter sd) = shutter s (sideShutter sd)
  out : ∀ c ∈ s.motion.out, c ∈ t.motion.out
  free : (view s sd).state = .free → (view t sd).state = .free

theorem SideKept.trans (h : SideKept sd s t) (g : SideKept sd t u) : SideKept sd s u :=
  ⟨g.cause.trans h.cause, g.door.trans h.door, fun c hc => g.out c (h.out c hc), fun hf => g.free (h.free hf)⟩

theorem shutter_of_motion (h : t.motion = s.motion) (k : ShutterId) : shutter t k = shutter s k := by
  unfold shutter
  rw [h]

/-- Work that leaves the motion port and the side's view leaves the side. -/
theorem sideKept_of_blocks (hm : t.motion = s.motion) (hv : view t sd = view s sd) : SideKept sd s t :=
  ⟨by rw [hv], shutter_of_motion hm _, fun c hc => by rw [hm]; exact hc, fun hf => by rw [hv]; exact hf⟩

theorem SideKept.refl (sd : Side) (s : State) : SideKept sd s s := sideKept_of_blocks rfl rfl

theorem sideKept_askShutter (s : State) {e : Side} (he : e ≠ sd) (p : ShutterPos) :
    SideKept sd s (askShutter s (sideShutter e) p) := by
  obtain ⟨hdoor, hslots, hout⟩ := askShutter_leaves s (sideShutter e) p
  have hv := view_of_slots hslots sd
  exact ⟨by rw [hv], hdoor _ (fun h => sideShutter_ne he h.symm), hout, fun hf => by rw [hv]; exact hf⟩

/-- Asking a side's own shutter leaves its view. -/
theorem view_askShutter (s : State) (sh : ShutterId) (p : ShutterPos) (sd : Side) :
    view (askShutter s sh p) sd = view s sd := view_of_slots (askShutter_leaves s sh p).2.1 sd

theorem sideKept_liftFireCause (s : State) {e : Side} (he : e ≠ sd) :
    SideKept sd s (setFireCause s false e) := by
  obtain ⟨l, hl⟩ := liftFireCause_eq s e
  rw [hl]
  exact sideKept_of_blocks (modView_motion s e _) (view_modView_ne s e (fun h => he h.symm) _)

/-- What lifting a side's own FIRE cause leaves of it. -/
theorem liftFireCause_own (s : State) (sd : Side) :
    (setFireCause s false sd).motion = s.motion ∧
      ((view s sd).state = .free → (view (setFireCause s false sd) sd).state = .free) := by
  obtain ⟨l, hl⟩ := liftFireCause_eq s sd
  rw [hl]
  refine ⟨modView_motion s sd _, fun hf => ?_⟩
  change (view (modView s sd _) sd).state = _
  rw [modView_view]
  exact hf

/-- In GUARD no transfer is held and no context STALLED, so a side may be closed without further ado. -/
def MayClose (s : State) : Prop := s.fire.node = .guarded → s.motion.held = none ∧ Unstalled s

/-- Following one side's zone leaves the other side. -/
theorem sideKept_guardSide (hc : MayClose s) {e : Side} (he : e ≠ sd) : SideKept sd s (guardSide s e) := by
  unfold guardSide
  split
  · rename_i hg
    obtain ⟨hheld, hun⟩ := hc hg.1
    have h1 : SideKept sd s (if (view s e).fireClosed then s else setFireCause s true e) := by
      split
      · exact SideKept.refl sd s
      · obtain ⟨hm, hcause, hfree⟩ := setFireCause_unstalled hun hheld true e
        exact ⟨by rw [hcause, if_neg (fun h => he h.symm)], shutter_of_motion hm _,
          fun c hc => by rw [hm]; exact hc, hfree sd⟩
    extract_lets u
    split
    · exact h1
    · exact h1.trans (sideKept_askShutter _ he _)
  · split
    · have h1 : SideKept sd s (if (shutter s (sideShutter e)).asked = some .opened then s
          else askShutter s (sideShutter e) .opened) := by
        split
        · exact SideKept.refl sd s
        · exact sideKept_askShutter s he _
      extract_lets u
      split
      · exact h1.trans (sideKept_liftFireCause _ he)
      · exact h1
    · exact SideKept.refl sd s

/-- Following a side's zone keeps its view FREE. -/
theorem guardSide_free (hc : MayClose s) (hf : (view s sd).state = .free) :
    (view (guardSide s sd) sd).state = .free := by
  unfold guardSide
  split
  · rename_i hg
    obtain ⟨hheld, hun⟩ := hc hg.1
    have h1 : (view (if (view s sd).fireClosed then s else setFireCause s true sd) sd).state = .free := by
      split
      · exact hf
      · exact (setFireCause_unstalled hun hheld true sd).2.2 sd hf
    extract_lets u
    split
    · exact h1
    · rw [view_askShutter]
      exact h1
  · split
    · have h1 : (view (if (shutter s (sideShutter sd)).asked = some .opened then s
          else askShutter s (sideShutter sd) .opened) sd).state = .free := by
        split
        · exact hf
        · rw [view_askShutter]
          exact hf
      extract_lets u
      split
      · exact (liftFireCause_own _ sd).2 h1
      · exact h1
    · exact hf

/-- In GUARD a side next to a zone afire carries the FIRE cause, its shutter asked CLOSE unless a transfer in flight
uses the slot (R153). -/
theorem guardSide_shuts (hg : s.fire.node = .guarded) (ha : sideAfire s sd = true) (hheld : s.motion.held = none)
    (hun : Unstalled s) : (view (guardSide s sd) sd).fireClosed = true ∧
      (slotInUse s sd = false → (shutter (guardSide s sd) (sideShutter sd)).asked = some .closed) := by
  have h1 : (view (if (view s sd).fireClosed then s else setFireCause s true sd) sd).fireClosed = true ∧
      slotInUse (if (view s sd).fireClosed then s else setFireCause s true sd) sd = slotInUse s sd := by
    split
    · rename_i hf
      exact ⟨hf, rfl⟩
    · obtain ⟨hm, hcause, _⟩ := setFireCause_unstalled hun hheld true sd
      exact ⟨by rw [hcause, if_pos rfl], by rw [slotInUse, hm, slotInUse]⟩
  obtain ⟨hcause, huse⟩ := h1
  rw [guardSide, if_pos ⟨hg, ha⟩]
  extract_lets u
  split
  · rename_i hor
    refine ⟨hcause, fun hno => hor.resolve_left (fun hin => ?_)⟩
    rw [huse, hno] at hin
    cases hin
  · exact ⟨by rw [view_askShutter]; exact hcause, fun _ => askShutter_asked _ _ _⟩

/-! ### Both sides -/

theorem sideAfire_of_lasting (h : lasting t = lasting s) (sd : Side) : sideAfire t sd = sideAfire s sd := by
  have hk := kept_of_lasting h
  simp only [kept, Prod.mk.injEq] at hk
  obtain ⟨_, _, _, _, hzones, _, _, _, _, _, _, _, hwest, heast⟩ := hk
  have hn : nbr t sd = nbr s sd := nbr_of_bus hwest heast sd
  have hz : zoneAfire t = zoneAfire s := funext fun z => by rw [zoneAfire, hzones, zoneAfire]
  rw [sideAfire, hn, hz, sideAfire]

theorem neighbourAfire_of_lasting (h : lasting t = lasting s) : neighbourAfire t = neighbourAfire s := by
  rw [neighbourAfire, sideAfire_of_lasting h, sideAfire_of_lasting h, neighbourAfire]

/-- Work that begins no step leaves the drive. -/
theorem Within.drive_eq {k : Scope} (w : Within k s t) (hs : ¬ k.steps) :
    t.motion.gantry = s.motion.gantry ∧ t.motion.xfer = s.motion.xfer ∧ t.motion.held = s.motion.held := by
  have hd := w.port.drive hs
  simp only [Motion.drive, Prod.mk.injEq] at hd
  obtain ⟨hg, hx, hh, _⟩ := hd
  exact ⟨hg, hx, hh⟩

theorem within_guardSide (hc : MayClose s) (sd : Side) : Within Scope.zones s (guardSide s sd) := by
  refine (Within.refl _ s).after_guardSide trivial sd ?_
  by_cases hg : s.fire.node = .guarded
  · exact Or.inl (hc hg).1
  · exact Or.inr (Or.inl hg)

theorem MayClose.within (hc : MayClose s) (w : Within Scope.zones s t) : MayClose t := fun hg => by
  obtain ⟨hheld, hun⟩ := hc (by rw [← w.fire]; exact hg)
  obtain ⟨_, _, hh⟩ := w.drive_eq (fun hf => hf)
  exact ⟨hh.trans hheld, w.unstalled (fun _ hf => hf) hun⟩

theorem within_guardSides (hc : MayClose s) : Within Scope.zones s (guardSides s) := by
  refine (Within.refl _ s).after_guardSides trivial ?_
  by_cases hg : s.fire.node = .guarded
  · exact Or.inl (hc hg).1
  · exact Or.inr (Or.inl hg)

theorem guardSides_eq (s : State) : guardSides s = guardSide (guardSide s .west) .east := rfl

theorem guardSides_free (hc : MayClose s) (hf : (view s sd).state = .free) :
    (view (guardSides s) sd).state = .free := by
  have hc' : MayClose (guardSide s .west) := hc.within (within_guardSide hc .west)
  rw [guardSides_eq]
  cases sd with
  | west => exact (sideKept_guardSide hc' (by decide)).free (guardSide_free hc hf)
  | east => exact guardSide_free hc' ((sideKept_guardSide hc (by decide)).free hf)

theorem guardSides_shuts (hg : s.fire.node = .guarded) (ha : sideAfire s sd = true) (hheld : s.motion.held = none)
    (hun : Unstalled s) : (view (guardSides s) sd).fireClosed = true ∧
      (slotInUse s sd = false → (shutter (guardSides s) (sideShutter sd)).asked = some .closed) := by
  have hc : MayClose s := fun _ => ⟨hheld, hun⟩
  have w := within_guardSide hc .west
  have hc' : MayClose (guardSide s .west) := hc.within w
  rw [guardSides_eq]
  cases sd with
  | west =>
    obtain ⟨hcause, hasked⟩ := guardSide_shuts hg ha hheld hun
    have k := sideKept_guardSide (sd := .west) hc' (e := .east) (by decide)
    exact ⟨k.cause.trans hcause, fun hno => by rw [k.door]; exact hasked hno⟩
  | east =>
    have hg' : (guardSide s .west).fire.node = .guarded := by rw [w.fire]; exact hg
    obtain ⟨hheld', hun'⟩ := hc' hg'
    obtain ⟨_, hx, _⟩ := w.drive_eq (fun hf => hf)
    have huse : slotInUse (guardSide s .west) .east = slotInUse s .east := by rw [slotInUse, hx, slotInUse]
    obtain ⟨hcause, hasked⟩ := guardSide_shuts hg' (by rw [sideAfire_of_lasting w.lasts]; exact ha) hheld' hun'
    exact ⟨hcause, fun hno => hasked (by rw [huse]; exact hno)⟩

/-! ### A side at the end of an event -/

theorem flushWoken_blocks (s : State) : (flushWoken s).motion = s.motion ∧ (flushWoken s).slots = s.slots := by
  have hfold : ∀ (l : List Nat) (t : State), (l.foldl toTail t).motion = t.motion ∧
      (l.foldl toTail t).slots = t.slots := by
    intro l
    induction l with
    | nil => exact fun _ => ⟨rfl, rfl⟩
    | cons a as ih => exact fun t => ih (toTail t a)
  exact hfold _ _

theorem sideKept_flushWoken (s : State) (sd : Side) : SideKept sd s (flushWoken s) := by
  obtain ⟨hm, hs⟩ := flushWoken_blocks s
  exact sideKept_of_blocks hm (view_of_slots hs sd)

theorem FramesOf.sideKept {e : Side} (h : FramesOf e s t) (sd : Side) : SideKept sd s t := by
  by_cases he : sd = e
  · subst he
    exact ⟨h.cause, shutter_of_motion h.motion _, fun c hc => by rw [h.motion]; exact hc,
      fun hf => h.state.trans hf⟩
  · exact sideKept_of_blocks h.motion (h.others sd he)

theorem sideKept_resendAll (s : State) (sd : Side) : SideKept sd s (sides.foldl resendLoaded s) :=
  ((framesOf_resendLoaded s .west).sideKept sd).trans ((framesOf_resendLoaded _ .east).sideKept sd)

theorem sideKept_launch (s : State) (x : Xfer) (sd : Side) : SideKept sd s (launch s x) :=
  ⟨rfl, by cases sd <;> rfl, fun _ hc => List.mem_append_left _ hc, fun hf => hf⟩

theorem sideKept_commandPutAway (s : State) (sd : Side) : SideKept sd s (commandPutAway s) := by
  unfold commandPutAway
  split
  · exact SideKept.refl sd s
  · split
    · split
      · exact SideKept.refl sd s
      · exact sideKept_launch s _ sd
    · exact SideKept.refl sd s

theorem sideKept_releaseHeld (s : State) (sd : Side) : SideKept sd s (releaseHeld s) := by
  unfold releaseHeld
  split
  · exact SideKept.refl sd s
  · split
    · exact sideKept_launch s _ sd
    · split
      · exact SideKept.refl sd s
      · exact sideKept_launch s _ sd

theorem sideKept_moveOverflow (s : State) (sd : Side) : SideKept sd s (moveOverflow s) := by
  obtain ⟨a, o, hm⟩ := moveOverflow_eq s
  rw [hm]
  exact sideKept_of_blocks rfl rfl

theorem sideKept_endEvent (was s : State) (sd : Side) : SideKept sd s (endEvent was s) := by
  obtain ⟨b, hb, _⟩ := reportChange_keeps was s
  have h0 : SideKept sd s ((s.withBus b).withSched { (s.withBus b).sched with stepEnded := none }) :=
    sideKept_of_blocks rfl rfl
  rw [endEvent, hb, commit]
  dsimp only
  split
  · exact h0.trans (sideKept_releaseHeld _ sd)
  · exact h0.trans (sideKept_of_blocks rfl rfl)

end Sys2Proof.Machine
end

section
/-! PROOFS. The entry into GUARD on a FIRE beside the zone (R49, R153). -/

namespace Sys2Proof.Machine

open Sys2Proof

-- In turn, so that the proofs do not hold more threads at once than the memory limit has stacks for.
set_option Elab.async false

variable {s t u : State} {h : Header} {sd : Side}

/-! ### Hearing the sender of a frame, whether or not it lifts an overlay -/

/-- What the owner of a frame finds of `s` once its sender has been heard: the neighbour entries, the counters and
the scheduler's marks may differ. -/
structure HeardAs (s u : State) : Prop where
  fire : u.fire = s.fire
  motion : u.motion = (clearOut s).motion
  slots : u.slots = s.slots
  det : u.det = s.det
  setup : u.setup = s.setup
  board : u.board = s.board
  ctxs : u.sched.ctxs = s.sched.ctxs
  near : ∀ sd, (nbr u sd).role = (nbr s sd).role ∧ (nbr u sd).zone = (nbr s sd).zone

/-- Hearing a station closes no side. -/
theorem sideClosed_heardEntry (s : State) (sd : Side)
    (hc : sideClosed (modNbr s sd heardEntry) sd = true) : sideClosed s sd = true := by
  have hn : nbr (modNbr s sd heardEntry) sd = heardEntry (nbr s sd) := by cases sd <;> rfl
  have hv : view (modNbr s sd heardEntry) sd = view s sd := by cases sd <;> rfl
  simp only [sideClosed, notBay, absent, hn, hv, heardEntry, decide_eq_true_eq] at hc ⊢
  tauto

theorem hear_marks (s : State) (st : Station) : ∃ w e k, hear s st =
    (s.withBus { s.bus with nbWest := w, nbEast := e }).withSched { s.sched with woken := k } ∧
      (w.role = s.bus.nbWest.role ∧ w.zone = s.bus.nbWest.zone) ∧
      (e.role = s.bus.nbEast.role ∧ e.zone = s.bus.nbEast.zone) := by
  unfold hear
  split
  · exact ⟨s.bus.nbWest, s.bus.nbEast, s.sched.woken, rfl, ⟨rfl, rfl⟩, ⟨rfl, rfl⟩⟩
  · rename_i sd _
    have hmark : ∃ k, changeOverlay sd (fun t => modNbr t sd heardEntry) s =
        (modNbr s sd heardEntry).withSched { s.sched with woken := k } := by
      have hplain : modNbr s sd heardEntry =
          (modNbr s sd heardEntry).withSched { s.sched with woken := s.sched.woken } := by cases sd <;> rfl
      unfold changeOverlay
      dsimp only
      split
      · split
        · exact ⟨_, hplain⟩
        · obtain ⟨k, hk⟩ := overlayLifted_marks (modNbr s sd heardEntry) sd
          exact ⟨k, hk.trans (by cases sd <;> rfl)⟩
      · rename_i hopen
        rw [if_neg (fun hc => hopen (sideClosed_heardEntry s sd hc))]
        exact ⟨_, hplain⟩
    obtain ⟨k, hk⟩ := hmark
    rw [hk]
    cases sd
    · exact ⟨heardEntry s.bus.nbWest, s.bus.nbEast, k, rfl, ⟨rfl, rfl⟩, ⟨rfl, rfl⟩⟩
    · exact ⟨s.bus.nbWest, heardEntry s.bus.nbEast, k, rfl, ⟨rfl, rfl⟩, ⟨rfl, rfl⟩⟩

theorem heard_as (s : State) (h : Header) : HeardAs s (heard s h) := by
  obtain ⟨w, e, k, heq, hw, he⟩ := hear_marks (clearOut s) h.src
  rw [heard, heq]
  refine ⟨rfl, rfl, rfl, rfl, rfl, rfl, rfl, fun sd => ?_⟩
  cases sd
  · exact hw
  · exact he

/-- A frame of the fire controller is taken by a node strapped to station 0 too. -/
theorem receiveFire_eq (ha : accepts s h = true) (body : State → State) :
    receiveFire h body s = fullEvent (fun _ => body (heard s h)) s := by
  have ha' : accepts (clearOut s) h = true := ha
  have ht : takeFrame h true body (clearOut s) = body (heard s h) := by
    simp only [takeFrame, ha', or_true, if_true, heard]
  rw [receiveFire, fullEvent, ht, fullEvent]

/-- A side's neighbour zone is afire exactly if the zones afire burn beside it. -/
theorem sideAfire_iff (hr : (nbr u sd).role = (nbr s sd).role) (hz : (nbr u sd).zone = (nbr s sd).zone) :
    sideAfire u sd = true ↔ BurnsBeside s u.fire.zones sd := by
  unfold sideAfire BurnsBeside
  rw [hr, hz]
  simp [Option.any_eq_true, zoneAfire]

theorem bayGrade_congr (hd : u.det = s.det) (hs : u.setup = s.setup) : bayGrade u = bayGrade s := by
  have hf : fittedInputs u = fittedInputs s := by rw [fittedInputs, hd, hs, fittedInputs]
  rw [bayGrade, hf, bayGrade]

/-! ### Contexts paused and bids withdrawn -/

/-- A change of many contexts, each by itself, once or more. -/
theorem ctxOf_foldl {f : State → Nat → State} {g : Ctx → Ctx} (hg : ∀ c, g (g c) = g c)
    (hf : ∀ s n, (f s n).sched.ctxs = s.sched.ctxs.set n (g (ctxOf s n))) (l : List Nat) (s : State)
    (hl : ∀ n ∈ l, n < s.sched.ctxs.length) (m : Nat) :
    ctxOf (l.foldl f s) m = if m ∈ l then g (ctxOf s m) else ctxOf s m := by
  induction l generalizing s with
  | nil => rfl
  | cons a l ih =>
    have hone : ctxOf (f s a) m = if m = a then g (ctxOf s m) else ctxOf s m := by
      rw [ctxOf, hf]
      refine (ctxOf_setCtx s a m _).trans ?_
      by_cases hm : m = a
      · rw [if_pos ⟨hm, hl a List.mem_cons_self⟩, if_pos hm, hm]
      · rw [if_neg (fun h => hm h.1), if_neg hm]
    rw [List.foldl_cons, ih (f s a) (fun n hn => by
      rw [hf, List.length_set]
      exact hl n (List.mem_cons_of_mem a hn)), hone]
    by_cases hm : m = a
    · simp [hm, hg]
    · simp [hm]

/-- A paused context. -/
def pausedCtx (c : Ctx) : Ctx := { c with state := .paused, wait := none }

theorem mem_ctxNumbers_filter {p : Nat → Bool} (hlen : s.sched.ctxs.length = 16) :
    ∀ n ∈ ctxNumbers.filter p, n < s.sched.ctxs.length := fun n hn => by
  rw [hlen]
  exact List.mem_range.mp (List.mem_filter.mp hn).1

theorem ctxOf_pauseIn (hlen : s.sched.ctxs.length = 16) (p : CtxState → Bool) {n : Nat} (hn : n ∈ ctxNumbers) :
    ctxOf (pauseIn s p) n = if p (ctxOf s n).state then pausedCtx (ctxOf s n) else ctxOf s n := by
  have h := ctxOf_foldl (f := pauseCtx) (g := pausedCtx) (fun _ => rfl) (fun _ _ => rfl)
    (ctxNumbers.filter (fun n => p (ctxOf s n).state)) s (mem_ctxNumbers_filter hlen) n
  refine h.trans ?_
  simp [List.mem_filter, hn]

theorem withdrawBid_ctxs (s : State) (n : Nat) : (withdrawBid s n).sched.ctxs = s.sched.ctxs.set n Ctx.blank := by
  have h1 : ∃ s1 : State, withdrawBid s n = awayFreed (setCtx s1 n Ctx.blank) ∧ s1.sched = s.sched := by
    unfold withdrawBid
    dsimp only
    split
    · exact ⟨s, rfl, rfl⟩
    · exact ⟨_, rfl, withdrawTx_sched s _⟩
  obtain ⟨s1, hw, hs⟩ := h1
  have hmove : (moveOverflow (setCtx s1 n Ctx.blank)).sched.ctxs = s.sched.ctxs.set n Ctx.blank := by
    rw [moveOverflow_sched, ← hs]
    rfl
  rw [hw]
  unfold awayFreed
  split
  · exact hmove
  · exact hmove

theorem ctxOf_withdrawAllBids (hlen : s.sched.ctxs.length = 16) {n : Nat} (hn : n ∈ ctxNumbers) :
    ctxOf (withdrawAllBids s) n = if (ctxOf s n).state = .bidding then Ctx.blank else ctxOf s n := by
  have h := ctxOf_foldl (f := withdrawBid) (g := fun _ => Ctx.blank) (fun _ => rfl) withdrawBid_ctxs
    (ctxNumbers.filter (fun n => (ctxOf s n).state = .bidding)) s (mem_ctxNumbers_filter hlen) n
  refine h.trans ?_
  simp [List.mem_filter, hn]

/-- With the node set to GUARD, the contexts that wait for the gantry are PAUSED and the bids withdrawn. -/
def guardPaused (s : State) : State := withdrawAllBids (pauseIn (setNode s .guarded) CtxState.waitsGantry)

theorem foldl_keeps {α β : Type} {f : State → α → State} (g : State → β) (hf : ∀ s a, g (f s a) = g s)
    (l : List α) (s : State) : g (l.foldl f s) = g s := by
  induction l generalizing s with
  | nil => rfl
  | cons a l ih => exact (ih (f s a)).trans (hf s a)

theorem withdrawBid_blocks (s : State) (n : Nat) : (withdrawBid s n).motion = s.motion ∧
    (withdrawBid s n).slots = s.slots ∧ (withdrawBid s n).fire = s.fire := by
  have h1 : ∃ b, withdrawBid s n = awayFreed (setCtx (s.withBus b) n Ctx.blank) := by
    unfold withdrawBid
    dsimp only
    split
    · exact ⟨s.bus, rfl⟩
    · rename_i f _
      obtain ⟨x, hx, _⟩ := withdrawTx_eq s f.seq
      rw [hx]
      exact ⟨_, rfl⟩
  obtain ⟨b, hb⟩ := h1
  obtain ⟨a, o, hm⟩ := moveOverflow_eq (setCtx (s.withBus b) n Ctx.blank)
  rw [hb, awayFreed, hm]
  split
  · exact ⟨rfl, rfl, rfl⟩
  · exact ⟨rfl, rfl, rfl⟩

theorem guardPaused_blocks (s : State) : (guardPaused s).motion = s.motion ∧ (guardPaused s).slots = s.slots ∧
    (guardPaused s).fire = { s.fire with node := .guarded } := by
  have hp : ∀ p t, (pauseIn t p).motion = t.motion ∧ (pauseIn t p).slots = t.slots ∧ (pauseIn t p).fire = t.fire :=
    fun p t => ⟨foldl_keeps (f := pauseCtx) State.motion (fun _ _ => rfl) _ t,
      foldl_keeps (f := pauseCtx) State.slots (fun _ _ => rfl) _ t,
      foldl_keeps (f := pauseCtx) State.fire (fun _ _ => rfl) _ t⟩
  have hw : ∀ t, (withdrawAllBids t).motion = t.motion ∧ (withdrawAllBids t).slots = t.slots ∧
      (withdrawAllBids t).fire = t.fire := fun t =>
    ⟨foldl_keeps State.motion (fun u n => (withdrawBid_blocks u n).1) _ t,
      foldl_keeps State.slots (fun u n => (withdrawBid_blocks u n).2.1) _ t,
      foldl_keeps State.fire (fun u n => (withdrawBid_blocks u n).2.2) _ t⟩
  obtain ⟨pm, ps, pf⟩ := hp CtxState.waitsGantry (setNode s .guarded)
  obtain ⟨wm, ws, wf⟩ := hw (pauseIn (setNode s .guarded) CtxState.waitsGantry)
  exact ⟨wm.trans pm, ws.trans ps, wf.trans pf⟩

theorem lasting_guardPaused (s : State) : lasting (guardPaused s) = lasting s := by simp [guardPaused]

/-- A context as the entry into GUARD leaves it (R49, R86). -/
def guardedCtx (c : Ctx) : Ctx :=
  if c.state.waitsGantry then pausedCtx c else if c.state = .bidding then Ctx.blank else c

theorem ctxOf_guardPaused (hlen : s.sched.ctxs.length = 16) {n : Nat} (hn : n ∈ ctxNumbers) :
    ctxOf (guardPaused s) n = guardedCtx (ctxOf s n) := by
  have hp := ctxOf_pauseIn (s := setNode s .guarded) hlen CtxState.waitsGantry hn
  have hlen' : (pauseIn (setNode s .guarded) CtxState.waitsGantry).sched.ctxs.length = 16 :=
    (foldl_keeps (fun t : State => t.sched.ctxs.length) (fun _ _ => List.length_set) _ _).trans hlen
  have hset : ctxOf (setNode s .guarded) n = ctxOf s n := rfl
  rw [guardPaused, ctxOf_withdrawAllBids hlen' hn, hp, hset, guardedCtx]
  by_cases hw : (ctxOf s n).state.waitsGantry = true
  · simp [hw, pausedCtx]
  · simp [hw]

theorem ctxOf_beyond (hlen : s.sched.ctxs.length = 16) {n : Nat} (hn : n ∉ ctxNumbers) : ctxOf s n = Ctx.blank := by
  rw [ctxOf, List.getD_eq_getElem?_getD, List.getElem?_eq_none, Option.getD_none]
  rw [hlen]
  exact Nat.le_of_not_lt (fun h => hn (List.mem_range.mpr h))

theorem guardPaused_length (hlen : s.sched.ctxs.length = 16) : (guardPaused s).sched.ctxs.length = 16 := by
  refine (foldl_keeps (fun t : State => t.sched.ctxs.length) (fun t n => ?_) _ _).trans
    ((foldl_keeps (fun t : State => t.sched.ctxs.length) (fun _ _ => List.length_set) _ _).trans hlen)
  rw [withdrawBid_ctxs, List.length_set]

theorem guardPaused_unstalled (hlen : s.sched.ctxs.length = 16) : Unstalled (guardPaused s) := fun n => by
  by_cases hn : n ∈ ctxNumbers
  · rw [ctxOf_guardPaused hlen hn]
    cases hst : (ctxOf s n).state <;> simp [guardedCtx, hst, CtxState.waitsGantry, pausedCtx, Ctx.blank]
  · rw [ctxOf_beyond (guardPaused_length hlen) hn]
    exact CtxState.noConfusion

/-! ### The entry into GUARD -/

/-- With no transfer held, the entry into GUARD withdraws the claims and closes the sides after the pause. -/
theorem enterGuard_eq (hheld : s.motion.held = none) :
    enterGuard s = guardSides (withdrawClaim (withdrawClaim (guardPaused s) .west) .east) := by
  have hp : (pauseIn (setNode s .guarded) CtxState.waitsGantry).motion = s.motion :=
    foldl_keeps (f := pauseCtx) State.motion (fun _ _ => rfl) _ _
  have h : pauseHeld (pauseIn (setNode s .guarded) CtxState.waitsGantry) =
      pauseIn (setNode s .guarded) CtxState.waitsGantry := by
    rw [pauseHeld, hp, hheld]
    rfl
  rw [enterGuard, h]
  rfl

/-- What a node that has entered GUARD keeps of the state it entered it from. -/
structure InGuard (s t : State) : Prop where
  node : t.fire.node = .guarded
  held : t.motion.held = none
  xfer : t.motion.xfer = s.motion.xfer
  unstalled : Unstalled t
  lasts : lasting t = lasting s
  ctx : ∀ n ∈ ctxNumbers, ctxOf t n = guardedCtx (ctxOf s n)
  claims : ∀ sd, claimPending s sd = true → (view t sd).state = .free

theorem InGuard.within (h : InGuard s t) (w : Within Scope.zones t u)
    (hfree : ∀ sd, (view t sd).state = .free → (view u sd).state = .free) : InGuard s u := by
  obtain ⟨_, hx, hh⟩ := w.drive_eq (fun hf => hf)
  exact ⟨by rw [w.fire]; exact h.node, hh.trans h.held, hx.trans h.xfer, w.unstalled (fun _ hf => hf) h.unstalled,
    w.lasts.trans h.lasts,
    fun n hn => (w.sched.others n (fun hf => hf) (h.unstalled n) (fun hf => hf.elim)).trans (h.ctx n hn),
    fun sd hc => hfree sd (h.claims sd hc)⟩

theorem claimPending_of_view {s t : State} (hv : view t sd = view s sd) : claimPending t sd = claimPending s sd := by
  rw [claimPending, hv, claimPending]

theorem inGuard_enterGuard (hlen : s.sched.ctxs.length = 16) (hheld : s.motion.held = none) :
    InGuard s (enterGuard s) := by
  let p := guardPaused s
  obtain ⟨pm, ps, pf⟩ := guardPaused_blocks s
  have pu : Unstalled p := guardPaused_unstalled hlen
  have hw := withdrawClaim_unstalled pu .west
  let a := withdrawClaim p .west
  have au : Unstalled a := pu.of_ctxs hw.ctxs
  have he := withdrawClaim_unstalled au .east
  let b := withdrawClaim a .east
  have wb : Within Scope.zones p b := ((Within.refl _ p).after_withdrawClaim .west).after_withdrawClaim .east
  have hpv : ∀ sd, claimPending p sd = claimPending s sd := fun sd => claimPending_of_view (view_of_slots ps sd)
  have hclaims : ∀ sd, claimPending s sd = true → (view b sd).state = .free := by
    intro sd hc
    rw [← hpv] at hc
    cases sd with
    | west =>
      rw [he.others .west (by decide)]
      exact hw.claim hc
    | east => exact he.claim (by rw [claimPending_of_view (hw.others .east (by decide))]; exact hc)
  have hb : InGuard s b := by
    obtain ⟨_, hx, hh⟩ := wb.drive_eq (fun hf => hf)
    refine ⟨by rw [wb.fire, pf], hh.trans (by rw [pm]; exact hheld), hx.trans (by rw [pm]),
      wb.unstalled (fun _ hf => hf) pu, wb.lasts.trans (lasting_guardPaused s), fun n hn => ?_, hclaims⟩
    exact (wb.sched.others n (fun hf => hf) (pu n) (fun hf => hf.elim)).trans (ctxOf_guardPaused hlen hn)
  rw [enterGuard_eq hheld]
  have hc : MayClose b := fun _ => ⟨hb.held, hb.unstalled⟩
  exact hb.within (within_guardSides hc) (fun sd hf => guardSides_free hc hf)

/-! ### The end of an event in GUARD -/

/-- In GUARD with no transfer held and no context STALLED, an event's end leaves the contexts and the FREE views,
and closes the sides next to a zone afire. -/
theorem fullEvent_inGuard {body : State → State} {v : State} (hb : body (clearOut s) = v)
    (hnode : v.fire.node = .guarded) (hheld : v.motion.held = none) (hun : Unstalled v) :
    (fullEvent body s).fire.node = .guarded ∧ (∀ n, ctxOf (fullEvent body s) n = ctxOf v n) ∧ ∀ sd,
      (sideAfire v sd = true → (view (fullEvent body s) sd).fireClosed = true ∧
        (slotInUse v sd = false → (shutter (fullEvent body s) (sideShutter sd)).asked = some .closed)) ∧
      ((view v sd).state = .free → (view (fullEvent body s) sd).state = .free) := by
  let m := moveOverflow v
  have mm : m.motion = v.motion := moveOverflow_motion v
  have mf : m.fire = v.fire := moveOverflow_fire v
  have mn : m.fire.node = .guarded := by rw [mf]; exact hnode
  have mh : m.motion.held = none := by rw [mm]; exact hheld
  have mu : Unstalled m := hun.of_ctxs (by rw [moveOverflow_sched])
  have hc : MayClose m := fun _ => ⟨mh, mu⟩
  let g := guardSides m
  have wg : Within Scope.zones m g := within_guardSides hc
  obtain ⟨o, ho⟩ := commandPutAway_eq g
  have hsettle : settle v = sides.foldl resendLoaded (flushWoken (commandPutAway g)) := by
    rw [settle_eq v (by simp [hnode]) (by simp [hnode]), runSchedule_idle (Or.inl (by
      rw [ho]
      exact wg.fire.symm ▸ mn))]
  have hfire : (fullEvent body s).fire.node = .guarded := by
    have hs : (settle v).fire = g.fire := by
      rw [hsettle]
      exact ((((Within.refl Scope.closing g).after_commandPutAway trivial).after_flushWoken).after_resendAll
        trivial).fire
    rw [fullEvent, hb, (endEvent_blocks _ _).fire, hs, wg.fire]
    exact mn
  have hkept : ∀ sd, SideKept sd g (fullEvent body s) := fun sd => by
    rw [fullEvent, hb, hsettle]
    exact (((sideKept_commandPutAway g sd).trans (sideKept_flushWoken _ sd)).trans
      (sideKept_resendAll _ sd)).trans (sideKept_endEvent _ _ sd)
  have hun' := fullEvent_guarded hb hnode hheld
  refine ⟨hfire, fun n => hun'.ctx n (hun n), fun sd => ⟨fun ha => ?_, fun hf => ?_⟩⟩
  · have hma : sideAfire m sd = true := by
      rw [sideAfire_of_lasting (lasting_moveOverflow v)]
      exact ha
    obtain ⟨hcause, hasked⟩ := guardSides_shuts mn hma mh mu
    refine ⟨(hkept sd).cause.trans hcause, fun hno => ?_⟩
    rw [(hkept sd).door]
    exact hasked (by rw [slotInUse, mm]; exact hno)
  · exact (hkept sd).free (guardSides_free hc ((sideKept_moveOverflow v sd).free hf))

/-! ### A FIRE beside the zone -/

/-- The zones afire set anew on what the owner of a frame finds. -/
def rezoned (s : State) (h : Header) (z : ZoneSet) : State :=
  (heard s h).withFire { (heard s h).fire with zones := z }

theorem ctxOf_rezoned (z : ZoneSet) (n : Nat) : ctxOf (rezoned s h z) n = ctxOf s n := by
  rw [ctxOf, show (rezoned s h z).sched.ctxs = s.sched.ctxs from (heard_as s h).ctxs, ctxOf]

theorem view_rezoned (z : ZoneSet) (sd : Side) : view (rezoned s h z) sd = view s sd :=
  view_of_slots (heard_as s h).slots sd

/-- What the state decision reads of a node whose zones afire are set anew (R152). -/
theorem rezoned_decides (s : State) (h : Header) (z : ZoneSet) :
    (rezoned s h z).fire.node = s.fire.node ∧
      zoneAfire (rezoned s h z) (rezoned s h z).board.zone = z.getLsbD s.board.zone.toNat ∧
      bayGrade (rezoned s h z) = bayGrade s ∧
      ∀ sd, sideAfire (rezoned s h z) sd = true ↔ BurnsBeside s z sd := by
  have ha := heard_as s h
  refine ⟨?_, ?_, ?_, fun sd => ?_⟩
  · change (heard s h).fire.node = _
    rw [ha.fire]
  · change z.getLsbD (heard s h).board.zone.toNat = _
    rw [ha.board]
  · exact bayGrade_congr ha.det ha.setup
  · obtain ⟨hr, hz⟩ := ha.near sd
    exact sideAfire_iff (u := rezoned s h z) hr hz

theorem neighbourAfire_iff (s : State) : neighbourAfire s = true ↔ ∃ sd, sideAfire s sd = true := by
  simp only [neighbourAfire, decide_eq_true_iff]
  exact ⟨fun h => h.elim (fun hw => ⟨.west, hw⟩) (fun he => ⟨.east, he⟩),
    fun ⟨sd, hs⟩ => by cases sd; exacts [Or.inl hs, Or.inr hs]⟩

/-- A neighbour zone afire, the own zone not, brings a node in RUN to GUARD (R152). -/
theorem decideState_guards (hnode : s.fire.node = .run) (hzone : zoneAfire s s.board.zone = false)
    (hgrade : bayGrade s ≠ .alarm) (ha : neighbourAfire s = true) : decideState s = enterGuard s := by
  rw [decideState, if_neg, if_pos ⟨hnode, ha⟩]
  rintro ⟨_, hz | hg⟩
  · rw [hzone] at hz
    cases hz
  · exact hgrade hg

theorem fire_guards {z : ZoneSet} (hacc : accepts s h = true) (hts : TablesSized s) (hnode : s.fire.node = .run)
    (hheld : s.motion.held = none) (hgrade : bayGrade s ≠ .alarm)
    (hzone : (s.fire.zones ||| z).getLsbD s.board.zone.toNat = false)
    (hburn : ∃ sd, BurnsBeside s (s.fire.zones ||| z) sd) :
    ∃ t, exec (.fire h z) s = .next t ∧ t.fire.node = .guarded ∧
      (∀ n ∈ ctxNumbers,
        ((ctxOf s n).state = .ready ∨ (ctxOf s n).state = .stalled →
          ctxOf t n = { ctxOf s n with state := .paused, wait := none }) ∧
        ((ctxOf s n).state = .active → (ctxOf t n).state = .active) ∧
        ((ctxOf s n).state = .bidding → ctxOf t n = Ctx.blank)) ∧
      (∀ sd ∈ sides, BurnsBeside s (s.fire.zones ||| z) sd →
        (view t sd).fireClosed = true ∧
        (slotInUse s sd = false → (shutter t (sideShutter sd)).asked = some .closed)) ∧
      ∀ sd ∈ sides, claimPending s sd = true → (view t sd).state = .free := by
  obtain ⟨_, hlen, _⟩ := hts
  have hh := heard_as s h
  let u := rezoned s h (s.fire.zones ||| z)
  obtain ⟨un, uz, ug, ua⟩ := rezoned_decides s h (s.fire.zones ||| z)
  have hbody : addZones (heard s h) z = enterGuard u := by
    have hu : addZones (heard s h) z = decideState u := by
      simp only [addZones, u, rezoned, hh.fire]
    rw [hu]
    refine decideState_guards (un.trans hnode) (uz.trans hzone) (by rw [ug]; exact hgrade) ?_
    obtain ⟨sd, hsd⟩ := hburn
    exact (neighbourAfire_iff _).mpr ⟨sd, (ua sd).mpr hsd⟩
  have umotion : u.motion = (clearOut s).motion := hh.motion
  have uctxs : u.sched.ctxs = s.sched.ctxs := hh.ctxs
  have g : InGuard u (enterGuard u) :=
    inGuard_enterGuard (by rw [uctxs]; exact hlen) (by rw [umotion]; exact hheld)
  obtain ⟨tn, tc, tv⟩ := fullEvent_inGuard (body := fun _ => addZones (heard s h) z) (s := s) hbody g.node g.held
    g.unstalled
  have hctx : ∀ n ∈ ctxNumbers, ctxOf (receiveFire h (fun t => addZones t z) s) n = guardedCtx (ctxOf s n) :=
    fun n hn => by rw [receiveFire_eq hacc, tc n, g.ctx n hn, ctxOf_rezoned]
  rw [← receiveFire_eq hacc (fun t => addZones t z)] at tn tv
  refine ⟨_, rfl, tn, fun n hn => ⟨fun hst => ?_, fun hst => ?_, fun hst => ?_⟩, fun sd _ hb => ?_, fun sd _ hc => ?_⟩
  · rw [hctx n hn, guardedCtx, if_pos]
    · rfl
    · rcases hst with hst | hst <;> rw [hst] <;> rfl
  · rw [hctx n hn]
    simp [guardedCtx, CtxState.waitsGantry, hst]
  · rw [hctx n hn]
    simp [guardedCtx, CtxState.waitsGantry, hst]
  · have hafire : sideAfire (enterGuard u) sd = true := by
      rw [sideAfire_of_lasting g.lasts]
      exact (ua sd).mpr hb
    have huse : slotInUse (enterGuard u) sd = slotInUse s sd := by
      rw [slotInUse, g.xfer, umotion]
      rfl
    rw [← huse]
    exact (tv sd).1 hafire
  · exact (tv sd).2 (g.claims sd (by rw [claimPending_of_view (view_rezoned _ sd)]; exact hc))

end Sys2Proof.Machine
end

section
/-! PROOFS. The return from GUARD to RUN on a FIRE CLEAR (R50, R153), and the end of RESUMING (R159). The bay in
GUARD (O60). -/

namespace Sys2Proof.Machine

open Sys2Proof

-- In turn, so that the proofs do not hold more threads at once than the memory limit has stacks for.
set_option Elab.async false

variable {s t u v : State} {h : Header} {sd : Side} {n : Nat}

/-! ### Grades cleared -/

theorem foldl_maxGrade_normal (l : List Grade) (h : ∀ g ∈ l, g = .normal) : l.foldl maxGrade .normal = .normal := by
  induction l with
  | nil => rfl
  | cons g l ih =>
    rw [List.foldl_cons, h g List.mem_cons_self]
    exact ih (fun k hk => h k (List.mem_cons_of_mem g hk))

theorem fittedInputs_clearGrades (s : State) : ∀ i ∈ fittedInputs (clearGrades s), i.grade = .normal := by
  intro i hi
  obtain ⟨p, hp, rfl⟩ := List.mem_map.mp hi
  obtain ⟨hdet, _⟩ := List.of_mem_zip (List.mem_filter.mp hp).1
  obtain ⟨j, _, hj⟩ := List.mem_map.mp hdet
  rw [← hj]
  rfl

/-- With every input NORMAL the bay grade is below WARN (R144, R146). -/
theorem bayGrade_clearGrades (s : State) :
    bayGrade (clearGrades s) = .normal ∨ bayGrade (clearGrades s) = .watch := by
  unfold bayGrade
  split
  · exact Or.inl rfl
  · split
    · exact Or.inr rfl
    · refine Or.inl (foldl_maxGrade_normal _ (fun g hg => ?_))
      obtain ⟨i, hi, rfl⟩ := List.mem_map.mp hg
      exact fittedInputs_clearGrades s i (List.mem_filter.mp hi).1

/-! ### The state decision -/

theorem neighbourAfire_false (h : ∀ sd, sideAfire s sd = false) : neighbourAfire s = false := by
  simp [neighbourAfire, h]

/-- With the own zone and every neighbour zone out, GUARD is left for RUN (R152). -/
theorem decideState_leaves (hnode : s.fire.node = .guarded) (hzone : zoneAfire s s.board.zone = false)
    (hgrade : bayGrade s ≠ .alarm) (ha : neighbourAfire s = false) : decideState s = leaveGuard s := by
  rw [decideState, if_neg, if_neg, if_pos ⟨hnode, ha⟩]
  · rw [hnode]
    exact fun hr => NodeState.noConfusion hr.1
  · rintro ⟨_, hz | hg⟩
    · rw [hzone] at hz
      cases hz
    · exact hgrade hg

/-- A node in RUN with no zone near it afire stays. -/
theorem decideState_stays (hnode : s.fire.node = .run) (hzone : zoneAfire s s.board.zone = false)
    (hgrade : bayGrade s ≠ .alarm) (ha : neighbourAfire s = false) : decideState s = s := by
  rw [decideState, if_neg, if_neg, if_neg]
  · rw [hnode]
    exact fun hr => NodeState.noConfusion hr.1
  · rw [ha]
    exact fun hr => Bool.false_ne_true hr.2
  · rintro ⟨_, hz | hg⟩
    · rw [hzone] at hz
      cases hz
    · exact hgrade hg

/-! ### The return to RUN -/

/-- The state GUARD is left with, before the pause is released: the sides closed for fire asked OPEN. -/
def sidesReopened (s : State) : State := guardSides (sides.foldl reopenSide (setNode s .run))

theorem within_reopenSides (s : State) : Within Scope.zones s (sides.foldl reopenSide s) :=
  (Within.refl _ s).foldl _ _ (fun t sd _ ht => by
    unfold reopenSide
    split
    · exact ht.after_askShutter _ _
    · exact ht)

theorem mayClose_run (hnode : s.fire.node = .run) : MayClose s := fun hg => by
  rw [hnode] at hg
  cases hg

theorem within_sidesReopened (s : State) : Within Scope.zones (setNode s .run) (sidesReopened s) := by
  have w := within_reopenSides (setNode s .run)
  refine w.after_guardSides trivial (Or.inr (Or.inl ?_))
  rw [w.fire]
  exact NodeState.noConfusion

/-- A side's shutter asked OPEN: it stands OPEN only if `k` did, the side's FIRE cause standing until it does, and
OPEN was sent if `k` neither stood OPEN nor was opening and the power `p` was on. -/
structure Reopening (k : Shutter) (p : Bool) (sd : Side) (t : State) : Prop where
  asked : (shutter t (sideShutter sd)).asked = some .opened
  cause : k.state ≠ .opened → (shutter t (sideShutter sd)).state ≠ .opened ∧ (view t sd).fireClosed = true
  sent : k.state ∈ [.closed, .closing, .unknown] → p = true →
    (shutter t (sideShutter sd)).state = .opening ∧ .shutter (sideShutter sd) .opened ∈ t.motion.out

theorem Reopening.kept {k : Shutter} {p : Bool} (h : Reopening k p sd s) (g : SideKept sd s t) :
    Reopening k p sd t := by
  refine ⟨by rw [g.door]; exact h.asked, fun hk => ?_, fun hk hp => ?_⟩
  · obtain ⟨hst, hc⟩ := h.cause hk
    exact ⟨by rw [g.door]; exact hst, g.cause.trans hc⟩
  · obtain ⟨hst, ho⟩ := h.sent hk hp
    exact ⟨by rw [g.door]; exact hst, g.out _ ho⟩

theorem reopenSide_reopens (hf : (view s sd).fireClosed = true) :
    Reopening (shutter s (sideShutter sd)) s.motion.power sd (reopenSide s sd) := by
  obtain ⟨hclosed, hsent⟩ := askShutter_opens s (sideShutter sd)
  rw [reopenSide, if_pos hf]
  exact ⟨askShutter_asked _ _ _, fun hk => ⟨hclosed hk, by rw [view_askShutter]; exact hf⟩, hsent⟩

theorem sideKept_reopenSide (s : State) {e : Side} (he : e ≠ sd) : SideKept sd s (reopenSide s e) := by
  unfold reopenSide
  split
  · exact sideKept_askShutter s he _
  · exact SideKept.refl sd s

theorem reopenSides_reopens (hf : (view s sd).fireClosed = true) :
    Reopening (shutter s (sideShutter sd)) s.motion.power sd (sides.foldl reopenSide s) := by
  have heq : sides.foldl reopenSide s = reopenSide (reopenSide s .west) .east := rfl
  rw [heq]
  cases sd with
  | west => exact (reopenSide_reopens hf).kept (sideKept_reopenSide _ (by decide))
  | east =>
    have k := sideKept_reopenSide (sd := .east) s (e := .west) (by decide)
    have hp : (reopenSide s .west).motion.power = s.motion.power := by
      have w : Within Scope.zones s (reopenSide s .west) := by
        unfold reopenSide
        split
        · exact (Within.refl _ s).after_askShutter _ _
        · exact Within.refl _ s
      have hpower := w.port.power
      rw [Prod.mk.injEq] at hpower
      exact hpower.2
    have r := reopenSide_reopens (s := reopenSide s .west) (sd := .east) (k.cause.trans hf)
    rw [k.door, hp] at r
    exact r

/-- In RUN following a side's zone lets the side open (R153). -/
theorem Reopening.guardSide {k : Shutter} {p : Bool} (h : Reopening k p sd s) (hnode : s.fire.node = .run) :
    Reopening k p sd (guardSide s sd) := by
  unfold Machine.guardSide
  rw [if_neg (fun hg => by rw [hnode] at hg; exact NodeState.noConfusion hg.1)]
  split
  · rw [if_pos h.asked]
    dsimp only
    split
    · rename_i hopen
      obtain ⟨hm, _⟩ := liftFireCause_own s sd
      have hd := shutter_of_motion hm (sideShutter sd)
      exact ⟨by rw [hd]; exact h.asked, fun hk => absurd hopen (h.cause hk).1,
        fun hk hp => by rw [hd, hm]; exact h.sent hk hp⟩
    · exact h
  · exact h

theorem Reopening.guardSides {k : Shutter} {p : Bool} (h : Reopening k p sd s) (hnode : s.fire.node = .run) :
    Reopening k p sd (guardSides s) := by
  have hc := mayClose_run hnode
  have w := within_guardSide hc .west
  have hnode' : (Machine.guardSide s .west).fire.node = .run := by rw [w.fire]; exact hnode
  rw [guardSides_eq]
  cases sd with
  | west => exact (h.guardSide hnode).kept (sideKept_guardSide (mayClose_run hnode') (by decide))
  | east => exact (h.kept (sideKept_guardSide hc (by decide))).guardSide hnode'

/-! ### The pause released -/

theorem mem_insertByStamp_of {s : State} {n m : Nat} {l : List Nat} (h : m = n ∨ m ∈ l) :
    m ∈ insertByStamp s n l := by
  induction l with
  | nil => simpa [insertByStamp] using h
  | cons a as ih =>
    unfold insertByStamp
    split
    · rcases h with h | h
      · exact List.mem_cons_of_mem a (ih (Or.inl h))
      · rcases List.mem_cons.mp h with h | h
        · exact h ▸ List.mem_cons_self
        · exact List.mem_cons_of_mem a (ih (Or.inr h))
    · exact List.mem_cons.mpr h

/-- Ordering context numbers by age stamp loses none. -/
theorem mem_byStamp_of {s : State} {m : Nat} {l : List Nat} (h : m ∈ l) : m ∈ byStamp s l := by
  induction l with
  | nil => cases h
  | cons a as ih => exact mem_insertByStamp_of ((List.mem_cons.mp h).imp id ih)

theorem foldl_toTail_ready (l : List Nat) (s : State) (hl : ∀ m ∈ l, m < s.sched.ctxs.length)
    (hn : n ∈ l ∨ (ctxOf s n).state = .ready) : (ctxOf (l.foldl toTail s) n).state = .ready := by
  induction l generalizing s with
  | nil => exact hn.resolve_left List.not_mem_nil
  | cons a as ih =>
    refine ih (toTail s a) (fun m hm => ?_) ?_
    · change m < (s.sched.ctxs.set a _).length
      rw [List.length_set]
      exact hl m (List.mem_cons_of_mem a hm)
    · by_cases hna : n = a
      · refine Or.inr ?_
        rw [ctxOf_toTail, if_pos ⟨hna, hl a List.mem_cons_self⟩]
      · rcases hn with hn | hn
        · exact Or.inl ((List.mem_cons.mp hn).resolve_left hna)
        · refine Or.inr ?_
          rw [ctxOf_toTail, if_neg (fun hh => hna hh.1)]
          exact hn

theorem releasePaused_ready (hlen : s.sched.ctxs.length = 16) (hn : n ∈ ctxNumbers)
    (hst : (ctxOf s n).state = .paused) : (ctxOf (releasePaused s) n).state = .ready :=
  foldl_toTail_ready _ s (fun _ hm => mem_ctxNumbers_filter hlen _ (mem_byStamp hm))
    (Or.inl (mem_byStamp_of (List.mem_filter.mpr ⟨hn, by simpa using hst⟩)))

theorem releasePaused_blocks (s : State) : (releasePaused s).motion = s.motion ∧
    (releasePaused s).slots = s.slots ∧ (releasePaused s).fire = s.fire :=
  ⟨foldl_keeps (f := toTail) State.motion (fun _ _ => rfl) _ s,
    foldl_keeps (f := toTail) State.slots (fun _ _ => rfl) _ s,
    foldl_keeps (f := toTail) State.fire (fun _ _ => rfl) _ s⟩

/-! ### The end of an event once the node state is settled -/

/-- What an event's end settles after the node state: the sides, the homing put-away, the choice and the resends. -/
def settleRest (s : State) : State :=
  sides.foldl resendLoaded (runSchedule scheduleBound (commandPutAway (guardSides s)))

theorem settle_settleRest (s : State) : settle s = settleRest (resumeSync (shutdownSync (moveOverflow s))) := rfl

theorem settleRest_fire (s : State) : (settleRest s).fire = s.fire := by
  have hall : ∀ m : Nat, Scope.any.who m := fun _ => trivial
  have w := (((Within.refl Scope.any s).after_guardSides trivial (Or.inr (Or.inr ⟨hall, trivial⟩))).after_commandPutAway
    trivial).after_runSchedule trivial trivial (fun m => Or.inl (hall m)) scheduleBound
  exact (w.after_resendAll trivial).fire

/-- In RUN with the gantry busy no context is chosen. -/
theorem settleRest_busy (hnode : s.fire.node = .run) (hg : s.motion.gantry ≠ .idle) :
    settleRest s = sides.foldl resendLoaded (flushWoken (guardSides s)) := by
  have w := within_guardSides (mayClose_run hnode)
  obtain ⟨hgantry, _⟩ := w.drive_eq (fun hf => hf)
  have hg' : (guardSides s).motion.gantry ≠ .idle := by rw [hgantry]; exact hg
  rw [settleRest, commandPutAway_busy _ hg', runSchedule_busy _ _ hg']

theorem settleRest_ready (hnode : s.fire.node = .run) (hg : s.motion.gantry ≠ .idle)
    (hst : (ctxOf s n).state = .ready) : (ctxOf (settleRest s) n).state = .ready := by
  have w : Within Scope.closing s (settleRest s) := by
    rw [settleRest_busy hnode hg]
    exact (((Within.refl _ s).after_guardSides trivial
      (Or.inr (Or.inl (by rw [hnode]; exact NodeState.noConfusion)))).after_flushWoken).after_resendAll trivial
  exact (w.sched.state n (fun hf => hf) (by
    change (ctxOf s n).state ≠ _
    rw [hst]
    exact CtxState.noConfusion)).trans hst

theorem Reopening.settleRest {k : Shutter} {p : Bool} (h : Reopening k p sd s) (hnode : s.fire.node = .run)
    (hg : s.motion.gantry ≠ .idle) : Reopening k p sd (settleRest s) := by
  rw [settleRest_busy hnode hg]
  exact ((h.guardSides hnode).kept (sideKept_flushWoken _ sd)).kept (sideKept_resendAll _ sd)

theorem ctxOf_endEvent (was s : State) (n : Nat) : ctxOf (endEvent was s) n = ctxOf s n := by
  rw [ctxOf, (endEvent_blocks was s).sched, ctxOf]

/-! ### A FIRE CLEAR that leaves no zone near the node afire -/

/-- What the node that leaves GUARD for RUN makes of `s`, to the end of its event. -/
structure GuardLeft (s t : State) : Prop where
  node : t.fire.node = .run
  ctx : ∀ n ∈ ctxNumbers, (ctxOf s n).state = .paused → (ctxOf t n).state = .ready
  sides : ∀ sd, (view s sd).fireClosed = true → Reopening (shutter s (sideShutter sd)) s.motion.power sd t

theorem guardLeft_leaveGuard (hlen : s.sched.ctxs.length = 16) (hg : s.motion.gantry ≠ .idle) :
    GuardLeft s (leaveGuard s) ∧ (leaveGuard s).motion.gantry ≠ .idle := by
  have w := within_sidesReopened s
  obtain ⟨hgantry, _⟩ := w.drive_eq (fun hf => hf)
  have hleave : leaveGuard s = releasePaused (sidesReopened s) := rfl
  obtain ⟨rm, rs, rf⟩ := releasePaused_blocks (sidesReopened s)
  rw [hleave]
  refine ⟨⟨?_, fun n hn hst => ?_, fun sd hf => ?_⟩, by rw [rm, hgantry]; exact hg⟩
  · rw [rf, w.fire]
    rfl
  · refine releasePaused_ready (w.sched.ctxs.trans hlen) hn ?_
    exact (w.sched.state n (fun hf => hf) (by
      change (ctxOf s n).state ≠ _
      rw [hst]
      exact CtxState.noConfusion)).trans hst
  · have hr := reopenSides_reopens (s := setNode s .run) (sd := sd) hf
    have hnode : (Machine.sides.foldl reopenSide (setNode s .run)).fire.node = .run := by
      rw [(within_reopenSides (setNode s .run)).fire]
      rfl
    exact (hr.guardSides hnode).kept (sideKept_of_blocks rm (view_of_slots rs sd))

/-- A node in RUN with the gantry busy stays as it has left GUARD through the end of the event. -/
theorem GuardLeft.ends {body : State → State} (hl : GuardLeft u v) (hb : body (clearOut s) = v)
    (hg : v.motion.gantry ≠ .idle) : GuardLeft u (fullEvent body s) := by
  let m := moveOverflow v
  have mf : m.fire = v.fire := moveOverflow_fire v
  have mn : m.fire.node = .run := by rw [mf]; exact hl.node
  have mg : m.motion.gantry ≠ .idle := by rw [moveOverflow_motion]; exact hg
  have hsettle : settle v = settleRest m := by
    rw [settle_settleRest, shutdownSync_elsewhere m (by rw [mn]; exact NodeState.noConfusion),
      resumeSync_elsewhere m (by rw [mn]; exact NodeState.noConfusion)]
  have hend : fullEvent body s = endEvent (clearOut s) (settleRest m) := by rw [fullEvent, hb, hsettle]
  rw [hend]
  refine ⟨?_, fun n hn hst => ?_, fun sd hf => ?_⟩
  · rw [(endEvent_blocks _ _).fire, settleRest_fire]
    exact mn
  · rw [ctxOf_endEvent]
    refine settleRest_ready mn mg ?_
    rw [ctxOf, moveOverflow_sched]
    exact hl.ctx n hn hst
  · exact (((hl.sides sd hf).kept (sideKept_moveOverflow v sd)).settleRest mn mg).kept (sideKept_endEvent _ _ sd)

theorem reopenLeft_run (was : State) (hnode : s.fire.node = .run) : reopenLeft was s = s := by
  have hone : ∀ sd, (if s.fire.node = .guarded ∧ sideAfire was sd ∧ sideAfire s sd = false then reopenSide s sd
      else s) = s := fun sd => if_neg (fun hg => by
    rw [hnode] at hg
    exact NodeState.noConfusion hg.1)
  have heq : reopenLeft was s = (sides.foldl (fun t sd =>
    if t.fire.node = .guarded ∧ sideAfire was sd ∧ sideAfire t sd = false then reopenSide t sd else t) s) := rfl
  rw [heq, show sides = [.west, .east] from rfl, List.foldl_cons, hone, List.foldl_cons, hone, List.foldl_nil]

/-- GUARD is left once: the state decision made again leaves the node in RUN. -/
theorem decideState_leaveGuard (hnode : s.fire.node = .guarded) (hzone : zoneAfire s s.board.zone = false)
    (hgrade : bayGrade s ≠ .alarm) (ha : neighbourAfire s = false) :
    decideState s = leaveGuard s ∧ decideState (leaveGuard s) = leaveGuard s ∧ (leaveGuard s).fire.node = .run := by
  have hlast := lasting_leaveGuard s
  have hrun : (leaveGuard s).fire.node = .run := by
    rw [show leaveGuard s = releasePaused (sidesReopened s) from rfl, (releasePaused_blocks _).2.2,
      (within_sidesReopened s).fire]
    rfl
  have hk := kept_of_lasting hlast
  simp only [kept, Prod.mk.injEq] at hk
  obtain ⟨hboard, _, _, hdet, hzones, _, hsetup, _⟩ := hk
  refine ⟨decideState_leaves hnode hzone hgrade ha, decideState_stays hrun ?_ ?_ ?_, hrun⟩
  · rw [zoneAfire, hboard, hzones]
    exact hzone
  · rw [bayGrade_congr hdet hsetup]
    exact hgrade
  · rw [neighbourAfire_of_lasting hlast]
    exact ha

/-- A FIRE CLEAR that leaves neither the own zone nor a neighbour's afire ends GUARD, the detectors' grades cleared
or not. -/
theorem takeFireClear_leaves {z : ZoneSet} (hnode : s.fire.node = .guarded) (hlatch : s.fire.latch = false)
    (hgrade : bayGrade s ≠ .alarm) (hzone : s.fire.zones.getLsbD s.board.zone.toNat = false)
    (hburn : ∀ sd, ¬ BurnsBeside s (s.fire.zones &&& ~~~z) sd) :
    ∃ w, takeFireClear h z (heard s h) = leaveGuard w ∧ w.sched.ctxs = s.sched.ctxs ∧
      w.motion = (clearOut s).motion ∧ w.slots = s.slots := by
  have hh := heard_as s h
  let u := rezoned s h (s.fire.zones &&& ~~~z)
  obtain ⟨un, uz, ug, ua⟩ := rezoned_decides s h (s.fire.zones &&& ~~~z)
  have uz' : zoneAfire u u.board.zone = false := by
    rw [uz, BitVec.getLsbD_and, hzone, Bool.false_and]
  have unear : neighbourAfire u = false := neighbourAfire_false (fun sd => by
    rw [Bool.eq_false_iff]
    exact fun ha => hburn sd ((ua sd).mp ha))
  have hleaves : ∀ w, w.fire = u.fire → zoneAfire w w.board.zone = zoneAfire u u.board.zone →
      neighbourAfire w = neighbourAfire u → bayGrade w ≠ .alarm →
      decideState w = leaveGuard w ∧ decideState (leaveGuard w) = leaveGuard w ∧ (leaveGuard w).fire.node = .run :=
    fun w hf hz hn hgr =>
      decideState_leaveGuard (by rw [hf]; exact un.trans hnode) (hz.trans uz') hgr (hn.trans unear)
  have hdone : ∀ w, decideState w = leaveGuard w ∧ decideState (leaveGuard w) = leaveGuard w ∧
      (leaveGuard w).fire.node = .run → ∀ x, (x = w ∨ x = leaveGuard w) →
        reopenLeft (heard s h) (decideState x) = leaveGuard w := by
    rintro w ⟨h1, h2, hrun⟩ x (rfl | rfl)
    · rw [h1, reopenLeft_run _ hrun]
    · rw [h2, reopenLeft_run _ hrun]
  have htake : takeFireClear h z (heard s h) = reopenLeft (heard s h) (decideState
      (if z.getLsbD s.board.zone.toNat then gradeChanged (bayGrade (heard s h)) (clearGrades u) else u)) := by
    have hl : (heard s h).fire.latch = false := by rw [hh.fire]; exact hlatch
    rw [takeFireClear, hl, if_neg Bool.false_ne_true, hh.board]
    simp only [u, rezoned, hh.fire]
  rw [htake]
  cases z.getLsbD s.board.zone.toNat with
  | false =>
    have hu := hleaves u rfl rfl rfl (by rw [ug]; exact hgrade)
    exact ⟨u, hdone u hu u (Or.inl rfl), hh.ctxs, hh.motion, hh.slots⟩
  | true =>
    let c := clearGrades u
    have hlow := bayGrade_clearGrades u
    have hwarn : gradeWarns c = false := by
      rcases hlow with hl | hl <;> simp [gradeWarns, c, hl, gradeNum]
    have halarm : bayGrade c ≠ .alarm := by
      rcases hlow with hl | hl <;> simp [c, hl]
    have hc := hleaves c rfl rfl rfl halarm
    refine ⟨c, hdone c hc _ ?_, hh.ctxs, hh.motion, hh.slots⟩
    rw [if_pos rfl, gradeChanged]
    split
    · exact Or.inl rfl
    · rw [hwarn, if_neg Bool.false_ne_true]
      dsimp only
      rw [if_neg halarm, hc.1]
      exact Or.inr rfl

theorem fireClear_releases {z : ZoneSet} (hacc : accepts s h = true) (hts : TablesSized s)
    (hnode : s.fire.node = .guarded) (hlatch : s.fire.latch = false) (hg : s.motion.gantry ≠ .idle)
    (hgrade : bayGrade s ≠ .alarm) (hzone : s.fire.zones.getLsbD s.board.zone.toNat = false)
    (hburn : ∀ sd, ¬ BurnsBeside s (s.fire.zones &&& ~~~z) sd) :
    ∃ t, exec (.fireClear h z) s = .next t ∧ GuardLeft s t := by
  obtain ⟨_, hlen, _⟩ := hts
  obtain ⟨w, hw, wc, wm, ws⟩ := takeFireClear_leaves (h := h) hnode hlatch hgrade hzone hburn
  obtain ⟨hl, hgv⟩ := guardLeft_leaveGuard (s := w) (by rw [wc]; exact hlen) (by rw [wm]; exact hg)
  have hend := hl.ends (body := fun _ => takeFireClear h z (heard s h)) (s := s) hw hgv
  rw [← receiveFire_eq hacc] at hend
  refine ⟨_, rfl, hend.node, fun n hn hst => hend.ctx n hn ?_, fun sd hf => ?_⟩
  · rw [ctxOf, wc]
    exact hst
  · have hs := hend.sides sd (by rw [view_of_slots ws]; exact hf)
    have hd : shutter w (sideShutter sd) = shutter s (sideShutter sd) := by
      refine (shutter_of_motion wm _).trans ?_
      cases sd <;> rfl
    have hp : w.motion.power = s.motion.power := by
      rw [wm]
      rfl
    rw [hd, hp] at hs
    exact hs

/-! ### The end of RESUMING -/

/-- A node in RESUMING whose last shutter has just reported OPEN. -/
structure Resumed (s v : State) : Prop where
  node : v.fire.node = .resuming
  opening : v.fire.opening = true
  resumeTo : v.fire.resumeTo = s.fire.resumeTo
  afire : neighbourAfire v = neighbourAfire s
  reconciled : v.startup.reconciled = true
  shutters : ∀ k, shutterResumed v k = true
  ctxs : v.sched.ctxs = s.sched.ctxs
  gantry : v.motion.gantry = s.motion.gantry
  header : headerMatches v = headerMatches s

theorem shutterResumed_of_motion (h : t.motion = s.motion) (k : ShutterId) :
    shutterResumed t k = shutterResumed s k := by rw [shutterResumed, shutter_of_motion h, shutterResumed]

theorem Resumed.marks (h : Resumed s v) (l : Sched) (hl : l.ctxs = v.sched.ctxs) : Resumed s (v.withSched l) :=
  ⟨h.node, h.opening, h.resumeTo, h.afire, h.reconciled, h.shutters, hl.trans h.ctxs, h.gantry, h.header⟩

theorem Resumed.fireCause (h : Resumed s v) (sd : Side) : Resumed s (setFireCause v false sd) := by
  let m := modView v sd (fun w => { w with fireClosed := false })
  have hm : Resumed s m := by
    have hmotion : m.motion = v.motion := modView_motion v sd _
    have hlast : lasting m = lasting v := lasting_modView v sd _
    have hf : m.fire = v.fire := modView_fire v sd _
    refine ⟨by rw [hf]; exact h.node, by rw [hf]; exact h.opening, by rw [hf]; exact h.resumeTo,
      (neighbourAfire_of_lasting hlast).trans h.afire, ?_, fun k => (shutterResumed_of_motion hmotion k).trans
        (h.shutters k), by rw [show m.sched = v.sched from modView_sched v sd _]; exact h.ctxs,
      by rw [hmotion]; exact h.gantry, ?_⟩
    · rw [← h.reconciled]
      cases sd <;> rfl
    · rw [← h.header]
      cases sd <;> rfl
  obtain ⟨k, hk⟩ := liftFireCause_eq v sd
  rw [hk]
  exact hm.marks _ (congrArg Sched.ctxs (modView_sched v sd _)).symm

/-- The last shutter to report OPEN in RESUMING. -/
theorem resumed_shutterReport {sh : ShutterId} (hnode : s.fire.node = .resuming) (hopen : s.fire.opening = true)
    (hrec : s.startup.reconciled = true) (hasked : (shutter s sh).asked = some .opened)
    (hothers : ∀ k, k ≠ sh → (shutter s k).state = .opened ∨ (shutter s k).state = .unknown) :
    Resumed s (shutterReport sh .opened (clearOut s)) := by
  let k : Shutter := { shutter s sh with state := .opened, timer := none }
  let t := setShutter (clearOut s) sh k
  have hclear : ∀ e, shutter (clearOut s) e = shutter s e := fun e => by cases e <;> rfl
  have ht : Resumed s t := by
    have hdoor : ∀ e, shutterResumed t e = true := fun e => by
      rw [shutterResumed, shutter_setShutter, hclear]
      by_cases he : e = sh
      · simp [he, k]
      · simpa [he] using hothers e he
    refine ⟨?_, ?_, ?_, ?_, ?_, hdoor, ?_, ?_, ?_⟩
    · rw [← hnode]
      cases sh <;> rfl
    · rw [← hopen]
      cases sh <;> rfl
    · cases sh <;> rfl
    · exact (neighbourAfire_of_lasting (lasting_setShutter _ _ _)).trans
        (neighbourAfire_of_lasting (lasting_clearOut s))
    · rw [← hrec]
      cases sh <;> rfl
    · cases sh <;> rfl
    · cases sh <;> rfl
    · cases sh <;> rfl
  have hreport : shutterReport sh .opened (clearOut s) =
      shutterOpened t sh ((shutter s sh).state ≠ .opened) := by
    rw [shutterReport, hclear, if_neg, if_pos rfl]
    rw [hasked]
    simp
  rw [hreport]
  unfold shutterOpened
  split
  · split
    · exact ht.fireCause _
    · exact ht
  · have hhold : Resumed s (if fireReason t sh then t else t.withFire { t.fire with chuteHold := false }) := by
      split
      · exact ht
      · exact ⟨ht.node, ht.opening, ht.resumeTo, ht.afire, ht.reconciled, ht.shutters, ht.ctxs, ht.gantry, ht.header⟩
    extract_lets w
    split
    · exact hhold.marks _ rfl
    · exact hhold

theorem Resumed.moveOverflow (h : Resumed s v) : Resumed s (moveOverflow v) := by
  have hm : (Machine.moveOverflow v).motion = v.motion := moveOverflow_motion v
  have hf : (Machine.moveOverflow v).fire = v.fire := moveOverflow_fire v
  obtain ⟨a, o, heq⟩ := moveOverflow_eq v
  refine ⟨by rw [hf]; exact h.node, by rw [hf]; exact h.opening, by rw [hf]; exact h.resumeTo,
    (neighbourAfire_of_lasting (lasting_moveOverflow v)).trans h.afire, by rw [heq]; exact h.reconciled,
    fun k => (shutterResumed_of_motion hm k).trans (h.shutters k), by rw [moveOverflow_sched]; exact h.ctxs,
    by rw [hm]; exact h.gantry, by rw [heq]; exact h.header⟩

/-- With every shutter reported, RESUMING ends in the event. -/
theorem Resumed.settles (h : Resumed s v) : settle v = settleRest (endResuming (Machine.moveOverflow v)) := by
  have hm := h.moveOverflow
  have hall : shutterIds.all (shutterResumed (Machine.moveOverflow v)) = true :=
    List.all_eq_true.mpr (fun k _ => hm.shutters k)
  rw [settle_settleRest, shutdownSync_elsewhere _ (by rw [hm.node]; exact NodeState.noConfusion), resumeSync,
    if_pos ⟨hm.node, hm.opening, hm.reconciled, hall⟩]

/-! ### Where RESUMING leads -/

theorem enterGuard_node (s : State) : (enterGuard s).fire.node = .guarded := by
  have hall : ∀ m : Nat, Scope.any.who m := fun _ => trivial
  have hp : Within Scope.any (setNode s .guarded) (pauseHeld (pauseIn (setNode s .guarded) CtxState.waitsGantry)) := by
    have h1 := (Within.refl Scope.any (setNode s .guarded)).after_pauseIn hall CtxState.waitsGantry
    unfold pauseHeld
    split
    · exact h1
    · exact (h1.after_dropHeld hall trivial).after_pauseCtx trivial
  have hw := (hp.after_withdrawAllBids hall trivial).foldl withdrawClaim sides
    (fun _ sd _ hu => hu.after_withdrawClaim sd)
  rw [enterGuard, (hw.after_guardSides trivial (Or.inr (Or.inr ⟨hall, trivial⟩))).fire]
  rfl

/-- The state that RESUMING leads a node to (R159). -/
def resumedNode (s : State) : NodeState :=
  match s.fire.resumeTo with
  | .run | .guarded => if neighbourAfire s then .guarded else .run
  | .survey => .survey
  | .joining => .joining
  | _ => if headerMatches s then .joining else .survey

theorem enterRun_node (s : State) : (enterRun s).fire.node = if neighbourAfire s then .guarded else .run := by
  rw [enterRun]
  split
  · exact enterGuard_node s
  · rw [(releasePaused_blocks _).2.2]
    rfl

theorem enterJoining_node (s : State) : (enterJoining s).fire.node = .joining := by
  unfold enterJoining postAnnounce
  split <;> rfl

theorem leaveHoming_node (s : State) :
    (leaveHoming s).fire.node = if headerMatches s then .joining else .survey := by
  rw [leaveHoming]
  split
  · exact enterJoining_node s
  · rfl

theorem endResuming_node (s : State) : (endResuming s).fire.node = resumedNode s := by
  unfold endResuming resumedNode
  cases s.fire.resumeTo with
  | run => exact enterRun_node _
  | guarded => exact enterRun_node _
  | survey => rfl
  | joining => exact enterJoining_node _
  | homing => exact leaveHoming_node _
  | shutdown => exact leaveHoming_node _
  | safe => exact leaveHoming_node _
  | resuming => exact leaveHoming_node _

/-- With no neighbour zone afire, RESUMING that leads back to RUN releases the pause. -/
theorem endResuming_run (hto : s.fire.resumeTo = .run ∨ s.fire.resumeTo = .guarded)
    (ha : neighbourAfire s = false) :
    endResuming s = releasePaused (setNode (s.withFire { s.fire with opening := false }) .run) := by
  have ha' : neighbourAfire (s.withFire { s.fire with opening := false }) = false := ha
  have he : endResuming s = enterRun (s.withFire { s.fire with opening := false }) := by
    unfold endResuming
    rcases hto with hto | hto <;> rw [hto]
  rw [he, enterRun, ha', if_neg Bool.false_ne_true]

theorem resumed_ends {sh : ShutterId} (hts : TablesSized s) (hnode : s.fire.node = .resuming)
    (hopen : s.fire.opening = true) (hrec : s.startup.reconciled = true) (hasked : (shutter s sh).asked = some .opened)
    (hothers : ∀ k, k ≠ sh → (shutter s k).state = .opened ∨ (shutter s k).state = .unknown)
    (hg : s.motion.gantry ≠ .idle) :
    ∃ t, exec (.shutterDone sh .opened) s = .next t ∧ t.fire.node = resumedNode s ∧
      ((s.fire.resumeTo = .run ∨ s.fire.resumeTo = .guarded) → neighbourAfire s = false →
        ∀ n ∈ ctxNumbers, (ctxOf s n).state = .paused → (ctxOf t n).state = .ready) := by
  obtain ⟨_, hlen, _⟩ := hts
  have h := resumed_shutterReport hnode hopen hrec hasked hothers
  have hm := h.moveOverflow
  have hend : fullEvent (shutterReport sh .opened) s = endEvent (clearOut s)
      (settleRest (endResuming (moveOverflow (shutterReport sh .opened (clearOut s))))) := by
    rw [fullEvent, h.settles]
  generalize moveOverflow (shutterReport sh .opened (clearOut s)) = m at hm hend
  refine ⟨_, rfl, ?_, fun hto ha n hn hst => ?_⟩
  · rw [hend, (endEvent_blocks _ _).fire, settleRest_fire, endResuming_node, resumedNode, resumedNode, hm.resumeTo,
      hm.afire, hm.header]
  · have hrun := endResuming_run (s := m) (by rw [hm.resumeTo]; exact hto) (hm.afire.trans ha)
    obtain ⟨rm, _, rf⟩ := releasePaused_blocks (setNode (m.withFire { m.fire with opening := false }) .run)
    rw [hend, ctxOf_endEvent, hrun]
    refine settleRest_ready (by rw [rf]; rfl) (by rw [rm]; exact fun hi => hg (hm.gantry.symm.trans hi)) ?_
    refine releasePaused_ready ((congrArg List.length hm.ctxs).trans hlen) hn ?_
    change (m.sched.ctxs.getD n Ctx.blank).state = _
    rw [hm.ctxs]
    exact hst

/-- Settles O60: the entry into GUARD, the return to RUN, and the end of RESUMING. -/
theorem guardHoldsTheBay : Obligations.GuardHoldsTheBay := by
  refine ⟨fun s h z hacc hts hnode hheld hgrade hzone hburn =>
      fire_guards hacc hts hnode hheld hgrade hzone hburn,
    fun s h z hacc hts hnode hlatch hg hgrade hzone hburn => ?_,
    fun s sh hts hnode hopen hrec hasked hothers hg => ?_⟩
  · obtain ⟨t, ht, hl⟩ := fireClear_releases hacc hts hnode hlatch hg hgrade hzone hburn
    refine ⟨t, ht, hl.node, hl.ctx, fun sd _ hf => ?_⟩
    have hs := hl.sides sd hf
    exact ⟨hs.asked, fun hk => (hs.cause hk).2, hs.sent⟩
  · obtain ⟨t, ht, hn, hc⟩ := resumed_ends hts hnode hopen hrec hasked hothers hg
    refine ⟨t, ht, hn.trans ?_, hc⟩
    unfold resumedNode
    cases s.fire.resumeTo <;> rfl

end Sys2Proof.Machine
end
